-- ==== Sys2Proof/Word.lean ====
section
/-! DEFINITION. Bytes, beats and the sizes of the FU-2480's address space. -/

namespace Sys2Proof

/-- One byte of a record or of page memory. -/
abbrev Byte := BitVec 8

/-- One beat: 16 bytes of transaction data as one number, its first byte the least significant (spec/00 section 5, R1). -/
abbrev Beat := BitVec 128

/-- The first address beyond the 40-bit address space (R1). -/
abbrev addressEnd : Nat := 2 ^ 40

/-- The page whose boundary no transaction may cross (R2), and the granule of region bases and lengths (R5). -/
abbrev pageSize : Nat := 4096

/-- The top of a 32-bit counter that stops there (R41, R112, R127). -/
abbrev top32 : Nat := 2 ^ 32 - 1

end Sys2Proof
end

