-- ==== Sys2Proof/Syntax.lean ====
section
/-! DEFINITION. The commands of the FU-2480: one constructor per row of spec/opcode_table.json. -/

namespace Sys2Proof

/-- The direction of a transaction (R1), coded in this order (13.3). -/
inductive Direction where
  | read
  | write
  deriving DecidableEq, Repr, Inhabited

/-- A transaction at the subordinate port, with the fields of R1. `tagVerifies` is the verdict of the directive
unit on the tag of these bytes, should they reach test 4 of R23: the tag algorithm is outside the manual, and its
result comes with the command (free value, log 8). -/
structure Transaction where
  requester   : Nat
  direction   : Direction
  address     : Nat
  beats       : Nat
  data        : List Byte
  tagVerifies : Bool
  deriving DecidableEq, Repr, Inhabited

/-- One byte on CART_BUS with the parity bit it travels with (R147). -/
structure LinkByte where
  value  : Byte
  parity : Bool
  deriving DecidableEq, Repr, Inhabited

/-- The commands and events the part takes, in the order of spec/opcode_table.json. A directive's row has no operand
of its own: it is the step at which the owner takes the executing directive, whose operands are those of the
directive unit's copy (R22, R25; log 2). -/
inductive Instr where
  | subordinateTransaction (t : Transaction)
  | keyFaultReport
  | directiveEntry (requester : Nat)
  | replyWriteDone
  | summaryWriteDone
  | noticeWrite
  | status
  | note
  | setNoticeRing
  | setAttentionMask
  | clearAttention
  | setRoles
  | lockdown
  | recover
  | regionBind
  | regionUnbind
  | regionRead
  | jobOpen
  | jobHold
  | jobRelease
  | jobClose
  | jobRead
  | closeDeadline (slot : Nat)
  | accountSet
  | accountAdjust
  | accountSuspend
  | accountResume
  | accountRead
  | accountClear
  | periodClose
  | setTariff
  | sheetsRead
  | consumableRead
  | checkNow
  | setLowMark
  | setSchedule
  | snapshot
  | snapshotImageCopy
  | snapshotCompositionEnd
  | restore
  | restoreReadEnd
  | meterRead
  | engSheet
  | engJam
  | scnPage
  | presenceLineChange (position : Nat) (level : Bool)
  | presenceRise (position : Nat)
  | presenceFall (position : Nat)
  | epochBoundary
  | linkEntryStart
  | requestFrameSent
  | replyFrame (bytes : List LinkByte) (responsePasses : Bool)
  | replyTimeout
  | quietEnd
  | pwrWarn
  | bankComplete
  | tamperFall
  | tamperRise
  | powerOn
  | resetN
  | restoreAreaRead (beats : Nat)
  | pwrWarnRelease
  deriving DecidableEq, Repr, Inhabited

end Sys2Proof
end

