-- ==== Sys2Proof/Config.lean ====
section
/-! DEFINITION. What the manual leaves to the implementation, as constants nothing can evaluate (assumption log 6, 7, 9,
10, 13). -/

namespace Sys2Proof

/-- A job key, named by the draw of the key generator that made it. The manual gives a key no width and lets
no reader see one (R63), so its bits stand only behind `Config.cipher`; two draws are two keys (R64). Log 7. -/
structure JobKey where
  draw : Nat
  deriving DecidableEq, Repr, Inhabited

/-- The key check kept beside a key: the key it was derived from (R63, R64). Log 7, DESIGN CHOICE. -/
structure KeyCheck where
  derivedFrom : JobKey
  deriving DecidableEq, Repr, Inhabited

/-- The cipher tweak of R66: the region's segment number and the beat's offset from the region base in beats. -/
structure Tweak where
  segment : Nat
  beat    : Nat
  deriving DecidableEq, Repr, Inhabited

/-- A cipher as R66 has it: under each key and tweak it turns a beat of plaintext into a beat of ciphertext and back,
and one plaintext at another beat offset, under another segment number or under another key gives another ciphertext.
A beat has 2^128 values, so this holds for the tweaks there are and, as a bound of the model's own, for keys of the
first 2^64 draws. The values given here only show that such a cipher exists. -/
structure Cipher where
  turn : JobKey → Tweak → Equiv.Perm Beat := fun key tweak =>
    Equiv.addRight (BitVec.ofNat 128 (2 ^ 28 * key.draw + 2 ^ 24 * tweak.segment + tweak.beat))
  separates : ∀ (key key' : JobKey) (tweak tweak' : Tweak) (b : Beat), key.draw < 2 ^ 64 → key'.draw < 2 ^ 64 →
      tweak.segment < 16 → tweak'.segment < 16 → tweak.beat < 2 ^ 24 → tweak'.beat < 2 ^ 24 →
      turn key tweak b = turn key' tweak' b → key = key' ∧ tweak = tweak' := by
    rintro ⟨d⟩ ⟨d'⟩ ⟨g, n⟩ ⟨g', n'⟩ b hd hd' hg hg' hn hn' h
    change b + BitVec.ofNat 128 (2 ^ 28 * d + 2 ^ 24 * g + n) =
      b + BitVec.ofNat 128 (2 ^ 28 * d' + 2 ^ 24 * g' + n') at h
    have h := congrArg BitVec.toNat (add_left_cancel h)
    simp only [BitVec.toNat_ofNat] at h
    simp only [JobKey.mk.injEq, Tweak.mk.injEq]
    simp only at hd hd' hg hg' hn hn' h
    rw [Nat.mod_eq_of_lt (by omega), Nat.mod_eq_of_lt (by omega)] at h
    omega
  deriving Inhabited

/-- The cipher algorithm is outside the manual (spec/00 section 4): nothing is known of it but what `Cipher` says.
Free value, log 6. -/
opaque Config.cipherUnit : Cipher

/-- What the cipher unit does with a beat under a key and a tweak (R66). -/
def Config.cipher (key : JobKey) (tweak : Tweak) : Equiv.Perm Beat := Config.cipherUnit.turn key tweak

/-- The 16 bytes that the generator gives for a nonce at its n-th draw (R149). Free value, log 9. -/
opaque Config.nonce : Nat → Beat

/-- The snapshot tag algorithm, outside the manual: the tag of some bytes under a directive key (R161).
Free value, log 10. -/
opaque Config.snapshotTag : Nat → List Byte → Beat

/-- The byte that stands for ORPHAN where a record gives a sheet's owner (R99, R110): the code tables of 13.3 give
it none. Free value, log 13. -/
opaque Config.orphanOwnerCode : Byte

end Sys2Proof
end

