-- ==== Sys2Proof/Machine/State.lean ====
section
/-! DEFINITION. The state of the FU-2480, unit by unit as spec/00 section 2 lists what each unit owns, and the
state after reset. Where a type's constructors are coded in a record, they stand in the order of spec/13 (13.3),
in which codes run from 0. -/

namespace Sys2Proof.Machine

/-! ## Names -/

/-- The units of the part, in the order of the block table of spec/00 section 2. -/
inductive Block where
  | transactionUnit | cipherUnit | directiveUnit | jobUnit | bandParser | chargingUnit | accountUnit
  | consumableUnit | linkUnit | meterUnit | lockdownControl
  deriving DecidableEq, Repr, Inhabited

/-- The roles of R3. -/
inductive Role where
  | control | pipeline | scan | video | store | other
  deriving DecidableEq, Repr, Inhabited

/-- The reasons of a refusal decided by the transaction unit or the cipher unit (R17). -/
inductive AccessReason where
  | split | noRegion | noGrant | scanStop | keyFault | lockdown
  deriving DecidableEq, Repr, Inhabited

/-- What the part does with one transaction (R1). -/
inductive Treatment where
  | pass
  | enciphered
  | deciphered
  | raw
  | refused (reason : AccessReason)
  deriving DecidableEq, Repr, Inhabited

/-- The planes of a page (spec/00 section 5). -/
inductive Plane where
  | k | c | m | y
  deriving DecidableEq, Repr, Inhabited

/-- A set of planes, bit 0 K to bit 3 Y (13.5). -/
abbrev PlaneMask := BitVec 4

/-- The region kinds of R5. -/
inductive RegionKind where
  | scan | page
  deriving DecidableEq, Repr, Inhabited

/-- The parser states of R78 as codes of 13.3. -/
inductive ParserState where
  | atHeader | inPayload | broken
  deriving DecidableEq, Repr, Inhabited

/-- The kinds of a job (R42). -/
inductive JobKind where
  | copy | print | heldPrint | scanSend | scanBox
  deriving DecidableEq, Repr, Inhabited

/-- The states of a job slot (R43). -/
inductive JobState where
  | free | active | held | released | closing
  deriving DecidableEq, Repr, Inhabited

/-- The reason a close ends with (R56, R58; 13.6). -/
inductive CloseReason where
  | drained | timeout
  deriving DecidableEq, Repr, Inhabited

/-- The kinds of a side (R77). -/
inductive SideKind where
  | simplex | front | back
  deriving DecidableEq, Repr, Inhabited

/-- The states of a sheet (R95). -/
inductive SheetState where
  | fillingFront | awaitingBack | fillingBack | complete
  deriving DecidableEq, Repr, Inhabited

/-- The causes of abandonment (R93). -/
inductive AbandonCause where
  | restart | framing | newSideSameRegion | newSideOtherRegion | earlySheet | jam | closeTimeout | lockdown
  deriving DecidableEq, Repr, Inhabited

/-- The reasons of FRAMING notices, in the order R79 and R82 introduce them (log 14). -/
inductive FramingReason where
  | broken | framingGap | headerSplit | badSync | badCheck | badField | length | plane | noSide | sequence
  deriving DecidableEq, Repr, Inhabited

/-- The side-start checks by the reason each names (R87), in order. -/
inductive SideReason where
  | jobState | limit | account | colourDenied | funds | consumable | sheetQueue
  deriving DecidableEq, Repr, Inhabited

/-- The states of an account (R113). -/
inductive AccountState where
  | unused | active | suspended
  deriving DecidableEq, Repr, Inhabited

/-- The modes of an account (R114). -/
inductive AccountMode where
  | prepaid | credit | unmetered
  deriving DecidableEq, Repr, Inhabited

/-- The states of a consumable position (R127). -/
inductive ConsumableState where
  | absent | authenticating | genuine | rejected | exhausted | linkFault
  deriving DecidableEq, Repr, Inhabited

/-- The reject reasons of R127. -/
inductive RejectReason where
  | badResponse | wrongPosition | serialChanged | linkFailed
  deriving DecidableEq, Repr, Inhabited

/-- The check results of R132 and R141. -/
inductive CheckResult where
  | passed | wrongPosition | badResponse | serialChanged | linkFailed | removed
  deriving DecidableEq, Repr, Inhabited

/-- The kinds of a link entry (R131). -/
inductive LinkKind where
  | authenticate | recheck | sync
  deriving DecidableEq, Repr, Inhabited

/-- The part modes of R167. -/
inductive PartMode where
  | normal | lockdown
  deriving DecidableEq, Repr, Inhabited

/-- The lockdown causes of R167. -/
inductive LockdownCause where
  | tamper | keyFault | directive | tamperAtReset
  deriving DecidableEq, Repr, Inhabited

/-- The reset causes of R167. -/
inductive ResetCause where
  | powerOn | resetLine
  deriving DecidableEq, Repr, Inhabited

/-- The outcomes of a directive (R28). -/
inductive OutcomeCode where
  | done | busy | unknown | refusedState | refusedRange | stale | noRoom | duplicate | locked
  deriving DecidableEq, Repr, Inhabited

/-- The details of 13.3, `none` being the code 0. -/
inductive Detail where
  | none
  | roleCode | noControl | jobsOpen | badOperand | badRange | jobState | kind | jobRegions | segment | overlapRegion
  | overlapOwned | tableFull | notBound | openSide | badFlag | noRing | noJob | tariffClass | jobNumber | account
  | accountMismatch | colourBelowMono | reserved | floor | balanceRange | notInUse | accountState | jobNames
  | orphanSheet | absent
  | checkPending | meterBusy | serialEnd | notPristine | badTag | badContent | oldSerial | notLocked | tamper
  deriving DecidableEq, Repr, Inhabited

/-- The directives of section 2.9. -/
inductive DirectiveName where
  | status | note | setNoticeRing | setAttentionMask | clearAttention | setRoles | lockdown | recover
  | regionBind | regionUnbind | regionRead
  | jobOpen | jobHold | jobRelease | jobClose | jobRead
  | accountSet | accountAdjust | accountSuspend | accountResume | accountRead | accountClear | periodClose
  | setTariff | sheetsRead
  | consumableRead | checkNow | setLowMark | setSchedule
  | snapshot | restore | meterRead
  deriving DecidableEq, Repr, Inhabited

/-- The notice classes of R34. -/
inductive NoticeClass where
  | access | framing | side | sheet | scan | account | consumable | meter | system
  deriving DecidableEq, Repr, Inhabited

/-- The kinds of notice the rules name, each with the reason it carries as its kind, where it does. -/
inductive NoticeKind where
  | access (reason : AccessReason)
  | framing (reason : FramingReason)
  | sideRefused (reason : SideReason)
  | sideAbandoned
  | closeTimeout | sheetEarly | sheetUnexpected | jam
  | scanUnattributed | scanUnpaid
  | overdraft
  | inserted | removed | accepted | rejected | linkFault | checkFailed | exhausted | syncShort | syncFailed | low
  | powerWarning
  | placement | tagFail | hostNote | lockdownEntered | lockdownRepeat | recovered
  deriving DecidableEq, Repr, Inhabited

/-! ## Transaction unit -/

/-- The framing fields of a PAGE region beside the cursor (R78): payload remains and a plane is current exactly in
IN_PAYLOAD. -/
inductive Framing where
  | atHeader
  | inPayload (remaining : Nat) (plane : Plane)
  | broken
  deriving DecidableEq, Repr, Inhabited

/-- The fields of a region that depend on its kind (R5). -/
inductive RegionBody where
  | scan (beatsEnciphered : Nat)
  | page (framing : Framing) (cursor : Nat)
  deriving DecidableEq, Repr, Inhabited

/-- A BOUND entry of the region table (R5). -/
structure Region where
  base    : Nat
  length  : Nat
  slot    : Nat
  segment : Nat
  body    : RegionBody
  deriving DecidableEq, Repr, Inhabited

/-- The response of the subordinate port to one transaction (R1): OKAY or REFUSED, and the bytes returned. -/
structure Response where
  requester : Nat
  okay      : Bool
  data      : List Byte
  deriving DecidableEq, Repr, Inhabited

/-- The transaction unit: role table (R3), region table (R5), last scan write record (R16), and the response last
given at the subordinate port (R1). -/
structure TransactionUnit where
  roles         : Vector Role 16
  regions       : Vector (Option Region) 64
  lastScanWrite : Option Nat
  response      : Option Response
  deriving DecidableEq, Repr

/-! ## Cipher unit -/

/-- A PRESENT entry of the key store (R63). -/
structure KeyEntry where
  key   : JobKey
  check : KeyCheck
  deriving DecidableEq, Repr, Inhabited

/-- The cipher unit: key store (R63); how many draws its generator has made (the model's own count, log 7); the key
faults it has reported that lockdown control has still to take, by job slot (R65). -/
structure CipherUnit where
  keys    : Vector (Option KeyEntry) 32
  draws   : Nat
  reports : List Nat
  deriving DecidableEq, Repr

/-! ## Directive unit -/

/-- The directive unit's copy of a directive (R22), with its location and the requester that wrote it (R24). -/
structure Directive where
  code               : Nat
  flags              : Nat
  hostReference      : Nat
  expectedGeneration : Nat
  operands           : List Byte
  tag                : List Byte
  location           : Nat
  requester          : Nat
  deriving DecidableEq, Repr, Inhabited

/-- Where the executing directive stands: its owner has still to take it, or its reply is still to be written
(R25). -/
inductive ExecutionPhase where
  | running | replying
  deriving DecidableEq, Repr, Inhabited

/-- The executing directive (R24, R25). -/
structure Executing where
  directive : Directive
  phase     : ExecutionPhase
  deriving DecidableEq, Repr, Inhabited

/-- A parked reply (R26): the directive's code, host reference and location. -/
structure Parked where
  code          : Nat
  hostReference : Nat
  location      : Nat
  deriving DecidableEq, Repr, Inhabited

/-- A reply handed to the reply writer (R27). -/
structure Reply where
  location      : Nat
  code          : Nat
  outcome       : OutcomeCode
  detail        : Detail
  hostReference : Nat
  generation    : BitVec 32
  timeTag       : Nat
  results       : List Byte
  deriving DecidableEq, Repr, Inhabited

/-- A job summary (R59). -/
structure JobSummary where
  slot           : Nat
  number         : Nat
  kind           : JobKind
  account        : Nat
  tariff         : Nat
  limit          : Nat
  reason         : CloseReason
  orphanedSheets : Nat
  orphanedSides  : Nat
  mono           : Nat
  colour         : Nat
  abandoned      : Nat
  jammed         : Nat
  scanPages      : Nat
  unpaidPages    : Nat
  releases       : Nat
  scanStop       : Bool
  opened         : Nat
  closed         : Nat
  deriving DecidableEq, Repr, Inhabited

/-- What the reply writer has still to write, in the order it was handed over (R27, R56). -/
inductive WriterItem where
  | reply (r : Reply)
  | summary (location : Nat) (m : JobSummary)
  deriving DecidableEq, Repr, Inhabited

/-- A request to the notice writer (R34); class and source follow from the kind. The writer adds the time tag, but that
of an ACCESS notice is the moment of refusal and comes with the request (R17; log 37). -/
structure NoticeRequest where
  kind     : NoticeKind
  detail   : Nat
  operands : List Byte
  stamp    : Option Nat := none
  deriving DecidableEq, Repr, Inhabited

/-- The sources of an owned area (R31). -/
inductive AreaSource where
  | noticeRing | replyLocation | closeSummary | snapshotArea | restoreArea
  deriving DecidableEq, Repr, Inhabited

/-- An area of the owned-area list (R31). -/
structure OwnedArea where
  base   : Nat
  length : Nat
  source : AreaSource
  deriving DecidableEq, Repr, Inhabited

/-- The notice ring when set, with the written count (R34). -/
structure Ring where
  base    : Nat
  count   : Nat
  head    : Nat
  written : BitVec 32
  deriving DecidableEq, Repr, Inhabited

/-- The directive unit: recognised directives whose write has still to be entered (R23, R24), the directive queue and
the executing directive (R24), the reply writer's and the notice writer's work (R27, R34), the owned-area list (R31),
the notice ring (R34), the attention mask and ATTN (R37; mask bit n is class n), the time counter (R39). -/
structure DirectiveUnit where
  recognised : List Directive
  queue      : List Directive
  executing  : Option Executing
  writes     : List WriterItem
  notices    : List NoticeRequest
  owned      : List OwnedArea
  ring       : Option Ring
  mask       : BitVec 9
  attn       : Bool
  time       : Nat
  deriving DecidableEq, Repr

/-! ## Job unit -/

/-- The fields of a CLOSING job's record (R41). -/
structure Closing where
  summary  : Option Nat
  deadline : Nat
  parked   : Parked
  deriving DecidableEq, Repr, Inhabited

/-- The state of a job that is not FREE, with the fields that only CLOSING has (R41). -/
inductive JobPhase where
  | active
  | held
  | released
  | closing (c : Closing)
  deriving DecidableEq, Repr, Inhabited

/-- A job record (R41). -/
structure JobRecord where
  number      : Nat
  kind        : JobKind
  phase       : JobPhase
  account     : Nat
  tariff      : Nat
  limit       : Nat
  scanStop    : Bool
  mono        : Nat
  colour      : Nat
  inQueue     : Nat
  abandoned   : Nat
  jammed      : Nat
  scanPages   : Nat
  unpaidPages : Nat
  releases    : Nat
  opened      : Nat
  deriving DecidableEq, Repr, Inhabited

/-- The job unit: the job table (R41). -/
structure JobUnit where
  slots : Vector (Option JobRecord) 32
  deriving DecidableEq, Repr

/-! ## Band parser and charging unit -/

/-- Four dot-level counts, one per plane (R85). -/
structure Dots where
  k : Nat
  c : Nat
  m : Nat
  y : Nat
  deriving DecidableEq, Repr, Inhabited

/-- The open side (R85). `sheet` is the sheet's name; `lastBand` keeps whether the current band's header carried
SIDE_END (R81, R91; implied state, log 27). -/
structure OpenSide where
  region      : Nat
  slot        : Nat
  sheet       : Nat
  kind        : SideKind
  mask        : PlaneMask
  nextBand    : Nat
  dots        : Dots
  bandDots    : Nat
  reservation : Nat
  lastBand    : Bool
  deriving DecidableEq, Repr, Inhabited

/-- The band parser: the open side, or none (R85). -/
structure BandParser where
  openSide : Option OpenSide
  deriving DecidableEq, Repr

/-- A side record (R94). -/
structure SideRecord where
  kind        : SideKind
  mask        : PlaneMask
  monoCost    : Nat
  colourCost  : Nat
  reservation : Nat
  dots        : Dots
  complete    : Bool
  deriving DecidableEq, Repr, Inhabited

/-- The owner of a sheet (R94). -/
inductive Owner where
  | job (slot : Nat)
  | orphan
  deriving DecidableEq, Repr, Inhabited

/-- A sheet entry (R94). `name` tells it from every other sheet (the model's own number, log 26). -/
structure Sheet where
  name    : Nat
  owner   : Owner
  account : Nat
  state   : SheetState
  front   : SideRecord
  back    : Option SideRecord
  deriving DecidableEq, Repr, Inhabited

/-- A tariff class (R108). -/
structure Tariff where
  mono   : Nat
  colour : Nat
  scan   : Nat
  deriving DecidableEq, Repr, Inhabited

/-- The charging unit: the sheet queue, oldest first (R94), the tariff table (R108), and the next sheet's name. -/
structure ChargingUnit where
  sheets    : List Sheet
  tariffs   : Vector Tariff 8
  nextSheet : Nat
  deriving DecidableEq, Repr

/-! ## Account unit -/

/-- An account record (R112). -/
structure Account where
  state       : AccountState
  mode        : AccountMode
  colour      : Bool
  creditLimit : Nat
  balance     : Int
  reserved    : Nat
  periodMono  : Nat
  periodColour : Nat
  periodScan  : Nat
  lifeMono    : Nat
  lifeColour  : Nat
  lifeScan    : Nat
  lifeJammed  : Nat
  unpaid      : Nat
  overdraft   : Nat
  generation  : BitVec 32
  deriving DecidableEq, Repr, Inhabited

/-- An account not in use: UNUSED and every other field zero, but for the edit generation (R112). -/
def Account.unused (generation : BitVec 32) : Account :=
  { state := .unused, mode := .prepaid, colour := false, creditLimit := 0, balance := 0, reserved := 0,
    periodMono := 0, periodColour := 0, periodScan := 0, lifeMono := 0, lifeColour := 0, lifeScan := 0,
    lifeJammed := 0, unpaid := 0, overdraft := 0, generation := generation }

/-- The account unit: account table, period number and pristine flag (R112). -/
structure AccountUnit where
  accounts : Vector Account 2048
  period   : BitVec 32
  pristine : Bool
  deriving DecidableEq, Repr

/-! ## Consumable unit -/

/-- What a record holds with its serial (R127): cartridge serial, model code and remaining yield. -/
structure Chip where
  serial    : Nat
  modelCode : Nat
  remaining : Nat
  deriving DecidableEq, Repr, Inhabited

/-- A record of the consumable table (R127). `syncRefused` keeps that the last SYNC it requested was not admitted
(R135; implied state, log 40). -/
structure Consumable where
  state        : ConsumableState
  chip         : Option Chip
  partialDots  : Nat
  unsynced     : Nat
  syncCapture  : Option Nat
  overrun      : Nat
  lowMark      : Nat
  recheckDue   : Option Nat
  rejectReason : Option RejectReason
  authPending  : Bool
  parkedCheck  : Option Parked
  syncRefused  : Bool
  deriving DecidableEq, Repr, Inhabited

/-- An entry of the schedule table (R127, R140). -/
structure Schedule where
  interval : Nat
  pending  : Option Nat
  deriving DecidableEq, Repr, Inhabited

/-- A presence line (R128): the level on the line (high: a cartridge fitted), the settled level, and the time of the
line's last change. -/
structure PresenceLine where
  level   : Bool
  settled : Bool
  since   : Nat
  deriving DecidableEq, Repr, Inhabited

/-- The consumable unit: consumable table, schedule table, presence lines, and the number of the last epoch boundary
taken (the model's own, log 3). -/
structure ConsumableUnit where
  records   : Vector Consumable 5
  schedule  : Vector Schedule 5
  presence  : Vector PresenceLine 5
  lastEpoch : Nat
  deriving DecidableEq, Repr

/-! ## Link unit -/

/-- A link entry (R144). -/
structure LinkEntry where
  position : Nat
  kind     : LinkKind
  deriving DecidableEq, Repr, Inhabited

/-- What an IDENTIFY exchange gives (R131, R149). -/
structure Identity where
  serial      : Nat
  modelCode   : Nat
  storedYield : Nat
  deriving DecidableEq, Repr, Inhabited

/-- The line phases of R150: the frame being sent; the time AWAITING_REPLY began; the bytes received and when the
last of them came; the time QUIET began. -/
inductive LinePhase where
  | sending (frame : List LinkByte)
  | awaitingReply (since : Nat)
  | receiving (received : List Byte) (since : Nat)
  | quiet (since : Nat)
  deriving DecidableEq, Repr, Inhabited

/-- The running entry's fields (R144): whether the second exchange is under way, whether the attempt is the second,
the line phase, the results so far, the nonce, the sync capture. -/
structure Running where
  secondExchange : Bool
  secondAttempt  : Bool
  phase          : LinePhase
  identity       : Option Identity
  chipYield      : Option Nat
  nonce          : Option Beat
  capture        : Option Nat
  deriving DecidableEq, Repr, Inhabited

/-- The link unit: link queue, oldest first; the fields of the oldest entry while it runs; the time QUIET began while
no entry runs, absent while the line is IDLE (R144, R146). -/
structure LinkUnit where
  queue      : List LinkEntry
  running    : Option Running
  quietSince : Option Nat
  deriving DecidableEq, Repr

/-! ## Meter unit -/

/-- Four totals (R155, R156). -/
structure Totals where
  mono   : Nat
  colour : Nat
  sheets : Nat
  scans  : Nat
  deriving DecidableEq, Repr, Inhabited

/-- A snapshot serial with the tag it is always carried with (R157). -/
structure SerialTag where
  serial : Nat
  tag    : Beat
  deriving DecidableEq, Repr, Inhabited

/-- The meter cells (R155). The provisioned directive key and verification material are names of what was
provisioned (log 11). -/
structure MeterCells where
  banked       : Totals
  serial       : Nat
  tag          : Beat
  directiveKey : Nat
  verification : Nat
  deriving DecidableEq, Repr, Inhabited

/-- A running bank (R157, R158). -/
structure Bank where
  captured : Totals
  serial   : Option SerialTag
  began    : Nat
  deriving DecidableEq, Repr, Inhabited

/-- The next part of a snapshot to be written (R161). -/
inductive SnapshotPart where
  | header
  | tariffBlock
  | image (index : Nat)
  | trailer
  deriving DecidableEq, Repr, Inhabited

/-- A snapshot composing (R160, R161): its area, serial, parked reply, what its header takes at acceptance, the part
to be written next, and the bytes written so far. -/
structure Composing where
  base     : Nat
  serial   : Nat
  parked   : Parked
  accepted : Nat
  totals   : Totals
  next     : SnapshotPart
  written  : List Byte
  deriving DecidableEq, Repr, Inhabited

/-- The meter work in progress (R160 to R164; 13.3). -/
inductive MeterWork where
  | none
  | composing (c : Composing)
  | banking (base serial : Nat) (parked : Parked)
  | restoring (base : Nat) (parked : Parked) (read : List Byte)
  deriving DecidableEq, Repr, Inhabited

/-- The meter unit: working totals (R156), meter cells (R155), bank state (R157; `bank` is none in IDLE), the work in
progress, and the level of PWR_WARN (R159). -/
structure MeterUnit where
  working     : Totals
  cells       : MeterCells
  bank        : Option Bank
  bankAgain   : Bool
  pending     : Option SerialTag
  sinceBank   : Nat
  work        : MeterWork
  pwrWarn     : Bool
  deriving DecidableEq, Repr

/-! ## Lockdown control -/

/-- Lockdown control: part mode, lockdown cause, reset cause (R167), and the level of TAMPER_N (high: true). -/
structure LockdownControl where
  mode       : PartMode
  cause      : Option LockdownCause
  resetCause : ResetCause
  tamperHigh : Bool
  deriving DecidableEq, Repr

/-! ## The whole -/

/-- The state of the part with page memory (address and byte, in canonical form: `Memory.wf`) and the queue of
commands that wait, first in, first out. -/
structure State where
  transaction : TransactionUnit
  cipher      : CipherUnit
  directive   : DirectiveUnit
  job         : JobUnit
  parser      : BandParser
  charging    : ChargingUnit
  account     : AccountUnit
  consumable  : ConsumableUnit
  link        : LinkUnit
  meter       : MeterUnit
  lockdown    : LockdownControl
  memory      : List Host.Cell
  pending     : List Instr
  deriving DecidableEq, Repr

/-- Why a step faults. -/
inductive Fault where
  /-- Raised by SUBORDINATE_TRANSACTION for a transaction the subordinate port cannot carry (R1: requester number,
  address, beat count or data of another form). Safe: no such transaction reaches the part (log 25). -/
  | notAtThePort
  /-- Raised by PRESENCE_LINE_CHANGE for a position above 4: the part has five presence lines (R128). Safe (log 25). -/
  | noSuchPosition
  deriving DecidableEq, Repr, Inhabited

/-- Why a step is refused. -/
inductive Refusal where
  /-- No meaning has been written for the command. Raised by an arm of `exec` only. Safe. -/
  | notModelled (mnemonic : String)
  deriving DecidableEq, Repr, Inhabited

/-- A record cleared into a state, with its low mark kept (R127). -/
def Consumable.cleared (state : ConsumableState) (lowMark : Nat) (authPending : Bool) : Consumable :=
  { state := state, chip := none, partialDots := 0, unsynced := 0, syncCapture := none, overrun := 0,
    lowMark := lowMark, recheckDue := none, rejectReason := none, authPending := authPending, parkedCheck := none,
    syncRefused := false }

/-- The role table's default (R3): requester 0 CONTROL, every other OTHER. -/
def defaultRoles : Vector Role 16 :=
  #v[.control, .other, .other, .other, .other, .other, .other, .other,
     .other, .other, .other, .other, .other, .other, .other, .other]

/-- The meter cells at manufacture (R155; log 11 for what is provisioned). -/
def MeterCells.manufactured : MeterCells :=
  { banked := { mono := 0, colour := 0, sheets := 0, scans := 0 }, serial := 0, tag := 0, directiveKey := 0,
    verification := 0 }

/-- The part right after its first power-on, with TAMPER_N high, PWR_WARN released, no cartridge fitted and the meter
cells as manufactured (log 12), by R21, R33, R61, R63, R85, R94, R111, R112, R143, R144, R156, R157 and R172. -/
def State.reset : State :=
  { transaction :=
      { roles := defaultRoles, regions := .replicate 64 none, lastScanWrite := none, response := none }
    cipher := { keys := .replicate 32 none, draws := 0, reports := [] }
    directive :=
      { recognised := [], queue := [], executing := none, writes := [], notices := [], owned := [], ring := none,
        mask := 0, attn := false, time := 0 }
    job := { slots := .replicate 32 none }
    parser := { openSide := none }
    charging := { sheets := [], tariffs := .replicate 8 { mono := 0, colour := 0, scan := 0 }, nextSheet := 0 }
    account := { accounts := .replicate 2048 (.unused 0), period := 0, pristine := true }
    consumable :=
      { records := .replicate 5 (.cleared .absent 0 false)
        schedule := .replicate 5 { interval := 3600, pending := none }
        presence := .replicate 5 { level := false, settled := false, since := 0 }
        lastEpoch := 0 }
    link := { queue := [], running := none, quietSince := none }
    meter :=
      { working := MeterCells.manufactured.banked, cells := .manufactured, bank := none, bankAgain := false,
        pending := none, sinceBank := 0, work := .none, pwrWarn := false }
    lockdown := { mode := .normal, cause := none, resetCause := .powerOn, tamperHigh := true }
    memory := []
    pending := [] }

end Sys2Proof.Machine
end

