-- ==== Sys2Proof/Machine/Records.lean ====
section
/-! DEFINITION. Bytes of records: little-endian fields, the layout rule of R173 for variable parts, the codes of
13.2 and 13.3, and the byte layouts of replies, notices, job summaries and the parts of a snapshot. -/

namespace Sys2Proof.Machine

/-! ## Little-endian fields (spec/00 section 6) -/

/-- The `width` bytes of a number, least significant first; higher bits are cut off. -/
def leBytes : (width : Nat) → (value : Nat) → List Byte
  | 0, _ => []
  | w + 1, v => BitVec.ofNat 8 v :: leBytes w (v / 256)

/-- The number that bytes spell, least significant first. -/
def leNat : List Byte → Nat
  | [] => 0
  | b :: bs => b.toNat + 256 * leNat bs

/-- The little-endian field of a record at an offset. -/
def fieldAt (bytes : List Byte) (offset width : Nat) : Nat :=
  leNat ((bytes.drop offset).take width)

/-- A record made exactly `size` bytes long: unused bytes at its end are 0 (R173). -/
def padTo (size : Nat) (bytes : List Byte) : List Byte :=
  bytes.take size ++ List.replicate (size - bytes.length) 0

/-- The beat that 16 bytes make. -/
def beatOfBytes (bytes : List Byte) : Beat := BitVec.ofNat 128 (leNat bytes)

/-- The 16 bytes of a beat. -/
def bytesOfBeat (b : Beat) : List Byte := leBytes 16 b.toNat

/-- The number that a 32-bit two's-complement field holds (13.7, R119). -/
def signed32 (n : Nat) : Int := if n < 2 ^ 31 then n else (n : Int) - 2 ^ 32

/-! ## Variable parts (R173) -/

/-- A value of a variable part: its width in bytes, and the number, absent where the field is absent. -/
structure Val where
  width : Nat
  value : Option Nat
  deriving DecidableEq, Repr, Inhabited

/-- A 1-byte value. -/
def u8 (v : Nat) : Val := ⟨1, some v⟩
/-- A 2-byte value. -/
def u16 (v : Nat) : Val := ⟨2, some v⟩
/-- A 4-byte value. -/
def u32 (v : Nat) : Val := ⟨4, some v⟩
/-- An 8-byte value. -/
def u64 (v : Nat) : Val := ⟨8, some v⟩
/-- A 4-byte signed amount in two's complement. -/
def i32 (v : Int) : Val := ⟨4, some (v % 2 ^ 32).toNat⟩
/-- An 8-byte signed amount in two's complement (R119). -/
def i64 (v : Int) : Val := ⟨8, some (v % 2 ^ 64).toNat⟩
/-- A yes-or-no value (13.3). -/
def flag8 (b : Bool) : Val := ⟨1, some b.toNat⟩
/-- A value that may be absent. -/
def opt (width : Nat) (v : Option Nat) : Val := ⟨width, v⟩

/-- A value's bytes: an absent field has every bit set across its width (R173). -/
def Val.bytes (v : Val) : List Byte :=
  match v.value with
  | some n => leBytes v.width n
  | none => List.replicate v.width 0xFF

/-- How many bytes stand between an offset and the next multiple of a width. -/
def alignGap (offset width : Nat) : Nat := (width - offset % width) % width

/-- Values laid out in order from an offset, each at the next multiple of its width (R173). -/
def layoutFrom : (offset : Nat) → List Val → List Byte
  | _, [] => []
  | offset, v :: vs =>
    List.replicate (alignGap offset v.width) 0 ++ v.bytes ++
      layoutFrom (offset + alignGap offset v.width + v.width) vs

/-- A variable part laid out from its start (R173). -/
def layout (vs : List Val) : List Byte := layoutFrom 0 vs

/-- The offset of value number `i` among values of the given widths, laid out from `offset` (R173). -/
def valueOffset : (offset : Nat) → (widths : List Nat) → (i : Nat) → Nat
  | offset, [], _ => offset
  | offset, w :: _, 0 => offset + alignGap offset w
  | offset, w :: ws, i + 1 => valueOffset (offset + alignGap offset w + w) ws i

/-- Value number `i` of a variable part whose values have the given widths. -/
def valueAt (widths : List Nat) (bytes : List Byte) (i : Nat) : Nat :=
  fieldAt bytes (valueOffset 0 widths i) (widths.getD i 0)

/-! ## Codes (13.2, 13.3) -/

/-- Member number `code` of a list of values coded from 0 in order; none outside the list. -/
def ofCode? {α : Type} (all : List α) (code : Nat) : Option α := all[code]?

/-- The roles in the order of their codes. -/
def Role.all : List Role := [.control, .pipeline, .scan, .video, .store, .other]
/-- The job kinds in the order of their codes. -/
def JobKind.all : List JobKind := [.copy, .print, .heldPrint, .scanSend, .scanBox]
/-- The region kinds in the order of their codes. -/
def RegionKind.all : List RegionKind := [.scan, .page]
/-- The account states in the order of their codes. -/
def AccountState.all : List AccountState := [.unused, .active, .suspended]
/-- The account modes in the order of their codes. -/
def AccountMode.all : List AccountMode := [.prepaid, .credit, .unmetered]
/-- The side kinds in the order of their codes. -/
def SideKind.all : List SideKind := [.simplex, .front, .back]
/-- The planes in the order of their codes. -/
def Plane.all : List Plane := [.k, .c, .m, .y]

/-- Codes run from 0 in the order listed (13.3). -/
def Role.code (r : Role) : Nat := r.ctorIdx
/-- Codes run from 0 in the order listed (13.3). -/
def RegionKind.code (r : RegionKind) : Nat := r.ctorIdx
/-- Codes run from 0 in the order listed (13.3). -/
def ParserState.code (p : ParserState) : Nat := p.ctorIdx
/-- Codes run from 0 in the order listed (13.3). -/
def JobKind.code (k : JobKind) : Nat := k.ctorIdx
/-- Codes run from 0 in the order listed (13.3). -/
def JobState.code (j : JobState) : Nat := j.ctorIdx
/-- DRAINED is 0 and TIMEOUT 1 (13.6). -/
def CloseReason.code (c : CloseReason) : Nat := c.ctorIdx
/-- Codes run from 0 in the order listed (13.3). -/
def SideKind.code (k : SideKind) : Nat := k.ctorIdx
/-- Codes run from 0 in the order listed (13.3). -/
def Plane.code (p : Plane) : Nat := p.ctorIdx
/-- Codes run from 0 in the order listed (13.3). -/
def SheetState.code (s : SheetState) : Nat := s.ctorIdx
/-- Codes run from 0 in the order listed (13.3). -/
def AbandonCause.code (c : AbandonCause) : Nat := c.ctorIdx
/-- Codes run from 0 in the order listed (13.3). -/
def AccountState.code (a : AccountState) : Nat := a.ctorIdx
/-- Codes run from 0 in the order listed (13.3). -/
def AccountMode.code (m : AccountMode) : Nat := m.ctorIdx
/-- Codes run from 0 in the order listed (13.3). -/
def ConsumableState.code (c : ConsumableState) : Nat := c.ctorIdx
/-- Codes run from 0 in the order listed (13.3). -/
def RejectReason.code (r : RejectReason) : Nat := r.ctorIdx
/-- Codes run from 0 in the order listed (13.3). -/
def CheckResult.code (c : CheckResult) : Nat := c.ctorIdx
/-- Codes run from 0 in the order listed (13.3). -/
def LinkKind.code (k : LinkKind) : Nat := k.ctorIdx
/-- Codes run from 0 in the order listed (13.3). -/
def PartMode.code (m : PartMode) : Nat := m.ctorIdx
/-- Codes run from 0 in the order listed (13.3). -/
def LockdownCause.code (c : LockdownCause) : Nat := c.ctorIdx
/-- Codes run from 0 in the order listed (13.3). -/
def ResetCause.code (c : ResetCause) : Nat := c.ctorIdx
/-- Codes run from 0 in the order listed (13.3). -/
def OutcomeCode.code (o : OutcomeCode) : Nat := o.ctorIdx
/-- Zero means no detail, and the named details are numbered from 1 (13.3). -/
def Detail.code (d : Detail) : Nat := d.ctorIdx
/-- Codes run from 0 in the order listed (13.3). -/
def NoticeClass.code (c : NoticeClass) : Nat := c.ctorIdx
/-- READ is 0 and WRITE 1 (13.3). -/
def directionCode (d : Direction) : Nat := d.ctorIdx
/-- Numbered from 0 in the order of the block table (13.4). -/
def Block.code (b : Block) : Nat := b.ctorIdx
/-- The meter work as METER_READ gives it (13.3). -/
def MeterWork.code : MeterWork → Nat
  | .none => 0
  | .composing _ => 1
  | .banking _ _ _ => 2
  | .restoring _ _ _ => 3

/-- The owner byte of a sheet: the slot, or the code of ORPHAN (log 13). -/
def Owner.code : Owner → Nat
  | .job slot => slot
  | .orphan => Config.orphanOwnerCode.toNat

/-- The directive codes of 13.2. -/
def DirectiveName.code : DirectiveName → Nat
  | .status => 0x00
  | .note => 0x01
  | .setNoticeRing => 0x02
  | .setAttentionMask => 0x03
  | .clearAttention => 0x04
  | .setRoles => 0x05
  | .lockdown => 0x06
  | .recover => 0x07
  | .regionBind => 0x10
  | .regionUnbind => 0x11
  | .regionRead => 0x12
  | .jobOpen => 0x20
  | .jobHold => 0x21
  | .jobRelease => 0x22
  | .jobClose => 0x23
  | .jobRead => 0x24
  | .accountSet => 0x30
  | .accountAdjust => 0x31
  | .accountSuspend => 0x32
  | .accountResume => 0x33
  | .accountRead => 0x34
  | .accountClear => 0x35
  | .periodClose => 0x36
  | .setTariff => 0x40
  | .sheetsRead => 0x41
  | .consumableRead => 0x50
  | .checkNow => 0x51
  | .setLowMark => 0x52
  | .setSchedule => 0x53
  | .snapshot => 0x60
  | .restore => 0x61
  | .meterRead => 0x62

/-- Every directive of section 2.9. -/
def DirectiveName.all : List DirectiveName :=
  [.status, .note, .setNoticeRing, .setAttentionMask, .clearAttention, .setRoles, .lockdown, .recover,
   .regionBind, .regionUnbind, .regionRead, .jobOpen, .jobHold, .jobRelease, .jobClose, .jobRead,
   .accountSet, .accountAdjust, .accountSuspend, .accountResume, .accountRead, .accountClear, .periodClose,
   .setTariff, .sheetsRead, .consumableRead, .checkNow, .setLowMark, .setSchedule, .snapshot, .restore, .meterRead]

/-- The directive a code names, none where the code is not in the code table (R24). -/
def DirectiveName.ofCode? (code : Nat) : Option DirectiveName :=
  DirectiveName.all.find? fun n => n.code == code

/-! ## Notices (13.4) -/

/-- The class of a notice. -/
def NoticeKind.noticeClass : NoticeKind → NoticeClass
  | .access _ => .access
  | .framing _ => .framing
  | .sideRefused _ | .sideAbandoned => .side
  | .closeTimeout | .sheetEarly | .sheetUnexpected | .jam => .sheet
  | .scanUnattributed | .scanUnpaid => .scan
  | .overdraft => .account
  | .inserted | .removed | .accepted | .rejected | .linkFault | .checkFailed | .exhausted | .syncShort
  | .syncFailed | .low => .consumable
  | .powerWarning => .meter
  | .placement | .tagFail | .hostNote | .lockdownEntered | .lockdownRepeat | .recovered => .system

/-- The kind byte of a notice: numbered within its class from 0 in the order the class's rules introduce its kinds
(13.4; log 14). -/
def NoticeKind.code : NoticeKind → Nat
  | .access r => r.ctorIdx
  | .framing r => r.ctorIdx
  | .sideRefused r => r.ctorIdx
  | .sideAbandoned => 7
  | .closeTimeout => 0
  | .sheetEarly => 1
  | .sheetUnexpected => 2
  | .jam => 3
  | .scanUnattributed => 0
  | .scanUnpaid => 1
  | .overdraft => 0
  | .inserted => 0
  | .removed => 1
  | .accepted => 2
  | .rejected => 3
  | .linkFault => 4
  | .checkFailed => 5
  | .exhausted => 6
  | .syncShort => 7
  | .syncFailed => 8
  | .low => 9
  | .powerWarning => 0
  | .placement => 0
  | .tagFail => 1
  | .hostNote => 2
  | .lockdownEntered => 3
  | .lockdownRepeat => 4
  | .recovered => 5

/-- The block that asks for a notice (R17, R23, R36, R57, R79, R88, R92, R99, R100, R103, R106, R129 to R137, R159,
R168, R169, R171; log 14 for UNPAID). -/
def NoticeKind.source : NoticeKind → Block
  | .access _ => .transactionUnit
  | .framing _ | .sideRefused _ | .sideAbandoned => .bandParser
  | .closeTimeout => .jobUnit
  | .sheetEarly | .sheetUnexpected | .jam | .scanUnattributed | .scanUnpaid => .chargingUnit
  | .overdraft => .accountUnit
  | .inserted | .removed | .accepted | .rejected | .linkFault | .checkFailed | .exhausted | .syncShort
  | .syncFailed | .low => .consumableUnit
  | .powerWarning => .meterUnit
  | .placement | .tagFail | .hostNote => .directiveUnit
  | .lockdownEntered | .lockdownRepeat | .recovered => .lockdownControl

/-- The 32 bytes of a notice with the time tag that the writer adds, or that its request carries (13.4, R17). -/
def NoticeRequest.bytes (q : NoticeRequest) (time : Nat) : List Byte :=
  leBytes 1 q.kind.noticeClass.code ++ leBytes 1 q.kind.code ++ leBytes 1 q.kind.source.code ++ [0] ++
    leBytes 2 q.detail ++ [0, 0] ++ leBytes 8 (q.stamp.getD time) ++ padTo 16 q.operands

/-! ## Directive, reply and summary (13.1, 13.6) -/

/-- The directive marker (13.1). -/
def directiveMarker : List Byte := [0xD1, 0x5E, 0xC7, 0x0B, 0x24, 0x80, 0xA1, 0x3C]

/-- The reply mark (13.1). -/
def replyMark : List Byte := [0x9E, 0x42, 0xB0, 0x17, 0x6D, 0xC5, 0x08, 0xF3]

/-- The summary mark (13.6). -/
def summaryMark : List Byte := [0x5C, 0x71, 0xE9, 0x02, 0xB8, 0x4A, 0x36, 0xD0]

/-- The directive unit's copy of a directive's fields (R22, 13.1). -/
def Directive.ofBytes (bytes : List Byte) (location requester : Nat) : Directive :=
  { code := fieldAt bytes 8 1
    flags := fieldAt bytes 9 1
    hostReference := fieldAt bytes 10 2
    expectedGeneration := fieldAt bytes 12 4
    operands := (bytes.drop 16).take 32
    tag := (bytes.drop 48).take 16
    location := location
    requester := requester }

/-- The 64 bytes of a reply (13.1, R27). -/
def Reply.bytes (r : Reply) : List Byte :=
  replyMark ++ leBytes 1 r.code ++ leBytes 1 r.outcome.code ++ leBytes 2 r.detail.code ++
    leBytes 2 r.hostReference ++ [0, 0] ++ leBytes 4 r.generation.toNat ++ [0, 0, 0, 0] ++ leBytes 8 r.timeTag ++
    padTo 32 r.results

/-- The 64 bytes of a job summary (13.6, R59). -/
def JobSummary.bytes (m : JobSummary) : List Byte :=
  summaryMark ++ leBytes 1 m.slot ++ leBytes 1 m.kind.code ++ leBytes 1 m.reason.code ++ leBytes 1 m.tariff ++
    leBytes 2 m.number ++ leBytes 2 m.account ++ leBytes 2 m.limit ++ leBytes 1 m.orphanedSheets ++
    leBytes 1 m.orphanedSides ++ leBytes 1 m.scanStop.toNat ++ [0] ++ leBytes 2 m.releases ++ leBytes 4 m.mono ++
    leBytes 4 m.colour ++ leBytes 4 m.abandoned ++ leBytes 4 m.jammed ++ leBytes 4 m.scanPages ++
    leBytes 4 m.unpaidPages ++ leBytes 8 m.opened ++ leBytes 8 m.closed

/-! ## Snapshot parts (13.7) -/

/-- The size of a snapshot area (R160, 13.7). -/
def snapshotSize : Nat := 131264

/-- The snapshot mark (13.7). -/
def snapshotMark : List Byte := [0xA7, 0x3E, 0x11, 0xC9, 0x52, 0x0D, 0x8B, 0x64]

/-- The trailer mark (13.7). -/
def trailerMark : List Byte := [0x3B, 0xD8, 0x66, 0xA0, 0xE4, 0x19, 0x7F, 0x25]

/-- The header: mark, serial, time tag and working totals at acceptance (R161). -/
def snapshotHeader (serial accepted : Nat) (t : Totals) : List Byte :=
  padTo 64 (snapshotMark ++ leBytes 4 serial ++ [0, 0, 0, 0] ++ leBytes 8 accepted ++ leBytes 8 t.mono ++
    leBytes 8 t.colour ++ leBytes 8 t.sheets ++ leBytes 8 t.scans)

/-- A tariff class in the tariff block: 6 bytes (13.7). -/
def Tariff.bytes (t : Tariff) : List Byte := leBytes 2 t.mono ++ leBytes 2 t.colour ++ leBytes 2 t.scan

/-- The tariff block (R161). -/
def tariffBlock (ts : List Tariff) : List Byte := padTo 64 (ts.flatMap Tariff.bytes)

/-- An account image with the period number when it was copied (R161). -/
def Account.image (a : Account) (period : BitVec 32) : List Byte :=
  padTo 64 (leBytes 1 a.state.code ++ leBytes 1 a.mode.code ++ leBytes 1 a.colour.toNat ++ [0] ++
    leBytes 4 a.creditLimit ++ (i32 a.balance).bytes ++ leBytes 4 a.reserved ++ leBytes 4 a.periodMono ++
    leBytes 4 a.periodColour ++ leBytes 4 a.periodScan ++ leBytes 4 a.lifeMono ++ leBytes 4 a.lifeColour ++
    leBytes 4 a.lifeScan ++ leBytes 4 a.lifeJammed ++ leBytes 4 a.unpaid ++ leBytes 4 a.overdraft ++
    leBytes 4 a.generation.toNat ++ leBytes 4 period.toNat)

/-- The trailer before its tag: mark, serial, period number and time tag at the end of composition (R161). -/
def trailerBody (serial : Nat) (period : BitVec 32) (time : Nat) : List Byte :=
  padTo 48 (trailerMark ++ leBytes 4 serial ++ leBytes 4 period.toNat ++ leBytes 8 time)

end Sys2Proof.Machine
end

