-- ==== Sys2Proof/Machine/Flags.lean ====
section
/-! DEFINITION. Every flag the manual computes: a directive's flags (R25, R117, R173), the result flags of an account
adjustment (R120), and membership in sets of planes and classes (R173). -/

namespace Sys2Proof.Machine

/-- Bit 0 of the flags byte (R173). -/
def Directive.checkGen (d : Directive) : Bool := d.flags.testBit 0

/-- Bit 1 of the flags byte (R173). -/
def Directive.trial (d : Directive) : Bool := d.flags.testBit 1

/-- The codes of the directives that accept CHECK_GEN (R117). -/
def acceptsCheckGen : List Nat :=
  [DirectiveName.accountSet.code, DirectiveName.accountAdjust.code, DirectiveName.accountSuspend.code,
   DirectiveName.accountResume.code, DirectiveName.accountClear.code]

/-- The codes of the directives that accept TRIAL (R117). -/
def acceptsTrial : List Nat := [DirectiveName.accountAdjust.code]

/-- The first general test of R25: a flag set that the directive does not accept, or a bit that is no flag (R173). -/
def Directive.badFlag (d : Directive) : Bool :=
  decide (4 ≤ d.flags) || (d.checkGen && !acceptsCheckGen.contains d.code) ||
    (d.trial && !acceptsTrial.contains d.code)

/-- The floor of an account's mode (R114); none in UNMETERED. -/
def floorOf (mode : AccountMode) (creditLimit : Nat) : Option Int :=
  match mode with
  | .prepaid => some 0
  | .credit => some (-(creditLimit : Int))
  | .unmetered => none

/-- Whether an amount is at or above a floor; every amount is where there is none (R114). -/
def atOrAbove (floor : Option Int) (amount : Int) : Bool :=
  match floor with
  | some f => decide (f ≤ amount)
  | none => true

/-- The result flags of R120 on a resulting balance: bit 0 ZERO, bit 1 NEGATIVE, bit 2 AT_FLOOR (13.3, R173). -/
def adjustFlags (mode : AccountMode) (creditLimit reserved : Nat) (balance : Int) : Nat :=
  (decide (balance = 0)).toNat + 2 * (decide (balance < 0)).toNat +
    4 * (decide (floorOf mode creditLimit = some (balance - reserved))).toNat

/-- Whether a plane is in a mask (13.5). -/
def hasPlane (mask : PlaneMask) (p : Plane) : Bool := mask.getLsbD p.code

/-- Whether a mask holds C, M or Y (R87, R96). -/
def hasColour (mask : PlaneMask) : Bool := hasPlane mask .c || hasPlane mask .m || hasPlane mask .y

/-- Whether a notice class is in the attention mask (R37). -/
def inMask (mask : BitVec 9) (c : NoticeClass) : Bool := mask.getLsbD c.code

end Sys2Proof.Machine
end

