-- ==== Sys2Proof/Machine/Operands.lean ====
section
/-! DEFINITION. Every operand form of the directives: the widths of the values, in the order in which the owning rule
names them, from which R173 fixes their offsets in the directive's 32 operand bytes (log 19). -/

namespace Sys2Proof.Machine

/-- Operand number `i` of a directive whose operands have the given widths (R22, R173). -/
def Directive.arg (d : Directive) (widths : List Nat) (i : Nat) : Nat := valueAt widths d.operands i

/-- NOTE (R36): the notice's detail, then its 16 bytes of operands. -/
def noteForm : List Nat := [2]
/-- The 16 operand bytes of NOTE, which follow its detail (R36; log 19). -/
def Directive.noteBytes (d : Directive) : List Byte := (d.operands.drop 2).take 16
/-- SET_NOTICE_RING (R35): base, entry count. -/
def setNoticeRingForm : List Nat := [8, 2]
/-- SET_ATTENTION_MASK (R37): the set of classes, one bit each from bit 0. -/
def setAttentionMaskForm : List Nat := [2]
/-- SET_ROLES (R4): the 16 role codes in order of requester number. -/
def Directive.roleCodes (d : Directive) : List Nat := (d.operands.take 16).map BitVec.toNat
/-- REGION_BIND (R6): job slot, segment number, base, length, kind. -/
def regionBindForm : List Nat := [1, 1, 8, 4, 1]
/-- REGION_UNBIND (R8) and REGION_READ (R9): region index. -/
def regionIndexForm : List Nat := [1]
/-- JOB_OPEN (R45): job number, kind, account index, tariff class, side limit. -/
def jobOpenForm : List Nat := [2, 1, 2, 1, 2]
/-- JOB_HOLD (R44, R46): job slot, job number. -/
def jobHoldForm : List Nat := [1, 2]
/-- JOB_RELEASE (R44, R47): job slot, job number, releasing account index. -/
def jobReleaseForm : List Nat := [1, 2, 2]
/-- JOB_CLOSE (R44, R53): job slot, job number, summary location. -/
def jobCloseForm : List Nat := [1, 2, 8]
/-- An absent summary location: every bit set (R53). -/
def absentLocation : Nat := 2 ^ 64 - 1
/-- JOB_READ (R48): job slot, view. -/
def jobReadForm : List Nat := [1, 1]
/-- ACCOUNT_SET (R118): account index, mode, colour permitted flag, credit limit. -/
def accountSetForm : List Nat := [2, 1, 1, 4]
/-- ACCOUNT_ADJUST (R119): account index, signed amount. -/
def accountAdjustForm : List Nat := [2, 4]
/-- ACCOUNT_SUSPEND, ACCOUNT_RESUME, ACCOUNT_CLEAR (R121, R123): account index. -/
def accountIndexForm : List Nat := [2]
/-- ACCOUNT_READ (R122): account index, view. -/
def accountReadForm : List Nat := [2, 1]
/-- SET_TARIFF (R109): class, mono cost, colour cost, scan cost. -/
def setTariffForm : List Nat := [1, 2, 2, 2]
/-- SHEETS_READ (R110): queue position. -/
def sheetsReadForm : List Nat := [1]
/-- CONSUMABLE_READ (R142): position, view. -/
def consumableReadForm : List Nat := [1, 1]
/-- CHECK_NOW (R141): position. -/
def checkNowForm : List Nat := [1]
/-- SET_LOW_MARK (R137): position, mark. -/
def setLowMarkForm : List Nat := [1, 4]
/-- SET_SCHEDULE (R140): position, interval. -/
def setScheduleForm : List Nat := [1, 2]
/-- SNAPSHOT (R160) and RESTORE (R163): base of the area. -/
def areaForm : List Nat := [8]
/-- METER_READ (R165): view. -/
def meterReadForm : List Nat := [1]

end Sys2Proof.Machine
end

