-- ==== Sys2Proof/Machine/Ops.lean ====
section
/-! DEFINITION. The named operations over memory, tables and the directive unit that every family uses. -/

namespace Sys2Proof.Machine

/-! ## Tables -/

/-- An entry of a table, the default where the index is beyond it. -/
def tget {α : Type} [Inhabited α] {n : Nat} (v : Vector α n) (i : Nat) : α :=
  if h : i < n then v[i] else default

/-- A table with one entry replaced; unchanged where the index is beyond it. -/
def tset {α : Type} {n : Nat} (v : Vector α n) (i : Nat) (x : α) : Vector α n :=
  if h : i < n then v.set i x h else v

/-- A table with a function applied to every entry. -/
def tmap {α β : Type} {n : Nat} (f : α → β) (v : Vector α n) : Vector β n :=
  ⟨⟨v.toArray.toList.map f⟩, by simp⟩

/-- A table filled by index. -/
def tfill {α : Type} (n : Nat) (f : Nat → α) : Vector α n := ⟨⟨(List.range n).map f⟩, by simp⟩

/-- The entries of a table in order of index. -/
def tlist {α : Type} {n : Nat} (v : Vector α n) : List α := v.toArray.toList

/-- A counter that stops at its top. -/
def satAdd (top a b : Nat) : Nat := min top (a + b)

/-! ## Page memory -/

/-- What an address of page memory that is not listed reads as (DESIGN CHOICE, log 4). -/
def unlistedByte : Byte := 0

/-- Reading one byte. -/
def Memory.read : List Host.Cell → Nat → Byte
  | [], _ => unlistedByte
  | (k, b) :: m, a => if k = a then b else Memory.read m a

/-- Writing one byte, keeping the canonical form. -/
def Memory.write : List Host.Cell → Nat → Byte → List Host.Cell
  | [], a, b => if b = unlistedByte then [] else [(a, b)]
  | (k, x) :: m, a, b =>
    if a < k then (if b = unlistedByte then (k, x) :: m else (a, b) :: (k, x) :: m)
    else if a = k then (if b = unlistedByte then m else (a, b) :: m)
    else (k, x) :: Memory.write m a b

/-- Reading `n` bytes from an address. -/
def Memory.readBytes (m : List Host.Cell) : (a n : Nat) → List Byte
  | _, 0 => []
  | a, n + 1 => Memory.read m a :: Memory.readBytes m (a + 1) n

/-- Writing bytes from an address. -/
def Memory.writeBytes (m : List Host.Cell) : (a : Nat) → List Byte → List Host.Cell
  | _, [] => m
  | a, b :: bs => Memory.writeBytes (Memory.write m a b) (a + 1) bs

/-- Every listed address is at least a bound, addresses rise strictly, and no byte equals the unlisted one. -/
def Memory.wfFrom : (low : Nat) → List Host.Cell → Bool
  | _, [] => true
  | low, (k, b) :: m => decide (low ≤ k) && decide (b ≠ unlistedByte) && Memory.wfFrom (k + 1) m

/-- The canonical form of page memory: equal memories are equal lists. -/
def Memory.wf (m : List Host.Cell) : Bool := Memory.wfFrom 0 m

/-! ## Ranges -/

/-- Whether two ranges of addresses share a byte. -/
def overlaps (base length base' length' : Nat) : Bool := decide (base < base' + length') && decide (base' < base + length)

/-- Whether an address lies in a region (R5). -/
def Region.holds (r : Region) (address : Nat) : Bool := decide (r.base ≤ address) && decide (address < r.base + r.length)

/-- The kind of a region (R5). -/
def Region.kind (r : Region) : RegionKind :=
  match r.body with
  | .scan _ => .scan
  | .page _ _ => .page

/-- The parser state of a framing (R78). -/
def Framing.state : Framing → ParserState
  | .atHeader => .atHeader
  | .inPayload _ _ => .inPayload
  | .broken => .broken

/-- The state of a job that is not FREE (R43). -/
def JobPhase.state : JobPhase → JobState
  | .active => .active
  | .held => .held
  | .released => .released
  | .closing _ => .closing

/-! ## Reading the state -/

/-- The time counter (R39). -/
def State.now (s : State) : Nat := s.directive.time

/-- The entry of the region table at an index. -/
def State.region (s : State) (i : Nat) : Option Region := tget s.transaction.regions i

/-- The record in a job slot. -/
def State.jobAt (s : State) (slot : Nat) : Option JobRecord := tget s.job.slots slot

/-- The account record at an index. -/
def State.accountAt (s : State) (i : Nat) : Account := tget s.account.accounts i

/-- The consumable record at a position. -/
def State.consumableAt (s : State) (p : Nat) : Consumable := tget s.consumable.records p

/-- A tariff class. -/
def State.tariff (s : State) (c : Nat) : Tariff := tget s.charging.tariffs c

/-- Whether the part is in LOCKDOWN (R167). -/
def State.locked (s : State) : Bool := s.lockdown.mode == .lockdown

/-- The bound region an address lies in, with its index (R12). -/
def State.regionOf (s : State) (address : Nat) : Option (Nat × Region) :=
  let holds : Option Region → Bool := fun e =>
    match e with
    | some r => r.holds address
    | none => false
  match (tlist s.transaction.regions).findIdx? holds with
  | some i => (s.region i).map fun r => (i, r)
  | none => none

/-- Whether a range overlaps any bound region (R6, R32). -/
def State.overlapsRegion (s : State) (base length : Nat) : Bool :=
  (tlist s.transaction.regions).any fun e =>
    match e with
    | some r => overlaps base length r.base r.length
    | none => false

/-- Whether a range overlaps any area on the owned-area list (R6, R23, R32). -/
def State.overlapsOwned (s : State) (base length : Nat) : Bool :=
  s.directive.owned.any fun a => overlaps base length a.base a.length

/-- The job number held in a slot, absent where it is FREE. -/
def State.jobNumber (s : State) (slot : Nat) : Option Nat := (s.jobAt slot).map JobRecord.number

/-- How many job slots are FREE (R40, R62). -/
def State.freeSlots (s : State) : Nat := (tlist s.job.slots).countP Option.isNone

/-- Whether every job slot is FREE (R4, R163). -/
def State.allSlotsFree (s : State) : Bool := (tlist s.job.slots).all Option.isNone

/-- How many job slots name an account (R121, R123). -/
def State.slotsNaming (s : State) (account : Nat) : Nat :=
  (tlist s.job.slots).countP fun j =>
    match j with
    | some r => r.account == account
    | none => false

/-- How many bound regions a slot has (R6, R48). -/
def State.regionsOfSlot (s : State) (slot : Nat) : Nat :=
  (tlist s.transaction.regions).countP fun e =>
    match e with
    | some r => r.slot == slot
    | none => false

/-- The current epoch number (R127). -/
def State.epoch (s : State) : Nat := s.now / 1000000

/-! ## Changing one part of the state -/

/-- Page memory replaced. -/
def State.setMemory (s : State) (m : List Host.Cell) : State := { s with memory := m }

/-- Bytes written to page memory. -/
def State.store (s : State) (address : Nat) (bytes : List Byte) : State :=
  s.setMemory (Memory.writeBytes s.memory address bytes)

/-- The transaction unit replaced. -/
def State.setTransaction (s : State) (u : TransactionUnit) : State := { s with transaction := u }
/-- The cipher unit replaced. -/
def State.setCipher (s : State) (u : CipherUnit) : State := { s with cipher := u }
/-- The directive unit replaced. -/
def State.setDirective (s : State) (u : DirectiveUnit) : State := { s with directive := u }
/-- The job unit replaced. -/
def State.setJobs (s : State) (u : JobUnit) : State := { s with job := u }
/-- The band parser replaced. -/
def State.setParser (s : State) (u : BandParser) : State := { s with parser := u }
/-- The charging unit replaced. -/
def State.setCharging (s : State) (u : ChargingUnit) : State := { s with charging := u }
/-- The account unit replaced. -/
def State.setAccounts (s : State) (u : AccountUnit) : State := { s with account := u }
/-- The consumable unit replaced. -/
def State.setConsumables (s : State) (u : ConsumableUnit) : State := { s with consumable := u }
/-- The link unit replaced. -/
def State.setLink (s : State) (u : LinkUnit) : State := { s with link := u }
/-- The meter unit replaced. -/
def State.setMeter (s : State) (u : MeterUnit) : State := { s with meter := u }
/-- Lockdown control replaced. -/
def State.setLockdown (s : State) (u : LockdownControl) : State := { s with lockdown := u }

/-- One entry of the region table replaced. -/
def State.setRegion (s : State) (i : Nat) (r : Option Region) : State :=
  s.setTransaction { s.transaction with regions := tset s.transaction.regions i r }

/-- One job slot replaced. -/
def State.setJob (s : State) (slot : Nat) (j : Option JobRecord) : State :=
  s.setJobs { slots := tset s.job.slots slot j }

/-- A job record changed, where the slot holds one. -/
def State.updateJob (s : State) (slot : Nat) (f : JobRecord → JobRecord) : State :=
  s.setJob slot ((s.jobAt slot).map f)

/-- One key store entry replaced. -/
def State.setKey (s : State) (slot : Nat) (k : Option KeyEntry) : State :=
  s.setCipher { s.cipher with keys := tset s.cipher.keys slot k }

/-- An account record changed. -/
def State.updateAccount (s : State) (i : Nat) (f : Account → Account) : State :=
  s.setAccounts { s.account with accounts := tset s.account.accounts i (f (s.accountAt i)) }

/-- The pristine flag cleared (R125). -/
def State.clearPristine (s : State) : State := s.setAccounts { s.account with pristine := false }

/-- A consumable record changed. -/
def State.updateConsumable (s : State) (p : Nat) (f : Consumable → Consumable) : State :=
  s.setConsumables { s.consumable with records := tset s.consumable.records p (f (s.consumableAt p)) }

/-- The open side replaced (R85). -/
def State.setOpenSide (s : State) (o : Option OpenSide) : State := s.setParser { openSide := o }

/-- The sheet queue replaced (R94). -/
def State.setSheets (s : State) (q : List Sheet) : State := s.setCharging { s.charging with sheets := q }

/-- The meter work replaced. -/
def State.setWork (s : State) (w : MeterWork) : State := s.setMeter { s.meter with work := w }

/-! ## Owned areas (R31) -/

/-- An area joins the owned-area list. -/
def State.own (s : State) (base length : Nat) (source : AreaSource) : State :=
  s.setDirective { s.directive with owned := s.directive.owned ++ [{ base := base, length := length, source := source }] }

/-- The area with a base and a source leaves the owned-area list. -/
def State.disown (s : State) (base : Nat) (source : AreaSource) : State :=
  s.setDirective
    { s.directive with owned := s.directive.owned.filter fun a => !(a.base == base && a.source == source) }

/-! ## Notices (R34) -/

/-- A block asks the notice writer for a notice: the request joins those waiting. -/
def State.askNotice (s : State) (kind : NoticeKind) (values : List Val) : State :=
  s.setDirective
    { s.directive with notices := s.directive.notices ++ [{ kind := kind, detail := 0, operands := layout values }] }

/-- The same with the present time as the notice's time tag (R17; log 37). -/
def State.askStamped (s : State) (kind : NoticeKind) (values : List Val) : State :=
  s.setDirective
    { s.directive with
      notices :=
        s.directive.notices ++ [{ kind := kind, detail := 0, operands := layout values, stamp := some s.now }] }

/-- The notice writer takes a request (R34, R37): with the ring set it writes the entry at the head, advances the head
and the written count and raises ATTN for a masked class; with the ring unset it discards the notice. -/
def State.deliver (s : State) (q : NoticeRequest) : State :=
  match s.directive.ring with
  | none => s
  | some r =>
    (s.store (r.base + 32 * r.head) (q.bytes s.now)).setDirective
      { s.directive with
        ring := some { r with head := (r.head + 1) % r.count, written := r.written + 1 }
        attn := s.directive.attn || inMask s.directive.mask q.kind.noticeClass }

/-- The requests a list holds, taken one at a time in order. -/
def State.deliverAll : State → List NoticeRequest → State
  | s, [] => s
  | s, q :: qs => (s.deliver q).deliverAll qs

/-- The notice writer takes the oldest waiting request, if there is one. -/
def State.takeNotice (s : State) : State :=
  match s.directive.notices with
  | [] => s
  | q :: qs => (s.setDirective { s.directive with notices := qs }).deliver q

/-! ## Replies (R26, R27) -/

/-- Something joins the reply writer's work as its newest. -/
def State.handWriter (s : State) (w : WriterItem) : State :=
  s.setDirective { s.directive with writes := s.directive.writes ++ [w] }

/-- An outcome with its detail and results, as an owner returns it (R25). -/
structure Answer where
  outcome : OutcomeCode
  detail  : Detail
  results : List Byte
  deriving DecidableEq, Repr, Inhabited

/-- DONE with results. -/
def Answer.done (results : List Val) : Answer := ⟨.done, .none, layout results⟩

/-- An outcome with a detail and no results. -/
def Answer.refuse (outcome : OutcomeCode) (detail : Detail) : Answer := ⟨outcome, detail, []⟩

/-- LOCKED, with no detail. -/
def Answer.locked : Answer := ⟨.locked, .none, []⟩

/-- The results of a SET_ROLES reply: the role table as it stands (R4). -/
def State.roleView (s : State) : List Val := (tlist s.transaction.roles).map fun r => u8 r.code

/-- What the general tests of R25 answer a directive with: the reply to SET_ROLES carries the role table whatever its
outcome (R4). The results of an ACCOUNT_ADJUST answered BAD_FLAG are zero: R119 gives its results for every outcome of
the account unit's tests but LOCKED and BAD_OPERAND, and the account unit never sees this directive; that R119 does not
reach it is the model's choice (log 17). -/
def State.generalAnswer (s : State) (d : Directive) (outcome : OutcomeCode) (detail : Detail) : Answer :=
  ⟨outcome, detail, if d.code = DirectiveName.setRoles.code then layout s.roleView else []⟩

/-- The generation field of a reply: the account's generation for an account directive that names an account, zero
otherwise (R27, R117; log 18). -/
def State.replyGeneration (s : State) (code : Nat) (operands : List Byte) : BitVec 32 :=
  if DirectiveName.accountSet.code ≤ code ∧ code ≤ DirectiveName.accountClear.code then
    if valueAt accountIndexForm operands 0 < 2048 then (s.accountAt (valueAt accountIndexForm operands 0)).generation
    else 0
  else 0

/-- A directive's reply with its outcome decided now is handed to the reply writer (R25, R27). -/
def State.reply (s : State) (d : Directive) (a : Answer) : State :=
  s.handWriter (.reply
    { location := d.location, code := d.code, outcome := a.outcome, detail := a.detail,
      hostReference := d.hostReference, generation := s.replyGeneration d.code d.operands, timeTag := s.now,
      results := a.results })

/-- A parked reply is handed to the reply writer with its outcome (R26). -/
def State.replyParked (s : State) (p : Parked) (a : Answer) : State :=
  s.handWriter (.reply
    { location := p.location, code := p.code, outcome := a.outcome, detail := a.detail,
      hostReference := p.hostReference, generation := 0, timeTag := s.now, results := a.results })

/-- What a parked reply keeps of its directive (R26). -/
def Directive.park (d : Directive) : Parked :=
  { code := d.code, hostReference := d.hostReference, location := d.location }

/-! ## The executing directive (R25) -/

/-- The executing directive's reply is handed over; the directive stays executing until the reply is written (R25). -/
def State.finish (s : State) (d : Directive) (a : Answer) : State :=
  let s' := s.reply d a
  s'.setDirective { s'.directive with executing := some { directive := d, phase := .replying } }

/-- Whether a code names a directive that is executed in LOCKDOWN (R24, R167). -/
def executedInLockdown (code : Nat) : Bool :=
  code == DirectiveName.status.code || code == DirectiveName.recover.code

/-- When no directive is executing, the oldest waiting one becomes executing and meets the two general tests of R25. -/
def State.dispatchNext (s : State) : State :=
  match s.directive.executing, s.directive.queue with
  | none, d :: ds =>
    let s' := s.setDirective { s.directive with queue := ds }
    if d.badFlag then s'.finish d (s'.generalAnswer d .refusedRange .badFlag)
    else if s.locked && !executedInLockdown d.code then s'.finish d (s'.generalAnswer d .locked .none)
    else s'.setDirective { s'.directive with executing := some { directive := d, phase := .running } }
  | _, _ => s

/-- What an owner makes of a directive: an answer, or the reply parked with it (R25, R26). -/
inductive Verdict where
  | answer (a : Answer)
  | parked
  deriving DecidableEq, Repr, Inhabited

/-- The verdict applied at the directive unit: an answer's reply is handed over; with a parked reply the directive is
finished with, and the next one becomes executing (R25, R26). -/
def State.conclude (s : State) (d : Directive) : Verdict → State
  | .answer a => s.finish d a
  | .parked => (s.setDirective { s.directive with executing := none }).dispatchNext

/-- The step at which the owner takes the executing directive (R25). Where no directive of this name waits for its
owner, the step does not come about and nothing changes (log 1). In LOCKDOWN every directive but STATUS and RECOVER is
answered LOCKED (R25, R30). -/
def State.runDirective (s : State) (name : DirectiveName) (owner : Directive → State → Verdict × State) : State :=
  match s.directive.executing with
  | some { directive := d, phase := .running } =>
    if d.code = name.code then
      if s.locked && !executedInLockdown d.code then s.finish d (s.generalAnswer d .locked .none)
      else (owner d s).2.conclude d (owner d s).1
    else s
  | _ => s

/-! ## The response at the subordinate port (R1) -/

/-- The transaction is answered. -/
def State.respond (s : State) (requester : Nat) (okay : Bool) (data : List Byte) : State :=
  s.setTransaction
    { s.transaction with response := some { requester := requester, okay := okay, data := data } }

end Sys2Proof.Machine
end

