-- ==== Sys2Proof/Machine/Accounts.lean ====
section
/-! DEFINITION. The account unit: floors, charging events, and the account directives (spec/07). -/

namespace Sys2Proof.Machine

/-! ## Floors and questions (R114, R116) -/

/-- An account's floor (R114). -/
def Account.floor (a : Account) : Option Int := floorOf a.mode a.creditLimit

/-- The floor as a reply carries it: zero for UNMETERED (R118; log 34). -/
def Account.floorShown (a : Account) : Int := a.floor.getD 0

/-- What an account has left of its balance beside its reservations (R114). -/
def Account.free (a : Account) : Int := a.balance - a.reserved

/-- Whether the account can take a reservation or pay a scan cost of this amount (R116). -/
def Account.canTake (a : Account) (amount : Nat) : Bool :=
  decide (amount = 0) || atOrAbove a.floor (a.free - amount)

/-! ## Charging events (R115, R125) -/

/-- An account record changed by an event that clears the pristine flag (R125). -/
def State.chargeAccount (s : State) (i : Nat) (f : Account → Account) : State := (s.updateAccount i f).clearPristine

/-- A side start's reservation (R89, R115). -/
def State.reserve (s : State) (i amount : Nat) : State :=
  s.chargeAccount i fun a => { a with reserved := a.reserved + amount }

/-- An abandoned side's release (R92, R115). -/
def State.release (s : State) (i amount : Nat) : State :=
  s.chargeAccount i fun a => { a with reserved := a.reserved - amount }

/-- A committed side at its account (R100): the balance falls by the charge and the reserved amount by the
reservation, and the counters of its kind rise. -/
def Account.commitSide (colour : Bool) (charge reservation : Nat) (a : Account) : Account :=
  { a with
    balance := a.balance - charge
    reserved := a.reserved - reservation
    periodMono := if colour then a.periodMono else satAdd top32 a.periodMono 1
    periodColour := if colour then satAdd top32 a.periodColour 1 else a.periodColour
    lifeMono := if colour then a.lifeMono else satAdd top32 a.lifeMono 1
    lifeColour := if colour then satAdd top32 a.lifeColour 1 else a.lifeColour
    overdraft := if 0 < charge ∧ a.balance - charge < 0 then satAdd top32 a.overdraft 1 else a.overdraft }

/-- The account's share of a commit, with its OVERDRAFT notice (R100). -/
def State.commitAccount (s : State) (i : Nat) (colour : Bool) (charge reservation : Nat) : State :=
  let charged := s.chargeAccount i (Account.commitSide colour charge reservation)
  if 0 < charge ∧ (charged.accountAt i).balance < 0 then
    charged.askNotice .overdraft [u16 i, u16 charge, i32 (charged.accountAt i).balance]
  else charged

/-- The account's share of a sheet dropped by a jam (R103). -/
def State.dropAccount (s : State) (i reservations : Nat) : State :=
  s.chargeAccount i fun a =>
    { a with reserved := a.reserved - reservations, lifeJammed := satAdd top32 a.lifeJammed 1 }

/-- A scan page counted at an account (R107). -/
def Account.countScan (a : Account) : Account :=
  { a with periodScan := satAdd top32 a.periodScan 1, lifeScan := satAdd top32 a.lifeScan 1 }

/-- The decision of an attributed scan page (R107), with whether the page was paid or counted only. -/
def State.decideScan (s : State) (i cost : Nat) : State × Bool :=
  if (s.accountAt i).mode = .unmetered then (s.chargeAccount i Account.countScan, true)
  else if (s.accountAt i).canTake cost then
    (s.chargeAccount i fun a => { a.countScan with balance := a.balance - cost }, true)
  else (s.chargeAccount i fun a => { a with unpaid := satAdd top32 a.unpaid 1 }, false)

/-! ## Account directives -/

/-- A directive's change to an account: the record changes and its generation rises by one (R117), and the pristine
flag is cleared (R125). -/
def State.editAccount (s : State) (i : Nat) (f : Account → Account) : State :=
  s.chargeAccount i fun a => { f a with generation := a.generation + 1 }

/-- The CHECK_GEN test (R29, R117). -/
def Directive.isStale (d : Directive) (a : Account) : Bool :=
  d.checkGen && d.expectedGeneration != a.generation.toNat

/-- The results of ACCOUNT_SET (R118). -/
def accountSetResults (a : Account) : List Val :=
  [u8 a.state.code, u8 a.mode.code, flag8 a.colour, u32 a.creditLimit, i32 a.balance, u32 a.reserved,
   i32 a.floorShown]

/-- The three operands taken by an account (R118): an UNUSED account becomes ACTIVE with balance 0 and every counter 0,
which an UNUSED record already holds (R112). -/
def Account.setTerms (mode : AccountMode) (colour : Bool) (creditLimit : Nat) (a : Account) : Account :=
  match a.state with
  | .unused =>
    { Account.unused a.generation with state := .active, mode := mode, colour := colour, creditLimit := creditLimit }
  | .active | .suspended => { a with mode := mode, colour := colour, creditLimit := creditLimit }

/-- ACCOUNT_SET at the account unit (R118; log 20 for a colour flag above 1). -/
def ownAccountSet (d : Directive) (s : State) : Verdict × State :=
  let i := d.arg accountSetForm 0
  let colour := d.arg accountSetForm 2
  let limit := d.arg accountSetForm 3
  let a := s.accountAt i
  match ofCode? AccountMode.all (d.arg accountSetForm 1) with
  | none => (.answer (.refuse .refusedRange .badOperand), s)
  | some mode =>
    if 2047 < i ∨ 1 < colour ∨ 1000000 < limit then (.answer (.refuse .refusedRange .badOperand), s)
    else if d.isStale a then (.answer (.refuse .stale .none), s)
    else if mode = .unmetered ∧ a.reserved ≠ 0 then (.answer (.refuse .refusedState .reserved), s)
    else if !atOrAbove (floorOf mode limit) a.free then (.answer (.refuse .refusedRange .floor), s)
    else
      let s' := s.editAccount i (Account.setTerms mode (colour == 1) limit)
      (.answer (.done (accountSetResults (s'.accountAt i))), s')

/-- ACCOUNT_SET (R118). -/
def execAccountSet (s : State) : Host.Outcome State Fault Refusal := .next (s.runDirective .accountSet ownAccountSet)

/-- The results of ACCOUNT_ADJUST (R119, R120). -/
def accountAdjustResults (a : Account) (amount : Int) : List Val :=
  [i32 a.balance, i64 (a.balance + amount), u32 a.reserved, i32 a.floorShown,
   u8 (adjustFlags a.mode a.creditLimit a.reserved (a.balance + amount))]

/-- The tests 4 to 6 of ACCOUNT_ADJUST: the outcome and detail it fails with, none where it passes (R119). -/
def Account.adjustRefusal (a : Account) (amount : Int) : Option (OutcomeCode × Detail) :=
  if a.state = .unused then some (.refusedState, .notInUse)
  else if a.balance + amount < -1000000 ∨ 2000000000 < a.balance + amount then some (.refusedRange, .balanceRange)
  else if !atOrAbove a.floor (a.balance + amount - a.reserved) then some (.refusedRange, .floor)
  else none

/-- ACCOUNT_ADJUST at the account unit (R119, R120). -/
def ownAccountAdjust (d : Directive) (s : State) : Verdict × State :=
  let i := d.arg accountAdjustForm 0
  let amount := signed32 (d.arg accountAdjustForm 1)
  let a := s.accountAt i
  let answer := fun (o : OutcomeCode) (detail : Detail) =>
    Verdict.answer ⟨o, detail, layout (accountAdjustResults a amount)⟩
  if 2047 < i then (.answer (.refuse .refusedRange .badOperand), s)
  else if d.isStale a then (answer .stale .none, s)
  else
    match a.adjustRefusal amount with
    | some (o, detail) => (answer o detail, s)
    | none =>
      if d.trial || decide (amount = 0) then (answer .done .none, s)
      else (answer .done .none, s.editAccount i fun a => { a with balance := a.balance + amount })

/-- ACCOUNT_ADJUST (R119, R120). -/
def execAccountAdjust (s : State) : Host.Outcome State Fault Refusal :=
  .next (s.runDirective .accountAdjust ownAccountAdjust)

/-- ACCOUNT_SUSPEND and ACCOUNT_RESUME (R121): the state the account must not be in, and the state it takes. -/
def changeAccountState (already target : AccountState) (d : Directive) (s : State) : Verdict × State :=
  let i := d.arg accountIndexForm 0
  let a := s.accountAt i
  if 2047 < i then (.answer (.refuse .refusedRange .badOperand), s)
  else if d.isStale a then (.answer (.refuse .stale .none), s)
  else if a.state = .unused then (.answer (.refuse .refusedState .notInUse), s)
  else if a.state = already then (.answer (.refuse .refusedState .accountState), s)
  else
    (.answer (.done [u8 target.code, i32 a.balance, u32 a.reserved, u8 (s.slotsNaming i)]),
     s.editAccount i fun a => { a with state := target })

/-- ACCOUNT_SUSPEND at the account unit (R121). -/
def ownAccountSuspend : Directive → State → Verdict × State := changeAccountState .suspended .suspended

/-- ACCOUNT_SUSPEND (R121). -/
def execAccountSuspend (s : State) : Host.Outcome State Fault Refusal :=
  .next (s.runDirective .accountSuspend ownAccountSuspend)

/-- ACCOUNT_RESUME at the account unit (R121). -/
def ownAccountResume : Directive → State → Verdict × State := changeAccountState .active .active

/-- ACCOUNT_RESUME (R121). -/
def execAccountResume (s : State) : Host.Outcome State Fault Refusal :=
  .next (s.runDirective .accountResume ownAccountResume)

/-- The STANDING view of ACCOUNT_READ (R122). -/
def State.accountStandingView (s : State) (a : Account) : List Val :=
  [u8 a.state.code, u8 a.mode.code, flag8 a.colour, u32 a.creditLimit, i32 a.balance, u32 a.reserved,
   i32 a.floorShown, u32 a.unpaid, u32 a.overdraft, u32 s.account.period.toNat]

/-- The COUNTERS view of ACCOUNT_READ (R122). -/
def accountCountersView (a : Account) : List Val :=
  [u32 a.periodMono, u32 a.periodColour, u32 a.periodScan, u32 a.lifeMono, u32 a.lifeColour, u32 a.lifeScan,
   u32 a.lifeJammed]

/-- ACCOUNT_READ at the account unit (R122). -/
def ownAccountRead (d : Directive) (s : State) : Verdict × State :=
  let i := d.arg accountReadForm 0
  let view := d.arg accountReadForm 1
  let a := s.accountAt i
  if 2047 < i ∨ 1 < view then (.answer (.refuse .refusedRange .badOperand), s)
  else if view = 0 then (.answer (.done (s.accountStandingView a)), s)
  else (.answer (.done (accountCountersView a)), s)

/-- ACCOUNT_READ (R122). -/
def execAccountRead (s : State) : Host.Outcome State Fault Refusal :=
  .next (s.runDirective .accountRead ownAccountRead)

/-- An ORPHAN sheet in the queue names the account (R105, R123). -/
def State.orphanNames (s : State) (i : Nat) : Bool :=
  s.charging.sheets.any fun h => h.owner == .orphan && h.account == i

/-- The results of ACCOUNT_CLEAR: the account as it stood (R123). -/
def accountClearResults (a : Account) : List Val :=
  [i32 a.balance, u32 a.lifeMono, u32 a.lifeColour, u32 a.lifeScan, u32 a.lifeJammed, u32 a.unpaid, u32 a.overdraft]

/-- ACCOUNT_CLEAR at the account unit (R123). -/
def ownAccountClear (d : Directive) (s : State) : Verdict × State :=
  let i := d.arg accountIndexForm 0
  let a := s.accountAt i
  if 2047 < i then (.answer (.refuse .refusedRange .badOperand), s)
  else if d.isStale a then (.answer (.refuse .stale .none), s)
  else if a.state = .unused then (.answer (.refuse .refusedState .notInUse), s)
  else if a.reserved ≠ 0 then (.answer (.refuse .refusedState .reserved), s)
  else if 0 < s.slotsNaming i then (.answer (.refuse .refusedState .jobNames), s)
  else if s.orphanNames i then (.answer (.refuse .refusedState .orphanSheet), s)
  else (.answer (.done (accountClearResults a)), s.editAccount i fun a => .unused a.generation)

/-- ACCOUNT_CLEAR (R123). -/
def execAccountClear (s : State) : Host.Outcome State Fault Refusal :=
  .next (s.runDirective .accountClear ownAccountClear)

/-- A period closed at one account (R124): nothing happens to an UNUSED one. -/
def Account.closePeriod (a : Account) : Account :=
  if a.state = .unused then a
  else { a with periodMono := 0, periodColour := 0, periodScan := 0, generation := a.generation + 1 }

/-- A sum over the account table. -/
def State.sumAccounts (s : State) (f : Account → Nat) : Nat := ((tlist s.account.accounts).map f).sum

/-- PERIOD_CLOSE at the account unit (R124). -/
def ownPeriodClose (_d : Directive) (s : State) : Verdict × State :=
  let closed := s.sumAccounts fun a => (a.state != .unused).toNat
  (.answer (.done
     [u32 (s.account.period + 1).toNat, u16 closed, u64 (s.sumAccounts Account.periodMono),
      u64 (s.sumAccounts Account.periodColour), u64 (s.sumAccounts Account.periodScan)]),
   s.setAccounts
     { accounts := tmap Account.closePeriod s.account.accounts, period := s.account.period + 1, pristine := false })

/-- PERIOD_CLOSE (R124). -/
def execPeriodClose (s : State) : Host.Outcome State Fault Refusal :=
  .next (s.runDirective .periodClose ownPeriodClose)

end Sys2Proof.Machine
end

