-- ==== Sys2Proof/Machine/LinkQueue.lean ====
section
/-! DEFINITION. Requests to the link unit and its answers about the queue (R144, R145, R152, R153). -/

namespace Sys2Proof.Machine

/-- The link unit holds an entry of this position and kind, queued or running (R153). -/
def State.linkHolds (s : State) (p : Nat) (kind : LinkKind) : Bool :=
  s.link.queue.any fun e => e.position == p && e.kind == kind

/-- A SYNC of the position is running (R153). -/
def State.syncRunning (s : State) (p : Nat) : Bool :=
  s.link.running.isSome && s.link.queue.head? == some { position := p, kind := .sync }

/-- The kinds of a position's entries queued or running, one bit each in the order of 13.3 (R153, R173). -/
def State.linkKinds (s : State) (p : Nat) : Nat :=
  (s.linkHolds p .authenticate).toNat + 2 * (s.linkHolds p .recheck).toNat + 4 * (s.linkHolds p .sync).toNat

/-- A request for a link entry (R145), with whether it was admitted. -/
def State.requestLink (s : State) (p : Nat) (kind : LinkKind) : State × Bool :=
  if 8 ≤ s.link.queue.length then (s, false)
  else if s.linkHolds p kind then (s, true)
  else (s.setLink { s.link with queue := s.link.queue ++ [{ position := p, kind := kind }] }, true)

/-- A request for a SYNC; the record keeps whether it was refused, for the next unit drawn (R135; log 40). -/
def State.requestSync (s : State) (p : Nat) : State :=
  let (s', admitted) := s.requestLink p .sync
  s'.updateConsumable p fun r => { r with syncRefused := !admitted }

/-- The end of a position's work at a presence fall (R152): its entries are removed, and its running entry ends
unreported with QUIET after it. -/
def State.dropPosition (s : State) (p : Nat) : State :=
  let rest := s.link.queue.filter fun e => !(e.position == p)
  if s.link.running.isSome && (s.link.queue.head?.map LinkEntry.position) == some p then
    s.setLink { queue := rest, running := none, quietSince := some s.now }
  else s.setLink { s.link with queue := rest }

end Sys2Proof.Machine
end

