-- ==== Sys2Proof/Machine/Consumables.lean ====
section
/-! DEFINITION. The consumable unit: draw-down, the ends of link entries, presence, the epoch schedule, and the
consumable directives (spec/08). -/

namespace Sys2Proof.Machine

/-! ## Notices and requests that several rules share -/

/-- The serial a record holds, if it holds one. -/
def Consumable.serial (r : Consumable) : Option Nat := r.chip.map Chip.serial

/-- The remaining yield a record holds, if it holds one. -/
def Consumable.remaining (r : Consumable) : Option Nat := r.chip.map Chip.remaining

/-- The EXHAUSTED notice (R135). -/
def State.noticeExhausted (s : State) (p : Nat) : State :=
  s.askNotice .exhausted [u8 p, u32 (s.consumableAt p).unsynced, opt 8 (s.consumableAt p).serial]

/-- The LOW notice (R137), where the record's remaining yield was at or above the mark before the event and is now
below it. -/
def State.noticeLowIf (s : State) (p : Nat) (wasAtOrAbove : Bool) : State :=
  match (s.consumableAt p).chip with
  | some c =>
    if wasAtOrAbove && decide (c.remaining < (s.consumableAt p).lowMark) then
      s.askNotice .low [u8 p, u32 c.remaining, u64 c.serial]
    else s
  | none => s

/-- The ACCEPTED, REJECTED, LINK_FAULT and CHECK_FAILED notices (R132, R133, R136). -/
def State.noticeCheck (s : State) (notice : NoticeKind) (p : Nat) (kind : LinkKind) (result : CheckResult)
    (identity : Option Identity) : State :=
  s.askNotice notice
    [u8 p, u8 kind.code, u8 result.code, u8 (s.consumableAt p).state.code, opt 2 (identity.map Identity.modelCode),
     opt 8 (identity.map Identity.serial)]

/-- A record that makes a SYNC necessary at an end or an epoch boundary (R132, R136, R139). -/
def Consumable.syncNeeded (r : Consumable) : Bool :=
  (r.state == .genuine && decide (1024 ≤ r.unsynced)) || (r.state == .exhausted && decide (0 < r.unsynced))

/-- A SYNC is requested where the record makes one necessary (R132, R136). -/
def State.requestSyncIfNeeded (s : State) (p : Nat) : State :=
  if (s.consumableAt p).syncNeeded then s.requestSync p else s

/-! ## Drawing down (R134, R135) -/

/-- After each unit drawn, a SYNC that was not admitted is requested again where the record still makes one necessary
(log 40); and after one drawn in GENUINE, a SYNC is requested at 1,024 units unsynced unless one is held (R135). -/
def State.syncAfterDraw (s : State) (p : Nat) : State :=
  let r := s.consumableAt p
  if (r.syncRefused && r.syncNeeded) ||
      (r.state == .genuine && decide (1024 ≤ r.unsynced) && !s.linkHolds p .sync) then
    s.requestSync p
  else s

/-- One unit drawn from a record that holds a yield (R135, R137). -/
def State.drawUnit (s : State) (p : Nat) : State :=
  match (s.consumableAt p).chip with
  | none => s
  | some c =>
    if c.remaining = 0 then
      (s.updateConsumable p fun r => { r with overrun := satAdd top32 r.overrun 1 }).syncAfterDraw p
    else
      let runsOut := decide (c.remaining = 1) && (s.consumableAt p).state == .genuine
      let drawn := s.updateConsumable p fun r =>
        { r with
          chip := some { c with remaining := c.remaining - 1 }
          unsynced := r.unsynced + 1
          state := if runsOut then .exhausted else r.state
          recheckDue := if runsOut then none else r.recheckDue }
      let ended := if runsOut then (drawn.noticeExhausted p).requestSync p else drawn
      (ended.noticeLowIf p (decide ((s.consumableAt p).lowMark ≤ c.remaining))).syncAfterDraw p

/-- Units drawn one after another. -/
def State.drawUnits (s : State) (p : Nat) : Nat → State
  | 0 => s
  | n + 1 => (s.drawUnit p).drawUnits p n

/-- Band dot-levels handed to the position of their plane (R134): discarded where the record holds no yield. -/
def State.handDots (s : State) (plane : Plane) (dots : Nat) : State :=
  match (s.consumableAt plane.code).chip with
  | none => s
  | some _ =>
    let total := (s.consumableAt plane.code).partialDots + dots
    (s.updateConsumable plane.code fun r => { r with partialDots := total % 65536 }).drawUnits plane.code
      (total / 65536)

/-- The draw-down of the imaging unit by one side (R91, R134). -/
def State.drawImaging (s : State) : State := s.drawUnit 4

/-! ## Gating (R138) -/

/-- The positions a side needs: that of each plane in its mask, and IMAGING. -/
def neededPositions (mask : PlaneMask) : List Nat := (Plane.all.filter (hasPlane mask)).map Plane.code ++ [4]

/-- The lowest-numbered position a side needs that is not GENUINE, with its state; none where the check passes
(R138). -/
def State.notGenuine (s : State) (mask : PlaneMask) : Option (Nat × ConsumableState) :=
  ((neededPositions mask).find? fun p => (s.consumableAt p).state != .genuine).map fun p =>
    (p, (s.consumableAt p).state)

/-! ## The ends of link entries -/

/-- The judgement of R132 on an entry that ended with results. -/
def Consumable.judge (r : Consumable) (p : Nat) (identity : Identity) (passes : Bool) : CheckResult :=
  if identity.modelCode % 8 ≠ p then .wrongPosition
  else if !passes then .badResponse
  else
    match r.chip with
    | some c => if c.serial = identity.serial then .passed else .serialChanged
    | none => .passed

/-- The reject reason a failing check result leaves (R132). -/
def CheckResult.reject : CheckResult → RejectReason
  | .wrongPosition => .wrongPosition
  | .badResponse => .badResponse
  | .serialChanged => .serialChanged
  | .linkFailed | .passed | .removed => .linkFailed

/-- A failing check takes a record out of use: LINK_FAULT on LINK_FAILED, REJECTED otherwise, with the notice of the
new state (R132, R133). -/
def State.failCheck (s : State) (p : Nat) (kind : LinkKind) (result : CheckResult) (identity : Option Identity) :
    State :=
  let faulted := result == .linkFailed
  (s.updateConsumable p fun r =>
    { r with
      state := if faulted then .linkFault else .rejected
      rejectReason := some result.reject
      recheckDue := none
      authPending := false }).noticeCheck (if faulted then .linkFault else .rejected) p kind result identity

/-- An AUTHENTICATE that passes at a record in AUTHENTICATING, REJECTED or LINK_FAULT (R132): a record without a
serial is loaded from the chip. -/
def State.acceptCheck (s : State) (p : Nat) (identity : Identity) : State :=
  let r := s.consumableAt p
  let fresh : Chip := { serial := identity.serial, modelCode := identity.modelCode, remaining := identity.storedYield }
  let chip := r.chip.getD fresh
  let genuine := decide (0 < chip.remaining)
  let interval := (tget s.consumable.schedule p).interval
  let accepted := s.updateConsumable p fun r =>
    { r with
      chip := some chip
      partialDots := if r.chip.isNone then 0 else r.partialDots
      unsynced := if r.chip.isNone then 0 else r.unsynced
      overrun := if r.chip.isNone then 0 else r.overrun
      state := if genuine then .genuine else .exhausted
      recheckDue := if genuine && decide (interval ≠ 0) then some (s.epoch + interval) else none
      rejectReason := none
      authPending := false }
  ((accepted.noticeCheck .accepted p .authenticate .passed (some identity)).requestSyncIfNeeded p).noticeLowIf p
    r.chip.isNone

/-- The results of a CHECK_NOW reply (R141). -/
def checkNowResults (p : Nat) (result : CheckResult) (r : Consumable) : List Val :=
  [u8 p, u8 result.code, u8 r.state.code, opt 8 r.serial, opt 4 r.remaining]

/-- A parked CHECK_NOW of the position is answered DONE (R141). -/
def State.answerCheck (s : State) (p : Nat) (result : CheckResult) : State :=
  match (s.consumableAt p).parkedCheck with
  | some parked =>
    (s.replyParked parked (.done (checkNowResults p result (s.consumableAt p)))).updateConsumable p
      fun r => { r with parkedCheck := none }
  | none => s

/-- The effect of an ended AUTHENTICATE on the record by its state (R132), before any CHECK_NOW is answered. -/
def State.authenticateEffect (s : State) (p : Nat) (result : CheckResult) (identity : Option Identity) : State :=
  match (s.consumableAt p).state with
  | .authenticating | .rejected | .linkFault =>
    match result, identity with
    | .passed, some i => s.acceptCheck p i
    | _, _ => s.failCheck p .authenticate result identity
  | .genuine =>
    (if result == .passed then s else s.failCheck p .authenticate result identity).requestSyncIfNeeded p
  | .exhausted =>
    (if result == .passed then s
     else s.noticeCheck .checkFailed p .authenticate result identity).requestSyncIfNeeded p
  | .absent => s

/-- The end of an AUTHENTICATE (R132, R141). -/
def State.authenticateEnd (s : State) (p : Nat) (result : CheckResult) (identity : Option Identity) : State :=
  (s.authenticateEffect p result identity).answerCheck p result

/-- The end of a RECHECK (R133). -/
def State.recheckEnd (s : State) (p : Nat) (result : CheckResult) (identity : Option Identity) : State :=
  if result == .passed then s
  else if (s.consumableAt p).state == .genuine then s.failCheck p .recheck result identity
  else s.noticeCheck .checkFailed p .recheck result identity

/-- The end of a SYNC whose write completed (R136): the chip's stored yield as read, and the value written. -/
def State.syncEnd (s : State) (p chipYield written : Nat) : State :=
  let r := s.consumableAt p
  let capture := r.syncCapture.getD 0
  let since := r.unsynced - capture
  let excess := (capture - chipYield) + (since - written)
  let runsOut := r.state == .genuine && decide (written - since = 0)
  let ended := s.updateConsumable p fun r =>
    { r with
      chip := r.chip.map fun c => { c with remaining := written - since }
      overrun := satAdd top32 r.overrun excess
      unsynced := since
      syncCapture := none
      state := if runsOut then .exhausted else r.state
      recheckDue := if runsOut then none else r.recheckDue }
  let short := if 0 < excess then ended.askNotice .syncShort [u8 p, u32 chipYield, u32 capture, u32 excess] else ended
  let out := if runsOut then short.noticeExhausted p else short
  (out.requestSyncIfNeeded p).noticeLowIf p (decide (r.lowMark ≤ r.remaining.getD 0))

/-- The end of a SYNC reported LINK_FAILED (R136). -/
def State.syncFailed (s : State) (p : Nat) : State :=
  let r := s.consumableAt p
  let ended := s.updateConsumable p fun r => { r with syncCapture := none }
  if r.state == .genuine then ended.failCheck p .sync .linkFailed none
  else ended.askNotice .syncFailed [u8 p, u8 r.state.code, u32 r.unsynced, opt 4 r.syncCapture]

/-! ## Presence (R128 to R130) -/

/-- The settling time of a presence line (R128). -/
def settleTime : Nat := 50000

/-- A line whose level differs from its settled level and has held for the settling time (R128). -/
def State.presenceDue (s : State) (p : Nat) (level : Bool) : Bool :=
  let line := tget s.consumable.presence p
  decide (p < 5) && line.level == level && line.settled == !level && decide (line.since + settleTime ≤ s.now)

/-- A presence line replaced. -/
def State.setPresence (s : State) (p : Nat) (line : PresenceLine) : State :=
  s.setConsumables { s.consumable with presence := tset s.consumable.presence p line }

/-- An AUTHENTICATE request whose refusal leaves authentication pending (R129, R139). -/
def State.requestAuthenticate (s : State) (p : Nat) : State :=
  let (s', admitted) := s.requestLink p .authenticate
  s'.updateConsumable p fun r => { r with authPending := !admitted }

/-- PRESENCE_LINE_CHANGE (R128): the line changes level, and the settling time starts. -/
def execPresenceLineChange (position : Nat) (level : Bool) (s : State) : Host.Outcome State Fault Refusal :=
  if position < 5 then
    let line := tget s.consumable.presence position
    .next (if line.level == level then s else s.setPresence position { line with level := level, since := s.now })
  else .fault .noSuchPosition

/-- The rise of a settled level is taken (R129). -/
def State.presenceRise (s : State) (p : Nat) : State :=
  if s.presenceDue p true then
    (((s.setPresence p { tget s.consumable.presence p with settled := true }).updateConsumable p
      fun r => .cleared .authenticating r.lowMark false).askNotice .inserted [u8 p]).requestAuthenticate p
  else s

/-- PRESENCE_RISE (R129). -/
def execPresenceRise (position : Nat) (s : State) : Host.Outcome State Fault Refusal := .next (s.presenceRise position)

/-- The REMOVED notice (R130). -/
def removedValues (p : Nat) (r : Consumable) : List Val :=
  [u8 p, u8 r.state.code, u16 r.partialDots, opt 4 r.remaining, u32 r.unsynced, u32 r.overrun]

/-- The fall of a settled level is taken (R130): link entries removed, REMOVED notice, a parked CHECK_NOW answered
with the record already out of its position, the record cleared. -/
def State.presenceFall (s : State) (p : Nat) : State :=
  if s.presenceDue p false then
    let r := s.consumableAt p
    let told := ((s.setPresence p { tget s.consumable.presence p with settled := false }).dropPosition p).askNotice
      .removed (removedValues p r)
    let answered :=
      match r.parkedCheck with
      | some parked =>
        told.replyParked parked (.done (checkNowResults p .removed (.cleared .absent r.lowMark false)))
      | none => told
    answered.updateConsumable p fun r => .cleared .absent r.lowMark false
  else s

/-- PRESENCE_FALL (R130). -/
def execPresenceFall (position : Nat) (s : State) : Host.Outcome State Fault Refusal := .next (s.presenceFall position)

/-! ## The epoch schedule (R139) -/

/-- A pending interval takes effect at a position (R139). -/
def State.takeInterval (s : State) (p : Nat) : State :=
  match (tget s.consumable.schedule p).pending with
  | some interval =>
    (s.setConsumables
      { s.consumable with
        schedule := tset s.consumable.schedule p { interval := interval, pending := none } }).updateConsumable p
      fun r =>
        if r.state == .genuine then
          { r with recheckDue := if interval = 0 then none else some (s.epoch + interval) }
        else r
  | none => s

/-- A RECHECK request; the due epoch rises when it is admitted (R139). -/
def State.requestRecheck (s : State) (p due : Nat) : State :=
  let (s', admitted) := s.requestLink p .recheck
  if admitted then
    s'.updateConsumable p fun r => { r with recheckDue := some (due + (tget s.consumable.schedule p).interval) }
  else s'

/-- A position visited at an epoch boundary: the first of the three cases of R139 that applies. -/
def State.epochVisit (s : State) (p : Nat) : State :=
  let r := s.consumableAt p
  match r.state, r.recheckDue with
  | .genuine, some due =>
    if due ≤ s.epoch then s.requestRecheck p due
    else if r.syncNeeded && !s.linkHolds p .sync then s.requestSync p
    else s
  | _, _ =>
    if r.state == .authenticating && r.authPending then s.requestAuthenticate p
    else if r.syncNeeded && !s.linkHolds p .sync then s.requestSync p
    else s

/-- An epoch boundary has been reached and not yet taken (R139). -/
def State.epochDue (s : State) : Bool := decide (s.consumable.lastEpoch < s.epoch)

/-- The positions in the order the consumable unit visits them (R139). -/
def positions : List Nat := [0, 1, 2, 3, 4]

/-- The event at an epoch boundary (R139). -/
def State.epochBoundary (s : State) : State :=
  if s.epochDue then
    let marked := s.setConsumables { s.consumable with lastEpoch := s.epoch }
    positions.foldl State.epochVisit (positions.foldl State.takeInterval marked)
  else s

/-- EPOCH_BOUNDARY (R139). -/
def execEpochBoundary (s : State) : Host.Outcome State Fault Refusal := .next s.epochBoundary

/-! ## Directives (R137, R140 to R142) -/

/-- The RECORD view of CONSUMABLE_READ (R142). -/
def State.consumableRecordView (s : State) (p : Nat) : List Val :=
  let r := s.consumableAt p
  [u8 r.state.code, opt 1 (r.rejectReason.map RejectReason.code), flag8 (tget s.consumable.presence p).settled,
   flag8 (s.syncRunning p), opt 4 r.remaining, u32 r.unsynced, u32 r.overrun, u32 r.lowMark, u16 r.partialDots,
   opt 2 (r.chip.map Chip.modelCode), opt 8 r.serial]

/-- The SCHEDULE view of CONSUMABLE_READ (R142). -/
def State.consumableScheduleView (s : State) (p : Nat) : List Val :=
  let r := s.consumableAt p
  let e := tget s.consumable.schedule p
  [u8 r.state.code, u16 e.interval, opt 2 e.pending, u8 (s.linkKinds p), flag8 r.parkedCheck.isSome,
   opt 8 r.recheckDue]

/-- CONSUMABLE_READ at the consumable unit (R142). -/
def ownConsumableRead (d : Directive) (s : State) : Verdict × State :=
  let p := d.arg consumableReadForm 0
  let view := d.arg consumableReadForm 1
  if 4 < p ∨ 1 < view then (.answer (.refuse .refusedRange .badOperand), s)
  else if view = 0 then (.answer (.done (s.consumableRecordView p)), s)
  else (.answer (.done (s.consumableScheduleView p)), s)

/-- CONSUMABLE_READ (R142). -/
def execConsumableRead (s : State) : Host.Outcome State Fault Refusal :=
  .next (s.runDirective .consumableRead ownConsumableRead)

/-- The record of an accepted CHECK_NOW (R141). -/
def Consumable.checking (r : Consumable) (parked : Parked) : Consumable :=
  match r.state with
  | .rejected | .linkFault => { r with state := .authenticating, rejectReason := none, parkedCheck := some parked }
  | .authenticating => { r with authPending := false, parkedCheck := some parked }
  | .absent | .genuine | .exhausted => { r with parkedCheck := some parked }

/-- CHECK_NOW at the consumable unit (R141). -/
def ownCheckNow (d : Directive) (s : State) : Verdict × State :=
  let p := d.arg checkNowForm 0
  let r := s.consumableAt p
  if 4 < p then (.answer (.refuse .refusedRange .badOperand), s)
  else if r.state = .absent then (.answer (.refuse .refusedState .absent), s)
  else if r.parkedCheck.isSome then (.answer (.refuse .refusedState .checkPending), s)
  else
    let (s', admitted) := s.requestLink p .authenticate
    if admitted then (.parked, s'.updateConsumable p fun r => r.checking d.park)
    else (.answer (.refuse .busy .none), s)

/-- CHECK_NOW (R141). -/
def execCheckNow (s : State) : Host.Outcome State Fault Refusal := .next (s.runDirective .checkNow ownCheckNow)

/-- SET_LOW_MARK at the consumable unit (R137). -/
def ownSetLowMark (d : Directive) (s : State) : Verdict × State :=
  let p := d.arg setLowMarkForm 0
  let mark := d.arg setLowMarkForm 1
  let r := s.consumableAt p
  if 4 < p then (.answer (.refuse .refusedRange .badOperand), s)
  else
    (.answer (.done [u32 r.lowMark, opt 4 r.remaining]),
     (s.updateConsumable p fun r => { r with lowMark := mark }).noticeLowIf p
       (decide (r.lowMark ≤ r.remaining.getD 0)))

/-- SET_LOW_MARK (R137). -/
def execSetLowMark (s : State) : Host.Outcome State Fault Refusal := .next (s.runDirective .setLowMark ownSetLowMark)

/-- SET_SCHEDULE at the consumable unit (R140). -/
def ownSetSchedule (d : Directive) (s : State) : Verdict × State :=
  let p := d.arg setScheduleForm 0
  let e := tget s.consumable.schedule p
  if 4 < p then (.answer (.refuse .refusedRange .badOperand), s)
  else
    (.answer (.done [u16 e.interval, opt 2 e.pending]),
     s.setConsumables
       { s.consumable with
         schedule := tset s.consumable.schedule p { e with pending := some (d.arg setScheduleForm 1) } })

/-- SET_SCHEDULE (R140). -/
def execSetSchedule (s : State) : Host.Outcome State Fault Refusal :=
  .next (s.runDirective .setSchedule ownSetSchedule)

end Sys2Proof.Machine
end

