-- ==== Sys2Proof/Machine/Jobs.lean ====
section
/-! DEFINITION. The job unit: counts, the completion of a close, and the job directives (spec/03), with the key store's
draw and erasure (R64, R67) and the freeing of a slot's regions (R10). -/

namespace Sys2Proof.Machine

/-! ## Keys and regions of a slot -/

/-- A new key is drawn into a slot's entry (R64). -/
def State.drawKey (s : State) (slot : Nat) : State :=
  let key : JobKey := { draw := s.cipher.draws }
  s.setCipher
    { s.cipher with
      keys := tset s.cipher.keys slot (some { key := key, check := { derivedFrom := key } })
      draws := s.cipher.draws + 1 }

/-- The key check (R65): the entry is PRESENT and its check is the one derived from its key. -/
def State.keyPasses (s : State) (slot : Nat) : Bool :=
  match (tget s.cipher.keys slot : Option KeyEntry) with
  | some e => e.check == { derivedFrom := e.key }
  | none => false

/-- A region entry with the region of a slot freed (R10). -/
def freeIfOf (slot : Nat) (e : Option Region) : Option Region :=
  match e with
  | some r => if r.slot = slot then none else some r
  | none => none

/-- Every bound region of a slot becomes FREE, and a last scan write record that names the slot becomes absent
(R10). -/
def State.freeRegions (s : State) (slot : Nat) : State :=
  s.setTransaction
    { s.transaction with
      regions := tmap (freeIfOf slot) s.transaction.regions
      lastScanWrite := if s.transaction.lastScanWrite = some slot then none else s.transaction.lastScanWrite }

/-! ## The end of a close (R55, R56, R58, R59) -/

/-- The job summary of a record (R59). -/
def JobRecord.summarise (j : JobRecord) (slot : Nat) (reason : CloseReason) (sheets sides closed : Nat) : JobSummary :=
  { slot := slot, number := j.number, kind := j.kind, account := j.account, tariff := j.tariff, limit := j.limit,
    reason := reason, orphanedSheets := sheets, orphanedSides := sides, mono := j.mono, colour := j.colour,
    abandoned := j.abandoned, jammed := j.jammed, scanPages := j.scanPages, unpaidPages := j.unpaidPages,
    releases := j.releases, scanStop := j.scanStop, opened := j.opened, closed := closed }

/-- The results of a JOB_CLOSE reply (R56, R58). -/
def closeResults (j : JobRecord) (reason : CloseReason) (sheets sides : Nat) (summarised : Bool) (time : Nat) :
    List Val :=
  [u8 reason.code, u8 sheets, u8 sides, flag8 summarised, u32 j.mono, u32 j.colour, u64 time]

/-- A CLOSING job's summary, if a location was given, is handed to the reply writer (R56 step 1). -/
def State.handSummary (s : State) (c : Closing) (m : JobSummary) : State :=
  match c.summary with
  | some location => s.handWriter (.summary location m)
  | none => s

/-- The completion of a close in the five steps of R56, with the reason and the orphaned sheets and sides of R58. -/
def State.completeClose (s : State) (slot : Nat) (reason : CloseReason) (sheets sides : Nat) : State :=
  match s.jobAt slot with
  | some j =>
    match j.phase with
    | .closing c =>
      ((((s.handSummary c (j.summarise slot reason sheets sides s.now)).setKey slot none).freeRegions slot).setJob slot
        none).replyParked c.parked (.done (closeResults j reason sheets sides c.summary.isSome s.now))
    | .active | .held | .released => s
  | none => s

/-- The drain test (R55): a CLOSING job whose sides in queue count is 0 completes its close as drained. -/
def State.drainTest (s : State) (slot : Nat) : State :=
  match s.jobAt slot with
  | some j => if j.phase.state = .closing ∧ j.inQueue = 0 then s.completeClose slot .drained 0 0 else s
  | none => s

/-! ## Naming a job (R44) -/

/-- The two tests of R44: what a directive that names this slot and number is refused with, none where it names a
job. -/
def State.nameRefusal (s : State) (slot number : Nat) : Option Answer :=
  if 31 < slot ∨ number = 0 then some (.refuse .refusedRange .badOperand)
  else if s.jobNumber slot ≠ some number then some (.refuse .refusedState .noJob)
  else none

/-- A job directive at the job unit: the tests of R44, then what the directive makes of the named record. -/
def withNamedJob (slot number : Nat) (s : State) (owner : JobRecord → Verdict × State) : Verdict × State :=
  match s.nameRefusal slot number, s.jobAt slot with
  | some a, _ => (.answer a, s)
  | none, some j => owner j
  | none, none => (.answer (.refuse .refusedState .noJob), s)

/-! ## Job directives -/

/-- The record JOB_OPEN makes (R45). -/
def JobRecord.fresh (number : Nat) (kind : JobKind) (account tariff limit now : Nat) : JobRecord :=
  { number := number, kind := kind, phase := .active, account := account, tariff := tariff, limit := limit,
    scanStop := false, mono := 0, colour := 0, inQueue := 0, abandoned := 0, jammed := 0, scanPages := 0,
    unpaidPages := 0, releases := 0, opened := now }

/-- The lowest-numbered FREE slot (R45). -/
def State.lowestFreeSlot (s : State) : Option Nat := (tlist s.job.slots).findIdx? Option.isNone

/-- A slot that is not FREE holds the job number (R45). -/
def State.numberInUse (s : State) (number : Nat) : Bool :=
  (tlist s.job.slots).any fun j =>
    match j with
    | some r => r.number == number
    | none => false

/-- JOB_OPEN at the job unit (R45, R64). -/
def ownJobOpen (d : Directive) (s : State) : Verdict × State :=
  let number := d.arg jobOpenForm 0
  let account := d.arg jobOpenForm 2
  let tariff := d.arg jobOpenForm 3
  match ofCode? JobKind.all (d.arg jobOpenForm 1) with
  | none => (.answer (.refuse .refusedRange .badOperand), s)
  | some kind =>
    if number = 0 ∨ 2047 < account then (.answer (.refuse .refusedRange .badOperand), s)
    else if 7 < tariff then (.answer (.refuse .refusedRange .tariffClass), s)
    else if s.numberInUse number then (.answer (.refuse .duplicate .jobNumber), s)
    else if (s.accountAt account).state ≠ .active then (.answer (.refuse .refusedState .account), s)
    else
      match s.lowestFreeSlot with
      | none => (.answer (.refuse .noRoom .tableFull), s)
      | some slot =>
        (.answer (.done [u8 slot, u64 s.now]),
         (s.setJob slot (some (.fresh number kind account tariff (d.arg jobOpenForm 4) s.now))).drawKey slot)

/-- JOB_OPEN (R45). -/
def execJobOpen (s : State) : Host.Outcome State Fault Refusal := .next (s.runDirective .jobOpen ownJobOpen)

/-- The open side belongs to a job slot (R46, R85). -/
def State.openSideOf (s : State) (slot : Nat) : Bool :=
  match s.parser.openSide with
  | some o => o.slot == slot
  | none => false

/-- The kinds that reach HELD and RELEASED (R42). -/
def JobKind.holds : JobKind → Bool
  | .heldPrint | .scanBox => true
  | .copy | .print | .scanSend => false

/-- JOB_HOLD at the job unit (R46). -/
def ownJobHold (d : Directive) (s : State) : Verdict × State :=
  let slot := d.arg jobHoldForm 0
  withNamedJob slot (d.arg jobHoldForm 1) s fun j =>
    if j.phase.state = .held ∨ j.phase.state = .closing then (.answer (.refuse .refusedState .jobState), s)
    else if !j.kind.holds then (.answer (.refuse .refusedState .kind), s)
    else if s.openSideOf slot then (.answer (.refuse .refusedState .openSide), s)
    else (.answer (.done []), s.updateJob slot fun j => { j with phase := .held })

/-- JOB_HOLD (R46). -/
def execJobHold (s : State) : Host.Outcome State Fault Refusal := .next (s.runDirective .jobHold ownJobHold)

/-- JOB_RELEASE at the job unit (R47). -/
def ownJobRelease (d : Directive) (s : State) : Verdict × State :=
  let slot := d.arg jobReleaseForm 0
  let account := d.arg jobReleaseForm 2
  withNamedJob slot (d.arg jobReleaseForm 1) s fun j =>
    if 2047 < account then (.answer (.refuse .refusedRange .badOperand), s)
    else if j.phase.state ≠ .held then (.answer (.refuse .refusedState .jobState), s)
    else if account ≠ j.account then (.answer (.refuse .refusedState .accountMismatch), s)
    else
      (.answer (.done [u8 j.kind.code, u16 (satAdd 65535 j.releases 1)]),
       s.updateJob slot fun j => { j with phase := .released, releases := satAdd 65535 j.releases 1 })

/-- JOB_RELEASE (R47). -/
def execJobRelease (s : State) : Host.Outcome State Fault Refusal := .next (s.runDirective .jobRelease ownJobRelease)

/-- The time from the acceptance of a close to its deadline (R53). -/
def closeTime : Nat := 30000000

/-- The tests 3 to 7 of JOB_CLOSE (R53); tests 3, 4, 6 and 7 are made only where a summary location is given. -/
def State.closeRefusal (s : State) (j : JobRecord) (summary : Option Nat) : Option Answer :=
  match summary with
  | some location =>
    if location % 64 ≠ 0 then some (.refuse .refusedRange .badOperand)
    else if addressEnd < location + 64 then some (.refuse .refusedRange .badRange)
    else if j.phase.state = .closing then some (.refuse .refusedState .jobState)
    else if s.overlapsRegion location 64 then some (.refuse .refusedRange .overlapRegion)
    else if s.overlapsOwned location 64 then some (.refuse .refusedRange .overlapOwned)
    else none
  | none => if j.phase.state = .closing then some (.refuse .refusedState .jobState) else none

/-- The summary location's 64 bytes join the owned-area list, if one is given (R53). -/
def State.ownSummary (s : State) (summary : Option Nat) : State :=
  match summary with
  | some location => s.own location 64 .closeSummary
  | none => s

/-- JOB_CLOSE at the job unit (R53): on acceptance the job is CLOSING, and the drain test is made. -/
def ownJobClose (d : Directive) (s : State) : Verdict × State :=
  let slot := d.arg jobCloseForm 0
  let operand := d.arg jobCloseForm 2
  let summary := if operand = absentLocation then none else some operand
  withNamedJob slot (d.arg jobCloseForm 1) s fun j =>
    match s.closeRefusal j summary with
    | some a => (.answer a, s)
    | none =>
      let closing : Closing := { summary := summary, deadline := s.now + closeTime, parked := d.park }
      (.parked,
       ((s.updateJob slot fun j => { j with phase := .closing closing }).ownSummary summary).drainTest slot)

/-- JOB_CLOSE (R53). -/
def execJobClose (s : State) : Host.Outcome State Fault Refusal := .next (s.runDirective .jobClose ownJobClose)

/-- Whether a summary location was given, and the close deadline: absent outside CLOSING (R48). -/
def JobPhase.closeView : JobPhase → Option Bool × Option Nat
  | .closing c => (some c.summary.isSome, some c.deadline)
  | .active | .held | .released => (none, none)

/-- The RECORD view of JOB_READ (R48). -/
def State.jobRecordView (s : State) (slot : Nat) (j : JobRecord) : List Val :=
  [u16 j.number, u8 j.kind.code, u8 j.phase.state.code, u16 j.account, u8 j.tariff, flag8 j.scanStop, u16 j.limit,
   u8 (s.regionsOfSlot slot), opt 1 (j.phase.closeView.1.map Bool.toNat), u64 j.opened, opt 8 j.phase.closeView.2]

/-- The COUNTS view of JOB_READ (R48). -/
def jobCountsView (j : JobRecord) : List Val :=
  [u32 j.mono, u32 j.colour, u8 j.inQueue, u32 j.abandoned, u32 j.jammed, u32 j.scanPages, u32 j.unpaidPages,
   u16 j.releases]

/-- JOB_READ at the job unit (R48; log 19 for a FREE slot). -/
def ownJobRead (d : Directive) (s : State) : Verdict × State :=
  let slot := d.arg jobReadForm 0
  let view := d.arg jobReadForm 1
  if 31 < slot ∨ 1 < view then (.answer (.refuse .refusedRange .badOperand), s)
  else
    match s.jobAt slot with
    | none => (.answer (.done [u8 JobState.free.code]), s)
    | some j =>
      if view = 0 then (.answer (.done (s.jobRecordView slot j)), s)
      else (.answer (.done (jobCountsView j)), s)

/-- JOB_READ (R48). -/
def execJobRead (s : State) : Host.Outcome State Fault Refusal := .next (s.runDirective .jobRead ownJobRead)

end Sys2Proof.Machine
end

