-- ==== Sys2Proof/Machine/Meter.lean ====
section
/-! DEFINITION. The meter unit: working and banked totals, banks, PWR_WARN, snapshots, restore and METER_READ
(spec/10). -/

namespace Sys2Proof.Machine

/-! ## Working totals (R156) -/

/-- A 64-bit total raised by one; it stops at its top (R156). -/
def raiseTotal (n : Nat) : Nat := satAdd (2 ^ 64 - 1) n 1

/-- The working totals changed. -/
def State.updateWorking (s : State) (f : Totals → Totals) : State :=
  s.setMeter { s.meter with working := f s.meter.working }

/-- A committed side counted in the working totals (R100, R156). -/
def State.countSide (s : State) (colour : Bool) : State :=
  s.updateWorking fun t =>
    if colour then { t with colour := raiseTotal t.colour } else { t with mono := raiseTotal t.mono }

/-- A scan page counted in the working totals (R106, R156). -/
def State.countScan (s : State) : State := s.updateWorking fun t => { t with scans := raiseTotal t.scans }

/-! ## Banks (R157, R158) -/

/-- A bank begins (R158). -/
def State.beginBank (s : State) (serial : Option SerialTag) : State :=
  s.setMeter
    { s.meter with
      bank := some { captured := s.meter.working, serial := serial, began := s.now }
      bankAgain := false
      pending := none
      sinceBank := 0 }

/-- A bank trigger (R157): begins a bank at once, or sets BANK_AGAIN while one runs. -/
def State.triggerBank (s : State) (serial : Option SerialTag) : State :=
  match s.meter.bank with
  | none => s.beginBank serial
  | some _ => s.setMeter { s.meter with bankAgain := true, pending := serial.or s.meter.pending }

/-- A sheet with at least one committed side counted (R101, R156, R157): reaching 256 sheets since bank triggers a
bank. -/
def State.countSheet (s : State) : State :=
  let counted := (s.updateWorking fun t => { t with sheets := raiseTotal t.sheets })
  let raised := counted.setMeter { counted.meter with sinceBank := satAdd 65535 counted.meter.sinceBank 1 }
  if s.meter.sinceBank + 1 = 256 then raised.triggerBank none else raised

/-- The parked SNAPSHOT is answered DONE when the bank that carries its serial has completed (R158, R162). -/
def State.snapshotBanked (s : State) : State :=
  match s.meter.work with
  | .banking base serial parked =>
    ((s.setWork .none).disown base .snapshotArea).replyParked parked (.done [u32 serial])
  | .none | .composing _ | .restoring _ _ _ => s

/-- The meter cells after a bank (R155, R158). -/
def MeterCells.afterBank (c : MeterCells) (b : Bank) : MeterCells :=
  match b.serial with
  | some t => { c with banked := b.captured, serial := t.serial, tag := t.tag }
  | none => { c with banked := b.captured }

/-- A bank's completion (R158). -/
def State.bankComplete (s : State) : State :=
  match s.meter.bank with
  | none => s
  | some b =>
    let written := s.setMeter { s.meter with cells := s.meter.cells.afterBank b, bank := none }
    let next := if s.meter.bankAgain then written.beginBank s.meter.pending else written
    if b.serial.isSome then next.snapshotBanked else next

/-- BANK_COMPLETE (R158). -/
def execBankComplete (s : State) : Host.Outcome State Fault Refusal := .next s.bankComplete

/-- The POWER_WARNING notice, with what the assertion found (R159). -/
def State.powerWarning (s : State) : State :=
  s.askNotice .powerWarning
    [u8 s.meter.bank.isSome.toNat, flag8 s.meter.bankAgain, u16 s.meter.sinceBank, u64 s.meter.working.sheets]

/-- An assertion of PWR_WARN (R159); the line remaining asserted does nothing further. -/
def State.pwrWarn (s : State) : State :=
  if s.meter.pwrWarn then s
  else
    let told := s.powerWarning
    (told.setMeter { told.meter with pwrWarn := true }).triggerBank none

/-- PWR_WARN (R159). -/
def execPwrWarn (s : State) : Host.Outcome State Fault Refusal := .next s.pwrWarn

/-- PWR_WARN_RELEASE (R159). -/
def execPwrWarnRelease (s : State) : Host.Outcome State Fault Refusal :=
  .next (s.setMeter { s.meter with pwrWarn := false })

/-! ## Snapshots (R160 to R162) -/

/-- The first tests SNAPSHOT and RESTORE share on their area (R160, R163). -/
def State.areaRefusal (s : State) (base : Nat) : Option Answer :=
  if base % 64 ≠ 0 then some (.refuse .refusedRange .badOperand)
  else if addressEnd < base + snapshotSize then some (.refuse .refusedRange .badRange)
  else if s.meter.work ≠ .none then some (.refuse .busy .meterBusy)
  else none

/-- The overlap tests of R32 on an area a directive adds. -/
def State.overlapRefusal (s : State) (base length : Nat) : Option Answer :=
  if s.overlapsRegion base length then some (.refuse .refusedRange .overlapRegion)
  else if s.overlapsOwned base length then some (.refuse .refusedRange .overlapOwned)
  else none

/-- SNAPSHOT at the meter unit (R160). -/
def ownSnapshot (d : Directive) (s : State) : Verdict × State :=
  let base := d.arg areaForm 0
  let serialEnd := if s.meter.cells.serial = top32 then some (Answer.refuse .refusedRange .serialEnd) else none
  match (s.areaRefusal base).or (serialEnd.or (s.overlapRefusal base snapshotSize)) with
  | some a => (.answer a, s)
  | none =>
    (.parked,
     (s.own base snapshotSize .snapshotArea).setWork
       (.composing
         { base := base, serial := s.meter.cells.serial + 1, parked := d.park, accepted := s.now,
           totals := s.meter.working, next := .header, written := [] }))

/-- SNAPSHOT (R160). -/
def execSnapshot (s : State) : Host.Outcome State Fault Refusal := .next (s.runDirective .snapshot ownSnapshot)

/-- The part after an account image (R161). -/
def nextImage (i : Nat) : SnapshotPart := if i + 1 < 2048 then .image (i + 1) else .trailer

/-- The 64 bytes of the next part of a snapshot, its offset in the area and the part after it; none at the trailer,
whose write is the end of composition (R161, R162; log 24). -/
def State.snapshotPart (s : State) (c : Composing) : Option (List Byte × Nat × SnapshotPart) :=
  match c.next with
  | .header => some (snapshotHeader c.serial c.accepted c.totals, 0, .tariffBlock)
  | .tariffBlock => some (tariffBlock (tlist s.charging.tariffs), 64, .image 0)
  | .image i => some ((s.accountAt i).image s.account.period, 128 + 64 * i, nextImage i)
  | .trailer => none

/-- The meter unit writes the next part of a composing snapshot (R161). -/
def State.snapshotImageCopy (s : State) : State :=
  match s.meter.work with
  | .composing c =>
    match s.snapshotPart c with
    | some (bytes, offset, next) =>
      (s.store (c.base + offset) bytes).setWork (.composing { c with next := next, written := c.written ++ bytes })
    | none => s
  | .none | .banking _ _ _ | .restoring _ _ _ => s

/-- SNAPSHOT_IMAGE_COPY (R161). -/
def execSnapshotImageCopy (s : State) : Host.Outcome State Fault Refusal := .next s.snapshotImageCopy

/-- The offset of the trailer in the area (13.7). -/
def trailerOffset : Nat := 131200

/-- The end of composition (R161, R162): the trailer with its tag over every byte the meter unit wrote, then a bank
that carries the serial and the tag. -/
def State.compositionEnd (s : State) : State :=
  match s.meter.work with
  | .composing c =>
    if c.next = .trailer then
      let body := trailerBody c.serial s.account.period s.now
      let tag := Config.snapshotTag s.meter.cells.directiveKey (c.written ++ body)
      ((s.store (c.base + trailerOffset) (body ++ bytesOfBeat tag)).setWork (.banking c.base c.serial c.parked)).triggerBank
        (some { serial := c.serial, tag := tag })
    else s
  | .none | .banking _ _ _ | .restoring _ _ _ => s

/-- SNAPSHOT_COMPOSITION_END (R162). -/
def execSnapshotCompositionEnd (s : State) : Host.Outcome State Fault Refusal := .next s.compositionEnd

/-! ## Restore (R163, R164) -/

/-- RESTORE at the meter unit (R163). -/
def ownRestore (d : Directive) (s : State) : Verdict × State :=
  let base := d.arg areaForm 0
  let pristine := if s.account.pristine then none else some (Answer.refuse .refusedState .notPristine)
  let jobs := if s.allSlotsFree then none else some (Answer.refuse .refusedState .jobsOpen)
  match (s.areaRefusal base).or (pristine.or (jobs.or (s.overlapRefusal base snapshotSize))) with
  | some a => (.answer a, s)
  | none => (.parked, (s.own base snapshotSize .restoreArea).setWork (.restoring base d.park []))

/-- RESTORE (R163). -/
def execRestore (s : State) : Host.Outcome State Fault Refusal := .next (s.runDirective .restore ownRestore)

/-- One read of the restore area, in address order, is kept (R163). -/
def State.restoreAreaRead (s : State) (beats : Nat) : State :=
  match s.meter.work with
  | .restoring base parked got =>
    s.setWork (.restoring base parked
      (got ++ Memory.readBytes s.memory (base + got.length) (min (16 * beats) (snapshotSize - got.length))))
  | .none | .composing _ | .banking _ _ _ => s

/-- RESTORE_AREA_READ (R163). -/
def execRestoreAreaRead (beats : Nat) (s : State) : Host.Outcome State Fault Refusal := .next (s.restoreAreaRead beats)

/-- The account an image describes, with reserved as stored; none where its state or mode is undefined (R164,
13.7). -/
def accountOfImage (b : List Byte) : Option Account :=
  match ofCode? AccountState.all (fieldAt b 0 1), ofCode? AccountMode.all (fieldAt b 1 1) with
  | some state, some mode =>
    some
      { state := state, mode := mode, colour := (fieldAt b 2 1).testBit 0, creditLimit := fieldAt b 4 4,
        balance := signed32 (fieldAt b 8 4), reserved := fieldAt b 12 4, periodMono := fieldAt b 16 4,
        periodColour := fieldAt b 20 4, periodScan := fieldAt b 24 4, lifeMono := fieldAt b 28 4,
        lifeColour := fieldAt b 32 4, lifeScan := fieldAt b 36 4, lifeJammed := fieldAt b 40 4,
        unpaid := fieldAt b 44 4, overdraft := fieldAt b 48 4, generation := BitVec.ofNat 32 (fieldAt b 52 4) }
  | _, _ => none

/-- The period number an image was copied in (13.7). -/
def periodOfImage (b : List Byte) : Nat := fieldAt b 56 4

/-- Account image `i` of an area (13.7). -/
def imageAt (area : List Byte) (i : Nat) : List Byte := (area.drop (128 + 64 * i)).take 64

/-- The content tests of R164 on one account. -/
def Account.contentOk (a : Account) : Bool :=
  decide (-1000000 ≤ a.balance) && decide (a.balance ≤ 2000000000) && decide (a.creditLimit ≤ 1000000) &&
    atOrAbove a.floor a.balance

/-- Every field of an account is zero but its generation: the image of an account not in use, whose period number
and bytes of no field are not looked at (R112, R164, R173). -/
def Account.isBlank (a : Account) : Bool := a == .unused a.generation

/-- The content tests of R164 on one image. -/
def imageOk (b : List Byte) : Bool :=
  match accountOfImage b with
  | some a => a.contentOk && (a.state != .unused || a.isBlank)
  | none => false

/-- Tariff class `c` of an area (13.7). -/
def tariffOfArea (area : List Byte) (c : Nat) : Tariff :=
  { mono := fieldAt area (64 + 6 * c) 2, colour := fieldAt area (64 + 6 * c + 2) 2,
    scan := fieldAt area (64 + 6 * c + 4) 2 }

/-- The trailer's serial (13.7). -/
def trailerSerial (area : List Byte) : Nat := fieldAt area (trailerOffset + 8) 4

/-- The trailer's period number (13.7). -/
def trailerPeriod (area : List Byte) : Nat := fieldAt area (trailerOffset + 12) 4

/-- The bytes of the area before the trailer's tag (13.7). -/
def taggedBytes (area : List Byte) : List Byte := area.take (trailerOffset + 48)

/-- The trailer's tag (13.7). -/
def trailerTag (area : List Byte) : Beat := beatOfBytes ((area.drop (trailerOffset + 48)).take 16)

/-- Test 2 of R164. -/
def contentOk (area : List Byte) : Bool :=
  decide (area.take 8 = snapshotMark) && decide ((area.drop trailerOffset).take 8 = trailerMark) &&
    decide (fieldAt area 8 4 = trailerSerial area) && (List.range 2048).all (fun i => imageOk (imageAt area i)) &&
    (List.range 8).all (fun c => decide ((tariffOfArea area c).mono ≤ (tariffOfArea area c).colour))

/-- The tests of R164 in order: what the restore is answered with where one fails. -/
def State.restoreRefusal (s : State) (area : List Byte) : Option Answer :=
  if Config.snapshotTag s.meter.cells.directiveKey (taggedBytes area) ≠ trailerTag area then
    some (.refuse .refusedRange .badTag)
  else if !contentOk area then some (.refuse .refusedRange .badContent)
  else if ¬(trailerSerial area = s.meter.cells.serial ∧ trailerTag area = s.meter.cells.tag) then
    some (.refuse .refusedState .oldSerial)
  else if !s.account.pristine then some (.refuse .refusedState .notPristine)
  else none

/-- The record an image loads (R164): reserved 0, and period counters 0 where a PERIOD_CLOSE came after the copy. -/
def loadedAccount (area : List Byte) (i : Nat) : Account :=
  let a := (accountOfImage (imageAt area i)).getD (.unused 0)
  let same := decide (periodOfImage (imageAt area i) = trailerPeriod area)
  { a with
    reserved := 0
    periodMono := if same then a.periodMono else 0
    periodColour := if same then a.periodColour else 0
    periodScan := if same then a.periodScan else 0 }

/-- The load (R164): account table, period number, tariff table, pristine flag. -/
def State.loadSnapshot (s : State) (area : List Byte) : State :=
  (s.setAccounts
    { accounts := tfill 2048 (loadedAccount area), period := BitVec.ofNat 32 (trailerPeriod area),
      pristine := false }).setCharging { s.charging with tariffs := tfill 8 (tariffOfArea area) }

/-- The results of a RESTORE that loaded (R164): serial, accounts loaded that are not UNUSED, period number. -/
def State.restoreResults (s : State) (area : List Byte) : List Val :=
  [u32 (trailerSerial area), u16 (s.sumAccounts fun a => (a.state != .unused).toNat), u32 s.account.period.toNat]

/-- The work in progress ends: its area leaves the owned-area list and its reply is handed over. -/
def State.endWork (s : State) (base : Nat) (source : AreaSource) (parked : Parked) (a : Answer) : State :=
  ((s.setWork .none).disown base source).replyParked parked a

/-- The whole restore area has been read (R164). -/
def State.restoreReadEnd (s : State) : State :=
  match s.meter.work with
  | .restoring base parked area =>
    if area.length = snapshotSize then
      match s.restoreRefusal area with
      | some a => s.endWork base .restoreArea parked a
      | none =>
        (s.loadSnapshot area).endWork base .restoreArea parked (.done ((s.loadSnapshot area).restoreResults area))
    else s
  | .none | .composing _ | .banking _ _ _ => s

/-- RESTORE_READ_END (R164). -/
def execRestoreReadEnd (s : State) : Host.Outcome State Fault Refusal := .next s.restoreReadEnd

/-! ## METER_READ (R165) -/

/-- Four totals as METER_READ gives them (R165). -/
def totalsView (t : Totals) : List Val := [u64 t.mono, u64 t.colour, u64 t.sheets, u64 t.scans]

/-- The index of the next account image while a snapshot composes (R165; log 32). -/
def MeterWork.nextImage : MeterWork → Option Nat
  | .composing c =>
    match c.next with
    | .header | .tariffBlock => Option.some 0
    | .image i => Option.some i
    | .trailer => Option.none
  | .none | .banking _ _ _ | .restoring _ _ _ => Option.none

/-- Whether the running bank carries a serial (R165). -/
def State.bankHasSerial (s : State) : Bool :=
  match s.meter.bank with
  | some b => b.serial.isSome
  | none => false

/-- The STATE view of METER_READ (R165). -/
def State.meterStateView (s : State) : List Val :=
  [u32 s.meter.cells.serial, u8 s.meter.bank.isSome.toNat, flag8 s.bankHasSerial, flag8 s.meter.bankAgain,
   u16 s.meter.sinceBank, u8 s.meter.work.code, opt 4 (s.meter.pending.map SerialTag.serial),
   opt 2 s.meter.work.nextImage]

/-- METER_READ at the meter unit (R165). -/
def ownMeterRead (d : Directive) (s : State) : Verdict × State :=
  match d.arg meterReadForm 0 with
  | 0 => (.answer (.done (totalsView s.meter.working)), s)
  | 1 => (.answer (.done (totalsView s.meter.cells.banked)), s)
  | 2 => (.answer (.done s.meterStateView), s)
  | _ => (.answer (.refuse .refusedRange .badOperand), s)

/-- METER_READ (R165). -/
def execMeterRead (s : State) : Host.Outcome State Fault Refusal := .next (s.runDirective .meterRead ownMeterRead)

/-! ## Entry to lockdown (R166) -/

/-- A snapshot composing or waiting for its serial bank, and a restore reading, are answered LOCKED; a serial in the
running bank goes on (R166). -/
def State.meterEntry (s : State) : State :=
  match s.meter.work with
  | .none => s
  | .composing c => s.endWork c.base .snapshotArea c.parked .locked
  | .banking base _ parked =>
    if s.bankHasSerial then s
    else (s.setMeter { s.meter with pending := none }).endWork base .snapshotArea parked .locked
  | .restoring base parked _ => s.endWork base .restoreArea parked .locked

end Sys2Proof.Machine
end

