-- ==== Sys2Proof/Machine/Charging.lean ====
section
/-! DEFINITION. The charging unit: costs, the sheet queue, commits and drops, scan charging, and the charge directives
(spec/06). -/

namespace Sys2Proof.Machine

/-! ## Costs (R96, R100) -/

/-- The sum of a side's C, M and Y dot-levels. -/
def Dots.colour (d : Dots) : Nat := d.c + d.m + d.y

/-- No dot-levels. -/
def Dots.zero : Dots := { k := 0, c := 0, m := 0, y := 0 }

/-- Whether a side is committed as colour (R100 step 1). -/
def SideRecord.isColour (r : SideRecord) : Bool := decide (0 < r.dots.colour)

/-- The charge of a committed side (R100 step 1). -/
def SideRecord.charge (r : SideRecord) : Nat := if r.isColour then r.colourCost else r.monoCost

/-- The costs a side captures: those of the job's class as the table stands, or 0 for an UNMETERED account (R96). -/
def State.capturedCosts (s : State) (j : JobRecord) : Nat × Nat :=
  if (s.accountAt j.account).mode = .unmetered then (0, 0)
  else ((s.tariff j.tariff).mono, (s.tariff j.tariff).colour)

/-- A side's reservation: its captured colour cost if its mask holds C, M or Y, its captured mono cost otherwise
(R96). -/
def State.reservationOf (s : State) (j : JobRecord) (mask : PlaneMask) : Nat :=
  if hasColour mask then (s.capturedCosts j).2 else (s.capturedCosts j).1

/-- The sides of a sheet, front then back. -/
def Sheet.sides (h : Sheet) : List SideRecord := h.front :: h.back.toList

/-- The sum of the reservations of a sheet's sides (R103). -/
def Sheet.reserved (h : Sheet) : Nat := (h.sides.map SideRecord.reservation).sum

/-! ## The sheet queue (R94 to R98) -/

/-- The sheet with a name, if it is in the queue. -/
def State.sheetNamed (s : State) (name : Nat) : Option Sheet := s.charging.sheets.find? fun h => h.name == name

/-- The sheet with a name changed. -/
def State.updateSheet (s : State) (name : Nat) (f : Sheet → Sheet) : State :=
  s.setSheets (s.charging.sheets.map fun h => if h.name = name then f h else h)

/-- A sheet in AWAITING_BACK whose owner is a job slot (R97). -/
def Sheet.awaits (h : Sheet) (slot : Nat) : Bool := h.state == .awaitingBack && h.owner == .job slot

/-- The record of a side that starts (R96). -/
def State.newSide (s : State) (j : JobRecord) (kind : SideKind) (mask : PlaneMask) : SideRecord :=
  { kind := kind, mask := mask, monoCost := (s.capturedCosts j).1, colourCost := (s.capturedCosts j).2,
    reservation := s.reservationOf j mask, dots := .zero, complete := false }

/-- A SIMPLEX or FRONT side's new sheet becomes the newest (R89, R94, R96). -/
def State.addSheet (s : State) (slot account : Nat) (side : SideRecord) : State :=
  s.setCharging
    { s.charging with
      sheets := s.charging.sheets ++
        [{ name := s.charging.nextSheet, owner := .job slot, account := account, state := .fillingFront,
           front := side, back := none }]
      nextSheet := s.charging.nextSheet + 1 }

/-- A BACK side attaches to a sheet (R89, R97). -/
def State.attachBack (s : State) (name : Nat) (side : SideRecord) : State :=
  s.updateSheet name fun h => { h with state := .fillingBack, back := some side }

/-- A completed side stored in its sheet, which advances (R91, R98). -/
def Sheet.completeSide (kind : SideKind) (dots : Dots) (h : Sheet) : Sheet :=
  match kind with
  | .simplex => { h with state := .complete, front := { h.front with dots := dots, complete := true } }
  | .front => { h with state := .awaitingBack, front := { h.front with dots := dots, complete := true } }
  | .back =>
    { h with state := .complete, back := h.back.map fun b => { b with dots := dots, complete := true } }

/-- The sheet of an abandoned side: removed for a SIMPLEX or FRONT side, back to AWAITING_BACK for a BACK side (R92
step 3). -/
def State.abandonSheet (s : State) (name : Nat) (kind : SideKind) : State :=
  match kind with
  | .simplex | .front => s.setSheets (s.charging.sheets.filter fun h => h.name != name)
  | .back => s.updateSheet name fun h => { h with state := .awaitingBack, back := none }

/-- Every sheet of a job slot becomes ORPHAN in its place (R57, R105). -/
def State.orphanSheetsOf (s : State) (slot : Nat) : State :=
  s.setSheets (s.charging.sheets.map fun h => if h.owner = .job slot then { h with owner := .orphan } else h)

/-- Every sheet becomes ORPHAN (R105, R111). -/
def State.orphanAllSheets (s : State) : State :=
  s.setSheets (s.charging.sheets.map fun h => { h with owner := .orphan })

/-! ## Commits and drops (R100, R101, R103) -/

/-- The job's share of a committed side (R49, R100 step 3). -/
def State.commitJob (s : State) (owner : Owner) (colour : Bool) : State :=
  match owner with
  | .orphan => s
  | .job slot =>
    s.updateJob slot fun j =>
      { j with
        inQueue := j.inQueue - 1
        mono := if colour then j.mono else satAdd top32 j.mono 1
        colour := if colour then satAdd top32 j.colour 1 else j.colour }

/-- One side committed (R100). -/
def State.commitSide (h : Sheet) (s : State) (r : SideRecord) : State :=
  ((s.commitAccount h.account r.isColour r.charge r.reservation).commitJob h.owner r.isColour).countSide r.isColour

/-- The drain test of a sheet's owner (R101, R104). -/
def State.drainOwner (s : State) (owner : Owner) : State :=
  match owner with
  | .job slot => s.drainTest slot
  | .orphan => s

/-- The oldest sheet's sides committed and the sheet gone from the queue (R99 to R101). -/
def State.deliverSheet (s : State) (h : Sheet) (sides : List SideRecord) : State :=
  let committed := sides.foldl (State.commitSide h) s
  ((committed.setSheets committed.charging.sheets.tail).countSheet).drainOwner h.owner

/-- The job's share of a dropped sheet (R49, R103). -/
def State.dropJob (s : State) (owner : Owner) (sides : Nat) : State :=
  match owner with
  | .orphan => s
  | .job slot =>
    s.updateJob slot fun j => { j with inQueue := j.inQueue - sides, jammed := satAdd top32 j.jammed 1 }

/-- One sheet dropped by a jam (R103 step 2, R104). -/
def State.dropSheet (s : State) (h : Sheet) : State :=
  ((s.dropAccount h.account h.reserved).dropJob h.owner h.sides.length).drainOwner h.owner

/-! ## Scan charging (R106, R107) -/

/-- The job's share of a charged scan page (R49, R52, R107). -/
def JobRecord.countScan (paid : Bool) (j : JobRecord) : JobRecord :=
  { j with
    scanPages := satAdd top32 j.scanPages 1
    unpaidPages := if paid then j.unpaidPages else satAdd top32 j.unpaidPages 1
    scanStop := j.scanStop || !paid }

/-- An attributed scan page (R106, R107). -/
def State.chargeScan (s : State) (slot : Nat) (j : JobRecord) : State :=
  let cost := (s.tariff j.tariff).scan
  let found := s.accountAt j.account
  let (decided, paid) := s.decideScan j.account cost
  let counted := (decided.updateJob slot (JobRecord.countScan paid)).countScan
  if paid then counted
  else
    counted.askNotice .scanUnpaid
      [u8 slot, u16 j.number, u16 j.account, u16 cost, i32 found.balance, u32 found.reserved]

/-- The last scan write record is taken and becomes absent (R16, R106). -/
def State.takeScanRecord (s : State) : State := s.setTransaction { s.transaction with lastScanWrite := none }

/-- An SCN_PAGE pulse (R106). -/
def State.scnPage (s : State) : State :=
  let job := s.transaction.lastScanWrite.bind fun slot => (s.jobAt slot).map fun j => (slot, j)
  match job with
  | some (slot, j) => s.takeScanRecord.chargeScan slot j
  | none => s.takeScanRecord.countScan.askNotice .scanUnattributed []

/-- SCN_PAGE (R106). -/
def execScnPage (s : State) : Host.Outcome State Fault Refusal := .next s.scnPage

/-! ## Directives (R109, R110) -/

/-- SET_TARIFF at the charging unit (R109). -/
def ownSetTariff (d : Directive) (s : State) : Verdict × State :=
  let c := d.arg setTariffForm 0
  let new : Tariff :=
    { mono := d.arg setTariffForm 1, colour := d.arg setTariffForm 2, scan := d.arg setTariffForm 3 }
  let old := s.tariff c
  if 7 < c then (.answer (.refuse .refusedRange .tariffClass), s)
  else if new.colour < new.mono then (.answer (.refuse .refusedRange .colourBelowMono), s)
  else
    (.answer (.done [u8 c, u16 old.mono, u16 old.colour, u16 old.scan]),
     s.setCharging { s.charging with tariffs := tset s.charging.tariffs c new })

/-- SET_TARIFF (R109). -/
def execSetTariff (s : State) : Host.Outcome State Fault Refusal := .next (s.runDirective .setTariff ownSetTariff)

/-- A side record as SHEETS_READ gives it; every value is absent where there is no record (R110; log 19). -/
def sideView (r : Option SideRecord) : List Val :=
  [opt 1 (r.map fun r => r.kind.code), opt 1 (r.map fun r => r.mask.toNat), opt 2 (r.map SideRecord.reservation),
   opt 1 (r.map fun r => r.complete.toNat),
   opt 1 (r.bind fun r => if r.complete then some r.isColour.toNat else none)]

/-- The job number held in a sheet's owning slot, absent for ORPHAN (R99, R110). -/
def State.ownerNumber (s : State) : Owner → Option Nat
  | .job slot => s.jobNumber slot
  | .orphan => none

/-- The position in the queue of the open side's sheet, absent where no side is open (R110). -/
def State.openPosition (s : State) : Option Nat :=
  s.parser.openSide.bind fun o => s.charging.sheets.findIdx? fun h => h.name == o.sheet

/-- The results of SHEETS_READ (R110). -/
def State.sheetsView (s : State) (position : Nat) : List Val :=
  let h := s.charging.sheets[position]?
  [u8 s.charging.sheets.length, flag8 s.parser.openSide.isSome, opt 1 s.openPosition,
   opt 1 (h.map fun h => h.owner.code), opt 2 (h.bind fun h => s.ownerNumber h.owner), opt 2 (h.map Sheet.account),
   opt 1 (h.map fun h => h.state.code)] ++ sideView (h.map Sheet.front) ++ sideView (h.bind Sheet.back)

/-- SHEETS_READ at the charging unit (R110). -/
def ownSheetsRead (d : Directive) (s : State) : Verdict × State :=
  if 7 < d.arg sheetsReadForm 0 then (.answer (.refuse .refusedRange .badOperand), s)
  else (.answer (.done (s.sheetsView (d.arg sheetsReadForm 0))), s)

/-- SHEETS_READ (R110). -/
def execSheetsRead (s : State) : Host.Outcome State Fault Refusal := .next (s.runDirective .sheetsRead ownSheetsRead)

end Sys2Proof.Machine
end

