-- ==== Sys2Proof/Machine/Grants.lean ====
section
/-! DEFINITION. The grant table (R69 to R72), the treatment outside all regions (R11) and the treatment in LOCKDOWN
(R20). -/

namespace Sys2Proof.Machine

/-- R70: whether a read by a role is answered DECIPHERED for a job's kind and state and a region's kind. -/
def readsDeciphered (job : JobKind) (state : JobState) (kind : RegionKind) (role : Role) : Bool :=
  match job, kind, state, role with
  | .copy, .scan, .active, .pipeline => true
  | .copy, .page, .active, .pipeline => true
  | .copy, .page, .active, .video => true
  | .print, .page, .active, .control => true
  | .print, .page, .active, .pipeline => true
  | .print, .page, .active, .video => true
  | .heldPrint, .page, .active, .control => true
  | .heldPrint, .page, .active, .pipeline => true
  | .heldPrint, .page, .released, .video => true
  | .scanSend, .scan, .active, .pipeline => true
  | .scanSend, .scan, .active, .control => true
  | .scanBox, .scan, .active, .pipeline => true
  | .scanBox, .scan, .released, .pipeline => true
  | .scanBox, .scan, .released, .control => true
  | .scanBox, .page, .released, .video => true
  | _, _, _, _ => false

/-- R71: whether a read that R70 does not answer DECIPHERED is answered RAW. -/
def readsRaw (state : JobState) (role : Role) : Bool :=
  match role, state with
  | .control, .active => true
  | .control, .held => true
  | .control, .released => true
  | .store, .held => true
  | .store, .closing => true
  | _, _ => false

/-- The grant table for a read (R70, R71). -/
def grantRead (job : JobKind) (state : JobState) (kind : RegionKind) (role : Role) : Treatment :=
  if readsDeciphered job state kind role then .deciphered
  else if readsRaw state role then .raw
  else .refused .noGrant

/-- The grant table for a write (R72). -/
def grantWrite (state : JobState) (kind : RegionKind) (role : Role) (scanStop : Bool) : Treatment :=
  match role, kind, state with
  | .scan, .scan, .active => if scanStop then .refused .scanStop else .enciphered
  | .control, .page, .active => .enciphered
  | .control, .page, .released => .enciphered
  | .pipeline, .page, .active => .enciphered
  | .pipeline, .page, .released => .enciphered
  | .store, _, .held => .raw
  | _, _, _ => .refused .noGrant

/-- The grant table (R69). -/
def grant (job : JobKind) (state : JobState) (kind : RegionKind) (role : Role) (direction : Direction)
    (scanStop : Bool) : Treatment :=
  match direction with
  | .read => grantRead job state kind role
  | .write => grantWrite state kind role scanStop

/-- The treatment outside all bound regions in NORMAL mode (R11). -/
def outsideTreatment (role : Role) (direction : Direction) : Treatment :=
  match role, direction with
  | .scan, .write => .refused .noRegion
  | .video, .read => .refused .noRegion
  | _, _ => .pass

/-- The treatment in LOCKDOWN (R20). -/
def lockedTreatment (role : Role) : Treatment :=
  match role with
  | .control | .store | .other => .pass
  | .scan | .video | .pipeline => .refused .lockdown

/-- The treatment of a transaction that passes the SPLIT test, and the bound region it lies in with its index and its
job (R11, R12, R20); a region of no job is not treated as one, and does not arise (R6). -/
def State.treatment (s : State) (role : Role) (direction : Direction) (address : Nat) :
    Treatment × Option (Nat × Region) :=
  if s.locked then (lockedTreatment role, s.regionOf address)
  else
    match s.regionOf address with
    | none => (outsideTreatment role direction, none)
    | some (i, r) =>
      match s.jobAt r.slot with
      | some j => (grant j.kind j.phase.state r.kind role direction j.scanStop, some (i, r))
      | none => (.refused .noGrant, some (i, r))

end Sys2Proof.Machine
end

