-- ==== Sys2Proof/Machine/BandParser.lean ====
section
/-! DEFINITION. The band parser: framing, headers, side starts, coverage, and the abandonment of the open side
(spec/05). -/

namespace Sys2Proof.Machine

/-! ## Framing fields (R78) -/

/-- The framing and the cursor of a PAGE region; none for any other entry. -/
def State.framingOf (s : State) (i : Nat) : Option (Framing × Nat) :=
  match (s.region i).map Region.body with
  | some (.page f cursor) => some (f, cursor)
  | some (.scan _) => none
  | none => none

/-- The framing and the cursor of a PAGE region replaced. -/
def State.setFraming (s : State) (i : Nat) (f : Framing) (cursor : Nat) : State :=
  match s.region i, s.framingOf i with
  | some r, some _ => s.setRegion i (some { r with body := .page f cursor })
  | _, _ => s

/-- The current plane of a region, present in IN_PAYLOAD. -/
def State.currentPlane (s : State) (i : Nat) : Option Plane :=
  match s.framingOf i with
  | some (.inPayload _ plane, _) => some plane
  | some (.atHeader, _) => none
  | some (.broken, _) => none
  | none => none

/-- A region becomes BROKEN where its cursor stands (R93). -/
def State.breakRegion (s : State) (i : Nat) : State :=
  match s.framingOf i with
  | some (_, cursor) => s.setFraming i .broken cursor
  | none => s

/-- The open side, if a region holds it. -/
def State.openSideIn (s : State) (i : Nat) : Option OpenSide :=
  match s.parser.openSide with
  | some o => if o.region = i then some o else none
  | none => none

/-! ## Abandoning the open side (R92, R93) -/

/-- The region of an abandoned side (R93): where the cause leaves it to the event itself, nothing changes here. -/
def State.frameAbandoned (s : State) (i : Nat) (cause : AbandonCause) : State :=
  match cause with
  | .restart => s.setFraming i .atHeader 0
  | .framing | .newSideOtherRegion | .earlySheet | .jam => s.breakRegion i
  | .newSideSameRegion | .closeTimeout | .lockdown => s

/-- The abandonments that a close deadline and lockdown make are not followed by a drain test (R55). -/
def AbandonCause.drains : AbandonCause → Bool
  | .closeTimeout | .lockdown => false
  | .restart | .framing | .newSideSameRegion | .newSideOtherRegion | .earlySheet | .jam => true

/-- Band dot-levels above 0 are handed to the position of the current plane (R90, R92). -/
def State.handBand (s : State) (plane : Option Plane) (dots : Nat) : State :=
  match plane with
  | some p => if 0 < dots then s.handDots p dots else s
  | none => s

/-- The release of a side's reservation at its sheet's account (R92 step 2). -/
def State.releaseSide (s : State) (o : OpenSide) : State :=
  match s.sheetNamed o.sheet with
  | some h => s.release h.account o.reservation
  | none => s

/-- The job's share of an abandonment (R49, R92 step 4). -/
def JobRecord.abandonSide (j : JobRecord) : JobRecord :=
  { j with inQueue := j.inQueue - 1, abandoned := satAdd top32 j.abandoned 1 }

/-- The operands of an ABANDONED notice (R92 step 6). -/
def abandonedValues (o : OpenSide) (number : Option Nat) (cause : AbandonCause) : List Val :=
  [u8 cause.code, u8 o.region, u8 o.slot, u8 o.kind.code, opt 2 number, u16 (o.nextBand - 1),
   u32 (min top32 o.dots.k), u32 (min top32 o.dots.colour)]

/-- The steps 1 to 6 of R92 on an open side. -/
def State.abandonSide (s : State) (o : OpenSide) (cause : AbandonCause) : State :=
  let handed := s.handBand (s.currentPlane o.region) o.bandDots
  let left := ((handed.releaseSide o).abandonSheet o.sheet o.kind).updateJob o.slot JobRecord.abandonSide
  ((left.setOpenSide none).frameAbandoned o.region cause).askNotice .sideAbandoned
    (abandonedValues o (s.jobNumber o.slot) cause)

/-- The open side, if there is one, is abandoned, with the drain test that follows (R55, R92). -/
def State.abandon (s : State) (cause : AbandonCause) : State :=
  match s.parser.openSide with
  | some o =>
    if cause.drains then (s.abandonSide o cause).drainTest o.slot else s.abandonSide o cause
  | none => s

/-! ## Band headers (R77, R82, 13.5) -/

/-- The fields of a band header, with its first four bytes and the sum of all of them. -/
structure BandHeader where
  sync      : List Byte
  sum       : Nat
  sideStart : Bool
  sideEnd   : Bool
  kind      : Nat
  mask      : PlaneMask
  plane     : Nat
  number    : Nat
  units     : Nat
  deriving DecidableEq, Repr, Inhabited

/-- The band sync word (13.5). -/
def bandSync : List Byte := [0x5A, 0xA5, 0x3C, 0xC3]

/-- The fields of 32 header bytes (13.5). -/
def BandHeader.ofBytes (b : List Byte) : BandHeader :=
  { sync := b.take 4
    sum := (b.map BitVec.toNat).sum
    sideStart := (fieldAt b 4 1).testBit 0
    sideEnd := (fieldAt b 4 1).testBit 1
    kind := fieldAt b 5 1
    mask := BitVec.ofNat 4 (fieldAt b 6 1)
    plane := fieldAt b 7 1
    number := fieldAt b 8 2
    units := fieldAt b 10 2 }

/-- What the tests of R82 make of a header. -/
inductive HeaderVerdict where
  | error (reason : FramingReason)
  | continues (plane : Plane)
  | starts (kind : SideKind) (plane : Plane)
  deriving DecidableEq, Repr, Inhabited

/-- The tests 4 to 6 of R82 on a header with SIDE_START. -/
def judgeStart (room : Bool) (h : BandHeader) (kind : SideKind) (plane : Plane) : HeaderVerdict :=
  if !room then .error .length
  else if !hasPlane h.mask plane then .error .plane
  else if h.number ≠ 0 then .error .sequence
  else .starts kind plane

/-- The number that the open side's next header carries: how many of its bands have ended. R77 and the example of
section 5.8 want 1 after the first band, where the next band number, which R89 starts at 1 and R90 raises at each band
end, stands at 2 (R92: bands ended are the next band number less one). Log 39, DEDUCED. -/
def OpenSide.awaitedBand (o : OpenSide) : Nat := o.nextBand - 1

/-- The tests 4 to 6 of R82 on a header without SIDE_START (log 39 for the number that test 6 compares). -/
def judgeLater (room : Bool) (h : BandHeader) (open? : Option OpenSide) (plane : Plane) : HeaderVerdict :=
  if !room then .error .length
  else
    match open? with
    | none => .error .noSide
    | some o =>
      if !hasPlane o.mask plane then .error .plane
      else if h.number ≠ o.awaitedBand then .error .sequence
      else .continues plane

/-- The tests of R82 on a header at an offset of a region of a length whose open side is given. -/
def judgeHeader (h : BandHeader) (length offset : Nat) (open? : Option OpenSide) : HeaderVerdict :=
  let room := decide (offset + 32 + 32 * h.units ≤ length)
  if h.sync ≠ bandSync then .error .badSync
  else if h.sum % 256 ≠ 0 then .error .badCheck
  else
    match ofCode? Plane.all h.plane with
    | none => .error .badField
    | some plane =>
      if h.units = 0 ∨ 4096 < h.units then .error .badField
      else if h.sideStart then
        match ofCode? SideKind.all h.kind with
        | none => .error .badField
        | some kind => if h.mask = 0 then .error .badField else judgeStart room h kind plane
      else judgeLater room h open? plane

/-! ## A read and its refusals -/

/-- A VIDEO read as the transaction unit hands it over (R15), with the slot and the length of its region. -/
structure VideoRead where
  requester : Nat
  index     : Nat
  slot      : Nat
  length    : Nat
  offset    : Nat
  beats     : Nat
  deriving DecidableEq, Repr, Inhabited

/-- A FRAMING notice (R79, R83, R84; log 21 for the parser state of the last two). -/
def State.noticeFraming (s : State) (r : VideoRead) (reason : FramingReason) (state : ParserState) (cursor : Nat) :
    State :=
  s.askNotice (.framing reason)
    [u8 r.requester, u8 r.index, u8 r.slot, u8 r.beats, u8 state.code, u32 r.offset, u32 cursor]

/-- The tests 2 to 5 of R79; none where the read is parsed. A read at offset 0 passes them all (test 1). -/
def placementRefusal (framing : Framing) (cursor offset beats : Nat) : Option FramingReason :=
  if offset = 0 then none
  else
    match framing with
    | .broken => some .broken
    | .atHeader =>
      if offset ≠ cursor then some .framingGap else if beats = 1 then some .headerSplit else none
    | .inPayload remaining _ =>
      if offset ≠ cursor then some .framingGap
      else if cursor + remaining < offset + 16 * beats ∧ offset + 16 * beats < cursor + remaining + 32 then
        some .headerSplit
      else none

/-- The restart of a region by a read at offset 0 (R80); any other read restarts nothing. -/
def State.restartFraming (s : State) (r : VideoRead) : State :=
  if r.offset = 0 then
    ((if (s.openSideIn r.index).isSome then s.abandon .restart else s).setFraming r.index .atHeader 0)
  else s

/-- A framing error at a header (R83). -/
def State.framingError (s : State) (r : VideoRead) (offset : Nat) (reason : FramingReason) : State :=
  let abandoned := if (s.openSideIn r.index).isSome then s.abandon .framing else s
  (abandoned.setFraming r.index .broken offset).noticeFraming r reason .atHeader offset

/-! ## Starting a side (R86 to R89) -/

/-- The abandonment that a SIDE_START header makes before the checks (R86). -/
def State.abandonForStart (s : State) (i : Nat) : State :=
  s.abandon (if (s.openSideIn i).isSome then .newSideSameRegion else .newSideOtherRegion)

/-- The job's side limit is reached (R51). -/
def JobRecord.atLimit (j : JobRecord) : Bool := j.limit != 0 && decide (j.limit ≤ j.mono + j.colour + j.inQueue)

/-- The room that check 7 of R87 asks for. -/
def State.queueTakes (s : State) (slot : Nat) (kind : SideKind) : Bool :=
  match kind with
  | .simplex | .front => decide (s.charging.sheets.length < 8)
  | .back => s.charging.sheets.any fun h => h.awaits slot

/-- The side-start checks of R87 in order: the first reason that fails, none where all pass. -/
def State.sideRefusal (s : State) (slot : Nat) (j : JobRecord) (kind : SideKind) (mask : PlaneMask) :
    Option SideReason :=
  let a := s.accountAt j.account
  if !readsDeciphered j.kind j.phase.state .page .video then some .jobState
  else if j.atLimit then some .limit
  else if a.state ≠ .active then some .account
  else if hasColour mask && !a.colour then some .colourDenied
  else if !a.canTake (s.reservationOf j mask) then some .funds
  else if (s.notGenuine mask).isSome then some .consumable
  else if !s.queueTakes slot kind then some .sheetQueue
  else none

/-- The SIDE notice of a refused side start (R88), with the state of a position that is not GENUINE after the values
R88 lists (R138; log 38 for its place, log 31 for the values that are absent). -/
def State.noticeSide (s : State) (r : VideoRead) (j : JobRecord) (kind : SideKind) (mask : PlaneMask) (offset : Nat)
    (reason : SideReason) : State :=
  let failed := if reason = .consumable then s.notGenuine mask else none
  s.askNotice (.sideRefused reason)
    [u8 r.index, u8 r.slot, u16 j.number, u16 j.account, u8 kind.code, u8 mask.toNat, u32 offset,
     opt 1 (failed.map Prod.fst), opt 1 (if reason = .sheetQueue then some s.charging.sheets.length else none),
     opt 1 (failed.map fun f => f.2.code)]

/-- The name of the sheet a side takes: the oldest AWAITING_BACK sheet of the job for a BACK side (R97), a new one
otherwise. -/
def State.sheetForSide (s : State) (slot : Nat) (kind : SideKind) : Nat :=
  match kind with
  | .simplex | .front => s.charging.nextSheet
  | .back => ((s.charging.sheets.find? fun h => h.awaits slot).map Sheet.name).getD s.charging.nextSheet

/-- A side's record takes its place in the sheet queue (R89 step 2). -/
def State.placeSide (s : State) (slot account : Nat) (kind : SideKind) (side : SideRecord) : State :=
  match kind with
  | .simplex | .front => s.addSheet slot account side
  | .back => s.attachBack (s.sheetForSide slot .back) side

/-- The making of a side (R89, steps 1 to 4). -/
def State.makeSide (s : State) (r : VideoRead) (j : JobRecord) (kind : SideKind) (mask : PlaneMask) : State :=
  let side := s.newSide j kind mask
  let placed := (s.reserve j.account side.reservation).placeSide r.slot j.account kind side
  (placed.setOpenSide
    (some
      { region := r.index, slot := r.slot, sheet := s.sheetForSide r.slot kind, kind := kind, mask := mask,
        nextBand := 1, dots := .zero, bandDots := 0, reservation := side.reservation, lastBand := false })).updateJob
    r.slot fun j => { j with inQueue := j.inQueue + 1 }

/-- The SIDE_END of the current band's header, kept with the open side until the band ends (R81, R91; log 27). -/
def OpenSide.takeHeader (sideEnd : Bool) (o : OpenSide) : OpenSide := { o with lastBand := sideEnd }

/-- A header that passes every test is consumed (R81). -/
def State.consumeHeader (s : State) (i offset : Nat) (h : BandHeader) (plane : Plane) : State :=
  (s.setOpenSide (s.parser.openSide.map (OpenSide.takeHeader h.sideEnd))).setFraming i
    (.inPayload (32 * h.units) plane) (offset + 32)

/-- The side start at a header with SIDE_START, with whether the read goes on (R86 to R89). -/
def State.startSide (s : State) (r : VideoRead) (offset : Nat) (h : BandHeader) (kind : SideKind) (plane : Plane) :
    State × Bool :=
  let cleared := s.abandonForStart r.index
  match cleared.jobAt r.slot with
  | none => (cleared, false)
  | some j =>
    match cleared.sideRefusal r.slot j kind h.mask with
    | some reason => (cleared.noticeSide r j kind h.mask offset reason, false)
    | none => ((cleared.makeSide r j kind h.mask).consumeHeader r.index offset h plane, true)

/-- A header met at an offset, with whether the read goes on (R81 to R89). -/
def State.takeHeader (s : State) (r : VideoRead) (offset : Nat) (bytes : List Byte) : State × Bool :=
  let h := BandHeader.ofBytes bytes
  match judgeHeader h r.length offset (s.openSideIn r.index) with
  | .error reason => (s.framingError r offset reason, false)
  | .continues plane => (s.consumeHeader r.index offset h plane, true)
  | .starts kind plane => s.startSide r offset h kind plane

/-! ## Coverage (R90, R91) -/

/-- The dot-levels of a payload byte (R77, 13.5). -/
def dotLevels (b : Byte) : Nat := b.toNat % 4 + b.toNat / 4 % 4 + b.toNat / 16 % 4 + b.toNat / 64

/-- Dot-levels added to the count of a plane. -/
def Dots.add (d : Dots) (p : Plane) (n : Nat) : Dots :=
  match p with
  | .k => { d with k := d.k + n }
  | .c => { d with c := d.c + n }
  | .m => { d with m := d.m + n }
  | .y => { d with y := d.y + n }

/-- Payload bytes counted in the open side of the region (R90). -/
def State.countPayload (s : State) (i : Nat) (plane : Plane) (bytes : List Byte) : State :=
  match s.openSideIn i with
  | some o =>
    let n := (bytes.map dotLevels).sum
    s.setOpenSide (some { o with dots := o.dots.add plane n, bandDots := o.bandDots + n })
  | none => s

/-- The completion of a side (R91). -/
def State.completeSide (s : State) (o : OpenSide) : State :=
  ((s.updateSheet o.sheet (Sheet.completeSide o.kind o.dots)).drawImaging).setOpenSide none

/-- The end of a band at a cursor, and of the side where the band's header carried SIDE_END (R90, R91). -/
def State.endBand (s : State) (i : Nat) (plane : Plane) (cursor : Nat) : State :=
  match s.openSideIn i with
  | some o =>
    let ended : OpenSide := { o with bandDots := 0, nextBand := o.nextBand + 1 }
    let handed := ((s.handBand (some plane) o.bandDots).setOpenSide (some ended)).setFraming i .atHeader cursor
    if o.lastBand then handed.completeSide ended else handed
  | none => s.setFraming i .atHeader cursor

/-! ## Parsing a read (R81) -/

/-- The data of a read parsed from an offset, with whether the read passes. Payload is taken as far as the band or the
data reaches; a header that ends after the data is refused with HEADER_SPLIT (R84). Each turn takes at least one byte or
ends a band, so twice as many turns as bytes are enough. A region that is BROKEN or gone does not come to be parsed
(R79). -/
def State.parseFrom (r : VideoRead) : (turns : Nat) → State → (offset : Nat) → List Byte → State × Bool
  | 0, s, _, _ => (s, true)
  | _ + 1, s, _, [] => (s, true)
  | n + 1, s, offset, b :: bs =>
    let data := b :: bs
    match s.framingOf r.index with
    | some (.inPayload remaining plane, _) =>
      let counted := s.countPayload r.index plane (data.take remaining)
      if remaining ≤ data.length then
        State.parseFrom r n (counted.endBand r.index plane (offset + remaining)) (offset + remaining)
          (data.drop remaining)
      else
        (counted.setFraming r.index (.inPayload (remaining - data.length) plane) (offset + data.length), true)
    | some (.atHeader, _) =>
      if data.length < 32 then (s.noticeFraming r .headerSplit .atHeader offset, false)
      else
        match s.takeHeader r offset (data.take 32) with
        | (s', true) => State.parseFrom r n s' (offset + 32) (data.drop 32)
        | (s', false) => (s', false)
    | some (.broken, _) => (s, false)
    | none => (s, false)

/-- A VIDEO read parsed from its first byte, with whether it passes (R81). -/
def State.parseRead (s : State) (r : VideoRead) (data : List Byte) : State × Bool :=
  State.parseFrom r (2 * data.length) s r.offset data

end Sys2Proof.Machine
end

