-- ==== Sys2Proof/Machine/Engine.lean ====
section
/-! DEFINITION. The engine lines at the charging unit, and the close deadline (R57, R58, R99 to R104). -/

namespace Sys2Proof.Machine

/-! ## ENG_SHEET (R99) -/

/-- The SHEET_EARLY notice (R99): the state the sheet was found in, its owner and job number, its account, the number
of sides committed and the amount charged. -/
def earlyValues (h : Sheet) (number : Option Nat) (sides charged : Nat) : List Val :=
  [u8 h.state.code, u8 h.owner.code, opt 2 number, u16 h.account, u8 sides, u16 charged]

/-- ENG_SHEET on the oldest sheet (R99). -/
def State.sheetDelivered (s : State) (h : Sheet) : State :=
  match h.state with
  | .complete => s.deliverSheet h h.sides
  | .awaitingBack =>
    (s.deliverSheet h [h.front]).askNotice .sheetEarly (earlyValues h (s.ownerNumber h.owner) 1 h.front.charge)
  | .fillingBack =>
    ((s.abandon .earlySheet).deliverSheet h [h.front]).askNotice .sheetEarly
      (earlyValues h (s.ownerNumber h.owner) 1 h.front.charge)
  | .fillingFront =>
    (s.abandon .earlySheet).askNotice .sheetEarly (earlyValues h (s.ownerNumber h.owner) 0 0)

/-- An ENG_SHEET pulse (R99). -/
def State.engSheet (s : State) : State :=
  match s.charging.sheets with
  | h :: _ => s.sheetDelivered h
  | [] => s.askNotice .sheetUnexpected []

/-- ENG_SHEET (R99). -/
def execEngSheet (s : State) : Host.Outcome State Fault Refusal := .next s.engSheet

/-! ## ENG_JAM (R103, R104) -/

/-- The JAM notice (R103 step 4). -/
def jamValues (dropped : List Sheet) : List Val :=
  [u8 dropped.length, u8 (dropped.map fun h => h.sides.length).sum, u8 (dropped.countP fun h => h.owner == .orphan),
   u32 (dropped.map Sheet.reserved).sum]

/-- An ENG_JAM pulse (R103): the queue is empty when the drain tests of the sheets dropped are made. -/
def State.engJam (s : State) : State :=
  let abandoned := s.abandon .jam
  let dropped := abandoned.charging.sheets
  (dropped.foldl State.dropSheet (abandoned.setSheets [])).askNotice .jam (jamValues dropped)

/-- ENG_JAM (R103). -/
def execEngJam (s : State) : Host.Outcome State Fault Refusal := .next s.engJam

/-! ## CLOSE_DEADLINE (R57, R58) -/

/-- The deadline of the CLOSING job in a slot. -/
def State.deadlineOf (s : State) (slot : Nat) : Option Nat :=
  match (s.jobAt slot).map JobRecord.phase with
  | some (.closing c) => some c.deadline
  | some .active => none
  | some .held => none
  | some .released => none
  | none => none

/-- The time counter has reached the close deadline of a CLOSING job (R57). -/
def State.deadlineDue (s : State) (slot : Nat) : Bool :=
  match s.deadlineOf slot with
  | some deadline => decide (deadline ≤ s.now)
  | none => false

/-- The CLOSE_TIMEOUT notice (R57 step 4). -/
def timeoutValues (slot : Nat) (j : JobRecord) (sheets sides : Nat) : List Val :=
  [u8 slot, u16 j.number, u16 j.account, u8 sheets, u8 sides]

/-- The sheets in the queue whose owner is a slot. -/
def State.sheetsOf (s : State) (slot : Nat) : List Sheet := s.charging.sheets.filter fun h => h.owner == .job slot

/-- The steps of R57 on the record in a slot, and the completion of R58. -/
def State.closeTimedOut (s : State) (slot : Nat) (j : JobRecord) : State :=
  let abandoned := if s.openSideOf slot then s.abandon .closeTimeout else s
  let sheets := (abandoned.sheetsOf slot).length
  let sides := ((abandoned.sheetsOf slot).map fun h => h.sides.length).sum
  let left := (abandoned.orphanSheetsOf slot).updateJob slot fun j => { j with inQueue := 0 }
  (left.askNotice .closeTimeout (timeoutValues slot j sheets sides)).completeClose slot .timeout sheets sides

/-- The expiry of a close deadline (R57); one that has not been reached, or belongs to no CLOSING job, does not come
about (R55, log 1). -/
def State.closeDeadline (s : State) (slot : Nat) : State :=
  match s.jobAt slot with
  | some j => if s.deadlineDue slot then s.closeTimedOut slot j else s
  | none => s

/-- CLOSE_DEADLINE (R57). -/
def execCloseDeadline (slot : Nat) (s : State) : Host.Outcome State Fault Refusal := .next (s.closeDeadline slot)

end Sys2Proof.Machine
end

