-- ==== Sys2Proof/Machine/Link.lean ====
section
/-! DEFINITION. The link unit: frames, exchanges, attempts and the ends of entries (spec/09). -/

namespace Sys2Proof.Machine

/-! ## Frames (R147, R149, 13.8) -/

/-- The commands of R149. -/
inductive LinkCommand where
  | identify | challenge | readYield | writeYield
  deriving DecidableEq, Repr, Inhabited

/-- The codes of 13.8. -/
def LinkCommand.code : LinkCommand → Nat
  | .identify => 1
  | .challenge => 2
  | .readYield => 3
  | .writeYield => 4

/-- The status codes of 13.8. -/
def statusOk : Nat := 0
/-- The status codes of 13.8. -/
def statusRefused : Nat := 1
/-- The status codes of 13.8. -/
def statusMismatch : Nat := 2

/-- The bits of a byte that are set. -/
def onesOf (b : Byte) : Nat := (List.range 8).countP fun i => b.getLsbD i

/-- A byte with the bit that gives it odd parity (R147). -/
def withOddParity (b : Byte) : LinkByte := { value := b, parity := onesOf b % 2 == 0 }

/-- A received byte has odd parity (R148 test 1). -/
def hasOddParity (b : LinkByte) : Bool := (onesOf b.value + b.parity.toNat) % 2 == 1

/-- The sum of bytes modulo 65,536 (R147). -/
def frameSum (bytes : List Byte) : Nat := (bytes.map BitVec.toNat).sum % 65536

/-- A request frame with its frame check and parity (R147). -/
def requestFrame (position : Nat) (command : LinkCommand) (data : List Byte) : List LinkByte :=
  let body := leBytes 1 position ++ leBytes 1 command.code ++ leBytes 1 data.length ++ data
  (body ++ leBytes 2 (frameSum body)).map withOddParity

/-- The statuses a command allows (R149). -/
def LinkCommand.allows (command : LinkCommand) (status : Nat) : Bool :=
  status == statusOk || status == statusRefused || (status == statusMismatch && command == .writeYield)

/-- The length of the reply data that a command and a status give (R149). -/
def LinkCommand.replyLength (command : LinkCommand) (status : Nat) : Nat :=
  if status = statusRefused then 0
  else
    match command with
    | .identify => 14
    | .challenge => 16
    | .readYield => 4
    | .writeYield => 4

/-- The number in a received byte. -/
def byteAt (bytes : List Byte) (i : Nat) : Nat := fieldAt bytes i 1

/-- The tests of R148 on the next byte of a reply whose earlier bytes are given: odd parity, then the test of the place
where the byte stands. -/
def acceptsByte (position : Nat) (command : LinkCommand) (got : List Byte) (b : LinkByte) : Bool :=
  hasOddParity b &&
    match got.length with
    | 0 => b.value.toNat == 128 + position
    | 1 => command.allows b.value.toNat
    | 2 => b.value.toNat == command.replyLength (byteAt got 1)
    | n =>
      if n < 3 + byteAt got 2 then true
      else if n = 3 + byteAt got 2 then b.value.toNat == frameSum got % 256
      else b.value.toNat == frameSum (got.take (3 + byteAt got 2)) / 256

/-- The second byte of the frame check has arrived (R150). -/
def frameComplete (got : List Byte) : Bool := decide (3 ≤ got.length) && got.length == 5 + byteAt got 2

/-- What has become of a reply frame after some bytes (R148). -/
inductive Reception where
  | incomplete (got : List Byte)
  | complete (frame : List Byte)
  | failed
  deriving DecidableEq, Repr, Inhabited

/-- Bytes of a reply judged one by one; after the end of the frame, or its first bad byte, nothing more is read
(R148). -/
def receive (position : Nat) (command : LinkCommand) : (got : List Byte) → List LinkByte → Reception
  | got, [] => .incomplete got
  | got, b :: bs =>
    if acceptsByte position command got b then
      if frameComplete (got ++ [b.value]) then .complete (got ++ [b.value])
      else receive position command (got ++ [b.value]) bs
    else .failed

/-- The data of a complete reply frame. -/
def replyData (frame : List Byte) : List Byte := (frame.drop 3).take (byteAt frame 2)

/-- What an IDENTIFY reply gives (13.8). -/
def identityOf (data : List Byte) : Identity :=
  { serial := fieldAt data 0 8, modelCode := fieldAt data 8 2, storedYield := fieldAt data 10 4 }

/-! ## Exchanges and attempts (R150, R151) -/

/-- The command of an entry's first or second exchange (R151). -/
def LinkKind.command (kind : LinkKind) (second : Bool) : LinkCommand :=
  match kind, second with
  | .authenticate, false => .identify
  | .recheck, false => .identify
  | .sync, false => .readYield
  | .authenticate, true => .challenge
  | .recheck, true => .challenge
  | .sync, true => .writeYield

/-- The new yield of a SYNC: the chip's stored yield less the capture, or 0 (R151). -/
def Running.newYield (r : Running) : Nat := r.chipYield.getD 0 - r.capture.getD 0

/-- The data of a WRITE_YIELD request (13.8). -/
def Running.writeData (r : Running) : List Byte := leBytes 4 (r.chipYield.getD 0) ++ leBytes 4 r.newYield

/-- The running entry's fields replaced. -/
def State.setRunning (s : State) (r : Running) : State := s.setLink { s.link with running := some r }

/-- An attempt begins: its request frame is being sent. Each attempt of a CHALLENGE draws a new nonce from the
generator of keys (R149, R150). -/
def State.beginAttempt (s : State) (e : LinkEntry) (r : Running) : State :=
  match e.kind.command r.secondExchange with
  | .challenge =>
    let nonce := Config.nonce s.cipher.draws
    (s.setCipher { s.cipher with draws := s.cipher.draws + 1 }).setRunning
      { r with nonce := some nonce, phase := .sending (requestFrame e.position .challenge (bytesOfBeat nonce)) }
  | .identify => s.setRunning { r with phase := .sending (requestFrame e.position .identify []) }
  | .readYield => s.setRunning { r with phase := .sending (requestFrame e.position .readYield []) }
  | .writeYield => s.setRunning { r with phase := .sending (requestFrame e.position .writeYield r.writeData) }

/-- The fields of an entry that begins, with the sync capture of a SYNC (R144, R151). -/
def Running.fresh (capture : Option Nat) : Running :=
  { secondExchange := false, secondAttempt := false, phase := .sending [], identity := none, chipYield := none,
    nonce := none, capture := capture }

/-- An entry begins; at the first attempt of a SYNC the consumable unit takes the sync capture (R136, R151). -/
def State.beginEntry (s : State) (e : LinkEntry) : State :=
  match e.kind with
  | .sync =>
    let capture := (s.consumableAt e.position).unsynced
    (s.updateConsumable e.position fun r => { r with syncCapture := some capture }).beginAttempt e
      (.fresh (some capture))
  | .authenticate => s.beginAttempt e (.fresh none)
  | .recheck => s.beginAttempt e (.fresh none)

/-- The oldest entry begins, if there is one (R146). -/
def State.beginOldest (s : State) : State :=
  match s.link.queue with
  | e :: _ => s.beginEntry e
  | [] => s

/-- An entry waits and the line is IDLE (R146). -/
def State.lineReady (s : State) : Bool :=
  s.link.running.isNone && s.link.quietSince.isNone && !s.link.queue.isEmpty

/-- LINK_ENTRY_START (R146): on a line that is not IDLE, or with no entry, no entry begins (log 1). -/
def execLinkEntryStart (s : State) : Host.Outcome State Fault Refusal :=
  .next (if s.lineReady then s.beginOldest else s)

/-- The running entry with its fields. -/
def State.runningEntry (s : State) : Option (LinkEntry × Running) :=
  match s.link.queue, s.link.running with
  | e :: _, some r => some (e, r)
  | _, _ => none

/-- The last byte of the request frame has been sent (R150). -/
def State.requestFrameSent (s : State) : State :=
  match s.link.running with
  | some r =>
    match r.phase with
    | .sending _ => s.setRunning { r with phase := .awaitingReply s.now }
    | .awaitingReply _ | .receiving _ _ | .quiet _ => s
  | none => s

/-- REQUEST_FRAME_SENT (R150). -/
def execRequestFrameSent (s : State) : Host.Outcome State Fault Refusal := .next s.requestFrameSent

/-! ## Ends (R146, R153) -/

/-- The running entry is removed; the line is IDLE, or QUIET from a time (R146). -/
def State.removeRunning (s : State) (quietSince : Option Nat) : State :=
  s.setLink { queue := s.link.queue.tail, running := none, quietSince := quietSince }

/-- The report of an entry that ended LINK_FAILED, with the results it had gathered (R151, R153). -/
def State.reportFailure (s : State) (e : LinkEntry) (r : Running) : State :=
  match e.kind with
  | .authenticate => s.authenticateEnd e.position .linkFailed r.identity
  | .recheck => s.recheckEnd e.position .linkFailed r.identity
  | .sync => s.syncFailed e.position

/-- An attempt fails: the line goes to QUIET, and after a second attempt the entry ends LINK_FAILED (R150). -/
def State.failAttempt (s : State) (e : LinkEntry) (r : Running) : State :=
  if r.secondAttempt then (s.removeRunning (some s.now)).reportFailure e r
  else s.setRunning { r with phase := .quiet s.now }

/-- The second exchange follows the first (R151). -/
def State.secondExchange (s : State) (e : LinkEntry) (r : Running) : State :=
  s.beginAttempt e { r with secondExchange := true, secondAttempt := false }

/-- The report of a CHALLENGE exchange that completed (R132, R133, R151). -/
def State.reportChallenge (s : State) (e : LinkEntry) (identity : Identity) (passes : Bool) : State :=
  let result := (s.consumableAt e.position).judge e.position identity passes
  match e.kind with
  | .authenticate => s.authenticateEnd e.position result (some identity)
  | .recheck => s.recheckEnd e.position result (some identity)
  | .sync => s

/-- A reply frame accepted with status OK or MISMATCH, by the command it answers (R151). -/
def State.exchangeReply (s : State) (e : LinkEntry) (r : Running) (data : List Byte) (passes : Bool) : State :=
  match e.kind.command r.secondExchange with
  | .identify => s.secondExchange e { r with identity := some (identityOf data) }
  | .readYield => s.secondExchange e { r with chipYield := some (fieldAt data 0 4) }
  | .challenge => (s.removeRunning none).reportChallenge e (r.identity.getD default) passes
  | .writeYield =>
    if fieldAt data 0 4 = r.newYield then
      (s.removeRunning none).syncEnd e.position (r.chipYield.getD 0) r.newYield
    else s.failAttempt e r

/-- What bytes of a reply do, after the bytes received before them (R148, R150). -/
def State.receiveBytes (s : State) (e : LinkEntry) (r : Running) (got : List Byte) (bytes : List LinkByte)
    (passes : Bool) : State :=
  match receive e.position (e.kind.command r.secondExchange) got bytes with
  | .incomplete got' => s.setRunning { r with phase := .receiving got' s.now }
  | .failed => s.failAttempt e r
  | .complete frame =>
    if byteAt frame 1 = statusRefused then s.failAttempt e r
    else s.exchangeReply e r (replyData frame) passes

/-- Bytes arrive on CART_BUS: they are discarded while no reply is awaited (R148; log 22). -/
def State.replyFrame (s : State) (bytes : List LinkByte) (passes : Bool) : State :=
  match s.runningEntry with
  | some (e, r) =>
    match r.phase with
    | .awaitingReply _ => s.receiveBytes e r [] bytes passes
    | .receiving got _ => s.receiveBytes e r got bytes passes
    | .sending _ | .quiet _ => s
  | none => s

/-- REPLY_FRAME (R148). -/
def execReplyFrame (bytes : List LinkByte) (responsePasses : Bool) (s : State) : Host.Outcome State Fault Refusal :=
  .next (if bytes.isEmpty then s else s.replyFrame bytes responsePasses)

/-! ## Times (R150) -/

/-- The reply time and the QUIET time (R150). -/
def linkTime : Nat := 20000

/-- 20 ms have passed since a time. -/
def State.linkTimeUp (s : State) (since : Nat) : Bool := decide (since + linkTime ≤ s.now)

/-- The reply time of a phase has run out (R150). -/
def State.replyTimeUp (s : State) (phase : LinePhase) : Bool :=
  match phase with
  | .awaitingReply since => s.linkTimeUp since
  | .receiving _ since => s.linkTimeUp since
  | .sending _ => false
  | .quiet _ => false

/-- The reply time runs out (R150); before it has, nothing comes about (log 1). -/
def State.replyTimeout (s : State) : State :=
  match s.runningEntry with
  | some (e, r) => if s.replyTimeUp r.phase then s.failAttempt e r else s
  | none => s

/-- REPLY_TIMEOUT (R150). -/
def execReplyTimeout (s : State) : Host.Outcome State Fault Refusal := .next s.replyTimeout

/-- The QUIET time of a running entry has run out (R150). -/
def State.quietUp (s : State) (phase : LinePhase) : Bool :=
  match phase with
  | .quiet since => s.linkTimeUp since
  | .sending _ => false
  | .awaitingReply _ => false
  | .receiving _ _ => false

/-- The QUIET time that follows an entry's end has run out: the line is IDLE and the oldest entry begins (R146). -/
def State.quietAfterEnd (s : State) : State :=
  match s.link.quietSince with
  | some since =>
    if s.linkTimeUp since then (s.setLink { s.link with quietSince := none }).beginOldest else s
  | none => s

/-- The end of a QUIET time (R146, R150). -/
def State.quietEnd (s : State) : State :=
  match s.link.running with
  | none => s.quietAfterEnd
  | some _ =>
    match s.runningEntry with
    | some (e, r) => if s.quietUp r.phase then s.beginAttempt e { r with secondAttempt := true } else s
    | none => s

/-- QUIET_END (R146). -/
def execQuietEnd (s : State) : Host.Outcome State Fault Refusal := .next s.quietEnd

end Sys2Proof.Machine
end

