-- ==== Sys2Proof/Machine/Lockdown.lean ====
section
/-! DEFINITION. Lockdown control: causes, entry, and recovery (spec/11), with what entry does at each block. -/

namespace Sys2Proof.Machine

/-! ## Entry at each block (R168) -/

/-- A lockdown cause as an event brings it (R168): the slot that a key fault report names, the requester of a LOCKDOWN
directive. -/
structure CauseEvent where
  cause     : LockdownCause
  slot      : Option Nat
  requester : Option Nat
  deriving DecidableEq, Repr, Inhabited

/-- The operands of LOCKDOWN_ENTERED and LOCKDOWN_REPEAT (R168, R169). -/
def CauseEvent.values (e : CauseEvent) : List Val := [u8 e.cause.code, opt 1 e.slot, opt 1 e.requester]

/-- Every key is erased (R68). -/
def State.eraseKeys (s : State) : State := s.setCipher { s.cipher with keys := .replicate 32 none }

/-- Every region becomes FREE and the last scan write record absent (R20). -/
def State.freeAllRegions (s : State) : State :=
  s.setTransaction { s.transaction with regions := .replicate 64 none, lastScanWrite := none }

/-- A close summary location leaves the owned-area list, if there is one (R60). -/
def State.disownSummary (s : State) (summary : Option Nat) : State :=
  match summary with
  | some location => s.disown location .closeSummary
  | none => s

/-- The close of a job that lockdown ends is answered LOCKED, and its summary location leaves the owned-area list
(R60). -/
def State.lockClose (s : State) (j : Option JobRecord) : State :=
  match j.map JobRecord.phase with
  | some (.closing c) => (s.disownSummary c.summary).replyParked c.parked .locked
  | some .active => s
  | some .held => s
  | some .released => s
  | none => s

/-- Every slot becomes FREE, and parked closes are answered LOCKED in order of slot (R60). -/
def State.freeAllSlots (s : State) : State :=
  ((tlist s.job.slots).foldl State.lockClose s).setJobs { slots := .replicate 32 none }

/-- Every directive that waits in the queue is answered LOCKED, oldest first (R30). -/
def State.answerWaiting (s : State) : State :=
  let answered := s.directive.queue.foldl (fun a d => a.reply d (a.generalAnswer d .locked .none)) s
  answered.setDirective { answered.directive with queue := [] }

/-- The part mode and the cause change, the notice is asked for and ATTN rises (R168, R37). -/
def State.enterMode (s : State) (e : CauseEvent) : State :=
  let told := (s.setLockdown { s.lockdown with mode := .lockdown, cause := some e.cause }).askNotice .lockdownEntered
    e.values
  told.setDirective { told.directive with attn := true }

/-- The entry at every block but the directive unit's queue, in the order of R168 (log 16). -/
def State.enterBlocks (s : State) (e : CauseEvent) : State :=
  ((((((s.enterMode e).abandon .lockdown).orphanAllSheets).eraseKeys).freeAllRegions).freeAllSlots).meterEntry

/-- A cause taken in NORMAL mode enters lockdown (R168); one taken in LOCKDOWN asks for LOCKDOWN_REPEAT only (R169). -/
def State.takeCause (s : State) (e : CauseEvent) : State :=
  if s.locked then s.askNotice .lockdownRepeat e.values else (s.enterBlocks e).answerWaiting

/-! ## TAMPER_N and key fault reports (R168, R169) -/

/-- The level of TAMPER_N. -/
def State.setTamper (s : State) (high : Bool) : State := s.setLockdown { s.lockdown with tamperHigh := high }

/-- TAMPER_FALL (R168): a line that is low already does not fall (log 1). -/
def execTamperFall (s : State) : Host.Outcome State Fault Refusal :=
  .next
    (if s.lockdown.tamperHigh then
      (s.setTamper false).takeCause { cause := .tamper, slot := none, requester := none }
    else s)

/-- TAMPER_RISE (R169): no cause, and no change of the part mode. -/
def execTamperRise (s : State) : Host.Outcome State Fault Refusal := .next (s.setTamper true)

/-- The oldest key fault report reaches lockdown control (R65, R168, R169; log 28). -/
def State.keyFaultReport (s : State) : State :=
  match s.cipher.reports with
  | slot :: rest =>
    (s.setCipher { s.cipher with reports := rest }).takeCause
      { cause := .keyFault, slot := some slot, requester := none }
  | [] => s

/-- KEY_FAULT_REPORT (R168). -/
def execKeyFaultReport (s : State) : Host.Outcome State Fault Refusal := .next s.keyFaultReport

/-! ## LOCKDOWN and RECOVER (R170, R171) -/

/-- LOCKDOWN at lockdown control (R170): its execution is the cause DIRECTIVE. -/
def ownLockdown (d : Directive) (s : State) : Verdict × State :=
  (.answer (.done [u64 s.now]),
   s.enterBlocks { cause := .directive, slot := none, requester := some d.requester })

/-- The directives that wait behind a LOCKDOWN directive are answered LOCKED after its own outcome (R30, R170): they
wait on only where no entry was made. -/
def State.afterLockdown (before : State) (s : State) : State :=
  if before.locked = s.locked then s else s.answerWaiting

/-- LOCKDOWN (R170). -/
def execLockdown (s : State) : Host.Outcome State Fault Refusal :=
  .next (s.afterLockdown (s.runDirective .lockdown ownLockdown))

/-- The code of the lockdown cause held. -/
def State.causeHeld (s : State) : Val := opt 1 (s.lockdown.cause.map LockdownCause.code)

/-- The return to NORMAL (R171). -/
def State.recover (s : State) : State :=
  (s.setLockdown { s.lockdown with mode := .normal, cause := none }).askNotice .recovered [s.causeHeld]

/-- RECOVER at lockdown control (R171). -/
def ownRecover (_d : Directive) (s : State) : Verdict × State :=
  if !s.locked then (.answer (.refuse .refusedState .notLocked), s)
  else if !s.lockdown.tamperHigh then (.answer (.refuse .refusedState .tamper), s)
  else (.answer (.done [s.causeHeld]), s.recover)

/-- RECOVER (R171). -/
def execRecover (s : State) : Host.Outcome State Fault Refusal := .next (s.runDirective .recover ownRecover)

end Sys2Proof.Machine
end

