-- ==== Sys2Proof/Machine/Regions.lean ====
section
/-! DEFINITION. The region table's directives (R5 to R9). -/

namespace Sys2Proof.Machine

/-- The region kinds a job kind may bind (R6). -/
def JobKind.binds (job : JobKind) (kind : RegionKind) : Bool :=
  match job, kind with
  | .copy, _ => true
  | .print, .page => true
  | .heldPrint, .page => true
  | .scanSend, .scan => true
  | .scanBox, _ => true
  | _, _ => false

/-- The starting fields of a bound region (R5, R7). -/
def RegionBody.start (kind : RegionKind) : RegionBody :=
  match kind with
  | .scan => .scan 0
  | .page => .page .atHeader 0

/-- A bound region of a slot has a segment number (R6). -/
def State.segmentTaken (s : State) (slot segment : Nat) : Bool :=
  (tlist s.transaction.regions).any fun e =>
    match e with
    | some r => r.slot == slot && r.segment == segment
    | none => false

/-- The lowest-numbered FREE entry (R7). -/
def State.lowestFreeRegion (s : State) : Option Nat := (tlist s.transaction.regions).findIdx? Option.isNone

/-- Test 3 of R6. -/
def badRange (base length : Nat) : Bool :=
  base % pageSize != 0 || length % pageSize != 0 || decide (length < pageSize) || decide (268435456 < length) ||
    decide (addressEnd < base + length)

/-- The tests 5 to 9 of R6 on a job that is neither FREE nor CLOSING. -/
def State.bindRefusal (s : State) (j : JobRecord) (r : Region) : Option Answer :=
  if !j.kind.binds r.kind then some (.refuse .refusedRange .kind)
  else if 16 ≤ s.regionsOfSlot r.slot then some (.refuse .noRoom .jobRegions)
  else if s.segmentTaken r.slot r.segment then some (.refuse .duplicate .segment)
  else if s.overlapsRegion r.base r.length then some (.refuse .refusedRange .overlapRegion)
  else if s.overlapsOwned r.base r.length then some (.refuse .refusedRange .overlapOwned)
  else none

/-- The record in a slot that may bind a region: not FREE and not CLOSING (R6 test 4). -/
def State.bindingJob (s : State) (slot : Nat) : Option JobRecord :=
  match s.jobAt slot with
  | some j => if j.phase.state = .closing then none else some j
  | none => none

/-- The tests 5 to 10 of R6 and the binding of R7. -/
def State.bindRegion (s : State) (j : JobRecord) (r : Region) : Verdict × State :=
  match s.bindRefusal j r, s.lowestFreeRegion with
  | some a, _ => (.answer a, s)
  | none, none => (.answer (.refuse .noRoom .tableFull), s)
  | none, some i => (.answer (.done [u8 i]), s.setRegion i (some r))

/-- REGION_BIND at the region table (R6, R7). -/
def ownRegionBind (d : Directive) (s : State) : Verdict × State :=
  let slot := d.arg regionBindForm 0
  let segment := d.arg regionBindForm 1
  let base := d.arg regionBindForm 2
  let length := d.arg regionBindForm 3
  match ofCode? RegionKind.all (d.arg regionBindForm 4) with
  | none => (.answer (.refuse .refusedRange .badOperand), s)
  | some kind =>
    if 31 < slot ∨ 15 < segment then (.answer (.refuse .refusedRange .badOperand), s)
    else if badRange base length then (.answer (.refuse .refusedRange .badRange), s)
    else
      match s.bindingJob slot with
      | none => (.answer (.refuse .refusedState .jobState), s)
      | some j =>
        s.bindRegion j { base := base, length := length, slot := slot, segment := segment, body := .start kind }

/-- REGION_BIND (R6). -/
def execRegionBind (s : State) : Host.Outcome State Fault Refusal := .next (s.runDirective .regionBind ownRegionBind)

/-- The values of a region that depend on its kind: parser state, current plane, whether it holds the open side, cursor,
and payload bytes remaining or beats enciphered (R9). -/
def State.bodyView (s : State) (i : Nat) (r : Region) :
    Option Nat × Option Nat × Option Nat × Option Nat × Nat :=
  match r.body with
  | .scan beats => (none, none, none, none, beats)
  | .page (.inPayload remaining plane) cursor =>
    (some ParserState.inPayload.code, some plane.code, some (s.openSideIn i).isSome.toNat, some cursor, remaining)
  | .page .atHeader cursor =>
    (some ParserState.atHeader.code, none, some (s.openSideIn i).isSome.toNat, some cursor, 0)
  | .page .broken cursor =>
    (some ParserState.broken.code, none, some (s.openSideIn i).isSome.toNat, some cursor, 0)

/-- The code of BOUND (13.3). -/
def boundCode : Nat := 1

/-- The code of FREE (13.3). -/
def freeCode : Nat := 0

/-- A region entry as REGION_READ and REGION_UNBIND give it (R8, R9). -/
def State.regionView (s : State) (i : Nat) : List Val :=
  match s.region i with
  | some r =>
    let v := s.bodyView i r
    [u8 boundCode, u8 r.kind.code, u8 r.slot, u8 r.segment, opt 1 v.1, opt 1 v.2.1, opt 1 v.2.2.1,
     opt 2 (s.jobNumber r.slot), u32 r.length, opt 4 v.2.2.2.1, u32 v.2.2.2.2, u64 r.base]
  | none =>
    [u8 freeCode, opt 1 none, opt 1 none, opt 1 none, opt 1 none, opt 1 none, opt 1 none, opt 2 none, opt 4 none,
     opt 4 none, opt 4 none, opt 8 none]

/-- REGION_UNBIND at the region table (R8). -/
def ownRegionUnbind (d : Directive) (s : State) : Verdict × State :=
  let i := d.arg regionIndexForm 0
  if 63 < i then (.answer (.refuse .refusedRange .badOperand), s)
  else if (s.region i).isNone then (.answer (.refuse .refusedState .notBound), s)
  else if (s.openSideIn i).isSome then (.answer (.refuse .refusedState .openSide), s)
  else (.answer (.done (s.regionView i)), s.setRegion i none)

/-- REGION_UNBIND (R8). -/
def execRegionUnbind (s : State) : Host.Outcome State Fault Refusal :=
  .next (s.runDirective .regionUnbind ownRegionUnbind)

/-- REGION_READ at the region table (R9). -/
def ownRegionRead (d : Directive) (s : State) : Verdict × State :=
  let i := d.arg regionIndexForm 0
  if 63 < i then (.answer (.refuse .refusedRange .badOperand), s) else (.answer (.done (s.regionView i)), s)

/-- REGION_READ (R9). -/
def execRegionRead (s : State) : Host.Outcome State Fault Refusal := .next (s.runDirective .regionRead ownRegionRead)

end Sys2Proof.Machine
end

