-- ==== Sys2Proof/Machine/Reset.lean ====
section
/-! DEFINITION. Power-on and RESET_N (R21, R33, R61, R111, R143, R144, R157, R166, R172). -/

namespace Sys2Proof.Machine

/-- A presence line at reset: its level is its settled level at once (R128). -/
def PresenceLine.atReset (l : PresenceLine) : PresenceLine := { level := l.level, settled := l.level, since := 0 }

/-- A record at reset: AUTHENTICATING with authentication pending where a cartridge is fitted, ABSENT otherwise; the
low mark is 0 (R143). -/
def Consumable.atReset (fitted : Bool) : Consumable :=
  if fitted then .cleared .authenticating 0 true else .cleared .absent 0 false

/-- The consumable unit at reset (R143). -/
def ConsumableUnit.atReset (u : ConsumableUnit) : ConsumableUnit :=
  { State.reset.consumable with
    records := tmap (fun l => Consumable.atReset l.level) u.presence
    presence := tmap PresenceLine.atReset u.presence }

/-- The meter unit at reset: the cells are kept and the working totals take the banked totals (R155, R156, R166). -/
def MeterUnit.atReset (u : MeterUnit) : MeterUnit :=
  { State.reset.meter with working := u.cells.banked, cells := u.cells, pwrWarn := u.pwrWarn }

/-- Lockdown control at reset reads TAMPER_N after every block has taken its reset values (R172). -/
def LockdownControl.atReset (u : LockdownControl) (cause : ResetCause) : LockdownControl :=
  { mode := if u.tamperHigh then .normal else .lockdown
    cause := if u.tamperHigh then none else some .tamperAtReset
    resetCause := cause
    tamperHigh := u.tamperHigh }

/-- Every unit at its reset values. What lies outside the part's reset is kept: page memory (log 5), the levels of the
lines, the meter cells, the position of the key generator (log 7), and the commands that wait. ATTN rises where the part
starts in LOCKDOWN (R172). -/
def State.resetTo (s : State) (cause : ResetCause) : State :=
  { State.reset with
    cipher := { State.reset.cipher with draws := s.cipher.draws }
    directive := { State.reset.directive with attn := !s.lockdown.tamperHigh }
    consumable := s.consumable.atReset
    meter := s.meter.atReset
    lockdown := s.lockdown.atReset cause
    memory := s.memory
    pending := s.pending }

/-- POWER_ON (R172). -/
def execPowerOn (s : State) : Host.Outcome State Fault Refusal := .next (s.resetTo .powerOn)

/-- RESET_N (R172). -/
def execResetN (s : State) : Host.Outcome State Fault Refusal := .next (s.resetTo .resetLine)

end Sys2Proof.Machine
end

