-- ==== Sys2Proof/Machine/System.lean ====
section
/-! DEFINITION. The directive unit: entry of directives, the writers, and its own directives (spec/02), with SET_ROLES
(R4). -/

namespace Sys2Proof.Machine

/-! ## DIRECTIVE_ENTRY (R24) -/

/-- A directive answered at once, with no results (R24, R27). -/
def State.replyAtOnce (s : State) (d : Directive) (outcome : OutcomeCode) : State := s.reply d ⟨outcome, .none, []⟩

/-- A directive entered: answered at once, or the newest in the queue (R24). -/
def State.enter (s : State) (d : Directive) : State :=
  if s.locked && !executedInLockdown d.code then s.replyAtOnce d .locked
  else if (DirectiveName.ofCode? d.code).isNone then s.replyAtOnce d .unknown
  else if 4 ≤ s.directive.queue.length then s.replyAtOnce d .busy
  else (s.setDirective { s.directive with queue := s.directive.queue ++ [d] }).dispatchNext

/-- A directive that a requester wrote. -/
def Directive.isFrom (requester : Nat) (d : Directive) : Bool := d.requester == requester

/-- The write of the oldest recognised directive of a requester has been completed in memory (R18, R24; log 17). -/
def State.directiveEntry (s : State) (requester : Nat) : State :=
  match s.directive.recognised.find? (Directive.isFrom requester) with
  | some d =>
    (s.setDirective
      { s.directive with recognised := s.directive.recognised.eraseP (Directive.isFrom requester) }).enter d
  | none => s

/-- DIRECTIVE_ENTRY (R24). -/
def execDirectiveEntry (requester : Nat) (s : State) : Host.Outcome State Fault Refusal :=
  .next (s.directiveEntry requester)

/-! ## The writers (R27, R34, R56) -/

/-- The executing directive's reply stands at a location and waits to be written (R25). -/
def State.awaitsReplyAt (s : State) (location : Nat) : Bool :=
  match s.directive.executing with
  | some { directive := d, phase := .replying } => d.location == location
  | some { directive := _, phase := .running } => false
  | none => false

/-- After a reply has been written, the executing directive it answered is finished with and the next becomes
executing (R25). -/
def State.afterReply (s : State) (location : Nat) : State :=
  if s.awaitsReplyAt location then (s.setDirective { s.directive with executing := none }).dispatchNext else s

/-- The oldest of the reply writer's work is gone from it. -/
def State.popWriter (s : State) : State := s.setDirective { s.directive with writes := s.directive.writes.tail }

/-- The write of a reply that is the reply writer's oldest work completes (R27). -/
def State.replyWriteDone (s : State) : State :=
  match s.directive.writes with
  | .reply r :: _ => (((s.popWriter).store r.location r.bytes).disown r.location .replyLocation).afterReply r.location
  | .summary _ _ :: _ => s
  | [] => s

/-- REPLY_WRITE_DONE (R27). -/
def execReplyWriteDone (s : State) : Host.Outcome State Fault Refusal := .next s.replyWriteDone

/-- The write of a job summary that is the reply writer's oldest work completes (R56, R59). -/
def State.summaryWriteDone (s : State) : State :=
  match s.directive.writes with
  | .summary location m :: _ => ((s.popWriter).store location m.bytes).disown location .closeSummary
  | .reply _ :: _ => s
  | [] => s

/-- SUMMARY_WRITE_DONE (R56). -/
def execSummaryWriteDone (s : State) : Host.Outcome State Fault Refusal := .next s.summaryWriteDone

/-- NOTICE_WRITE (R34). -/
def execNoticeWrite (s : State) : Host.Outcome State Fault Refusal := .next s.takeNotice

/-! ## STATUS (R40) -/

/-- The head index, 0 when the ring is unset (R34). -/
def State.ringHead (s : State) : Nat := (s.directive.ring.map Ring.head).getD 0

/-- The written count, 0 when the ring is unset (R34). -/
def State.ringWritten (s : State) : Nat := (s.directive.ring.map fun r => r.written.toNat).getD 0

/-- How many region entries are FREE. -/
def State.freeRegionCount (s : State) : Nat := (tlist s.transaction.regions).countP Option.isNone

/-- The results of STATUS (R40). -/
def State.statusView (s : State) : List Val :=
  [u8 s.lockdown.mode.code, opt 1 (s.lockdown.cause.map LockdownCause.code), u8 s.lockdown.resetCause.code,
   u8 s.freeSlots, u8 s.freeRegionCount, u8 s.charging.sheets.length, u16 s.ringHead, u32 s.ringWritten,
   flag8 s.directive.ring.isSome, flag8 s.directive.attn, u64 s.now, flag8 s.account.pristine,
   u32 s.meter.cells.serial]

/-- STATUS at the directive unit (R40). -/
def ownStatus (_d : Directive) (s : State) : Verdict × State := (.answer (.done s.statusView), s)

/-- STATUS (R40). -/
def execStatus (s : State) : Host.Outcome State Fault Refusal := .next (s.runDirective .status ownStatus)

/-! ## NOTE (R36) -/

/-- The notice that NOTE asks for (R36). -/
def Directive.hostNote (d : Directive) : NoticeRequest :=
  { kind := .hostNote, detail := d.arg noteForm 0, operands := d.noteBytes }

/-- Every waiting request taken in order (R34). -/
def State.takeAllNotices (s : State) : State :=
  (s.setDirective { s.directive with notices := [] }).deliverAll s.directive.notices

/-- NOTE at the directive unit (R36): the requests before it are taken first, so that the index is known (log 15). -/
def ownNote (d : Directive) (s : State) : Verdict × State :=
  if s.directive.ring.isNone then (.answer (.refuse .refusedState .noRing), s)
  else
    let ready := s.takeAllNotices
    let noted := ready.deliver d.hostNote
    (.answer (.done [u16 ready.ringHead, u32 noted.ringWritten]), noted)

/-- NOTE (R36). -/
def execNote (s : State) : Host.Outcome State Fault Refusal := .next (s.runDirective .note ownNote)

/-! ## SET_NOTICE_RING (R35) -/

/-- An area overlaps an owned area other than the present ring (R35 test 4). -/
def State.overlapsOtherOwned (s : State) (base length : Nat) : Bool :=
  s.directive.owned.any fun a => a.source != .noticeRing && overlaps base length a.base a.length

/-- The tests of R35. -/
def State.ringRefusal (s : State) (base count : Nat) : Option Answer :=
  if base % 32 ≠ 0 ∨ count < 16 ∨ 4096 < count then some (.refuse .refusedRange .badOperand)
  else if addressEnd < base + 32 * count then some (.refuse .refusedRange .badRange)
  else if s.overlapsRegion base (32 * count) then some (.refuse .refusedRange .overlapRegion)
  else if s.overlapsOtherOwned base (32 * count) then some (.refuse .refusedRange .overlapOwned)
  else none

/-- The present ring's area leaves the owned-area list (R31, R35). -/
def State.disownRing (s : State) : State :=
  s.setDirective { s.directive with owned := s.directive.owned.filter fun a => a.source != .noticeRing }

/-- The ring set anew (R35). -/
def State.setRing (s : State) (base count : Nat) : State :=
  let owned := s.disownRing.own base (32 * count) .noticeRing
  owned.setDirective
    { owned.directive with ring := some { base := base, count := count, head := 0, written := 0 } }

/-- SET_NOTICE_RING at the directive unit (R35). -/
def ownSetNoticeRing (d : Directive) (s : State) : Verdict × State :=
  let base := d.arg setNoticeRingForm 0
  let count := d.arg setNoticeRingForm 1
  match s.ringRefusal base count with
  | some a => (.answer a, s)
  | none => (.answer (.done [u16 s.ringHead, u32 s.ringWritten]), s.setRing base count)

/-- SET_NOTICE_RING (R35). -/
def execSetNoticeRing (s : State) : Host.Outcome State Fault Refusal :=
  .next (s.runDirective .setNoticeRing ownSetNoticeRing)

/-! ## Attention (R37, R38) -/

/-- SET_ATTENTION_MASK at the directive unit (R37). -/
def ownSetAttentionMask (d : Directive) (s : State) : Verdict × State :=
  let set := d.arg setAttentionMaskForm 0
  if 512 ≤ set then (.answer (.refuse .refusedRange .badOperand), s)
  else
    (.answer (.done [u16 s.directive.mask.toNat]), s.setDirective { s.directive with mask := BitVec.ofNat 9 set })

/-- SET_ATTENTION_MASK (R37). -/
def execSetAttentionMask (s : State) : Host.Outcome State Fault Refusal :=
  .next (s.runDirective .setAttentionMask ownSetAttentionMask)

/-- CLEAR_ATTENTION at the directive unit (R38). -/
def ownClearAttention (_d : Directive) (s : State) : Verdict × State :=
  (.answer (.done [u16 s.ringHead, u32 s.ringWritten]), s.setDirective { s.directive with attn := false })

/-- CLEAR_ATTENTION (R38). -/
def execClearAttention (s : State) : Host.Outcome State Fault Refusal :=
  .next (s.runDirective .clearAttention ownClearAttention)

/-! ## SET_ROLES (R4) -/

/-- The role table replaced. -/
def State.setRoles (s : State) (roles : List Role) : State :=
  s.setTransaction { s.transaction with roles := tfill 16 fun i => roles.getD i .other }

/-- SET_ROLES at the transaction unit (R4): the reply carries the role table whatever the outcome. -/
def ownSetRoles (d : Directive) (s : State) : Verdict × State :=
  let answer := fun (o : OutcomeCode) (detail : Detail) (s : State) => Verdict.answer ⟨o, detail, layout s.roleView⟩
  match d.roleCodes.mapM (ofCode? Role.all) with
  | none => (answer .refusedRange .roleCode s, s)
  | some roles =>
    if !roles.contains .control then (answer .refusedRange .noControl s, s)
    else if !s.allSlotsFree then (answer .refusedState .jobsOpen s, s)
    else (answer .done .none (s.setRoles roles), s.setRoles roles)

/-- SET_ROLES (R4). -/
def execSetRoles (s : State) : Host.Outcome State Fault Refusal := .next (s.runDirective .setRoles ownSetRoles)

end Sys2Proof.Machine
end

