-- ==== Sys2Proof/WellFormed.lean ====
section
/-! DEFINITION. Which commands the part's ports and lines can carry. -/

namespace Sys2Proof

/-- R1: a requester number of 4 bits; a 40-bit address that is a multiple of 16; 1 to 16 beats; a write carries all
16 bytes of each beat, a read none. -/
def Transaction.wellFormed (t : Transaction) : Bool :=
  t.requester < 16 && t.address < addressEnd && t.address % 16 == 0 && 1 ≤ t.beats && t.beats ≤ 16 &&
    t.data.length == (match t.direction with | .read => 0 | .write => 16 * t.beats)

/-- The checks on a command's operands. A command with no operand is always well-formed. -/
def Instr.wellFormed : Instr → Bool
  | .subordinateTransaction t => t.wellFormed
  | .directiveEntry requester => requester < 16
  | .closeDeadline slot => slot < 32
  | .presenceLineChange position _ => position < 5
  | .presenceRise position => position < 5
  | .presenceFall position => position < 5
  | .replyFrame bytes _ => !bytes.isEmpty
  | .restoreAreaRead beats => 1 ≤ beats
  | .keyFaultReport => true
  | .replyWriteDone => true
  | .summaryWriteDone => true
  | .noticeWrite => true
  | .status => true
  | .note => true
  | .setNoticeRing => true
  | .setAttentionMask => true
  | .clearAttention => true
  | .setRoles => true
  | .lockdown => true
  | .recover => true
  | .regionBind => true
  | .regionUnbind => true
  | .regionRead => true
  | .jobOpen => true
  | .jobHold => true
  | .jobRelease => true
  | .jobClose => true
  | .jobRead => true
  | .accountSet => true
  | .accountAdjust => true
  | .accountSuspend => true
  | .accountResume => true
  | .accountRead => true
  | .accountClear => true
  | .periodClose => true
  | .setTariff => true
  | .sheetsRead => true
  | .consumableRead => true
  | .checkNow => true
  | .setLowMark => true
  | .setSchedule => true
  | .snapshot => true
  | .snapshotImageCopy => true
  | .snapshotCompositionEnd => true
  | .restore => true
  | .restoreReadEnd => true
  | .meterRead => true
  | .engSheet => true
  | .engJam => true
  | .scnPage => true
  | .epochBoundary => true
  | .linkEntryStart => true
  | .requestFrameSent => true
  | .replyTimeout => true
  | .quietEnd => true
  | .pwrWarn => true
  | .bankComplete => true
  | .tamperFall => true
  | .tamperRise => true
  | .powerOn => true
  | .resetN => true
  | .pwrWarnRelease => true

end Sys2Proof
end

