-- ==== Sys2Proof/Machine/Transactions.lean ====
section
/-! DEFINITION. The subordinate port: the treatment of each transaction, the cipher, and the recognition of directives
(spec/01, R23, R65, R66). -/

namespace Sys2Proof.Machine

/-! ## Refusals (R17) -/

/-- A transaction whose first and last bytes lie in different 4 KiB pages (R2). -/
def splitsPage (t : Transaction) : Bool :=
  t.address / pageSize != (t.address + 16 * t.beats - 1) / pageSize

/-- A refusal by the transaction unit or the cipher unit: its ACCESS notice, and the response REFUSED with no beat
(R1, R17). -/
def State.refuseAccess (s : State) (t : Transaction) (role : Role) (reason : AccessReason) (region : Option Nat) :
    State :=
  (s.askStamped (.access reason)
    [u8 t.requester, u8 role.code, u8 (directionCode t.direction), u8 t.beats, opt 1 region, u64 t.address]).respond
    t.requester false []

/-! ## Recognition of directives (R23) -/

/-- The notice of a candidate that is not recognised (R23). -/
def State.noticeCandidate (s : State) (kind : NoticeKind) (t : Transaction) : State :=
  s.askNotice kind [u8 t.requester, u64 t.address]

/-- A recognised directive: the copy of its fields is kept, and its location joins the owned-area list (R22, R23). -/
def State.recognise (s : State) (t : Transaction) : State :=
  let owned := s.own t.address 64 .replyLocation
  owned.setDirective
    { owned.directive with
      recognised := owned.directive.recognised ++ [Directive.ofBytes t.data t.address t.requester] }

/-- The tests of R23 on a CONTROL write treated PASS. -/
def State.examine (s : State) (t : Transaction) : State :=
  if t.beats ≠ 4 ∨ t.address % 64 ≠ 0 then s
  else if t.data.take 8 ≠ directiveMarker then s
  else if s.overlapsOwned t.address 64 then s.noticeCandidate .placement t
  else if !t.tagVerifies then s.noticeCandidate .tagFail t
  else s.recognise t

/-! ## PASS and RAW (R1, R11) -/

/-- The bytes that a transaction's beats cover in memory. -/
def State.bytesAt (s : State) (t : Transaction) : List Byte := Memory.readBytes s.memory t.address (16 * t.beats)

/-- A transaction forwarded unchanged. -/
def State.forward (s : State) (t : Transaction) : State :=
  match t.direction with
  | .read => s.respond t.requester true (s.bytesAt t)
  | .write => (s.store t.address t.data).respond t.requester true []

/-- A transaction treated PASS; a CONTROL write is also examined by the directive unit (R11, R20, R23). -/
def State.passTransaction (s : State) (t : Transaction) (role : Role) : State :=
  match t.direction, role with
  | .write, .control => (s.forward t).examine t
  | _, _ => s.forward t

/-! ## The cipher (R65, R66) -/

/-- Beat number `k` of some bytes. -/
def beatAt (data : List Byte) (k : Nat) : Beat := beatOfBytes ((data.drop (16 * k)).take 16)

/-- Beats enciphered under a key, from a beat offset of a segment (R66). -/
def encipherBeats (key : JobKey) (segment first beats : Nat) (data : List Byte) : List Byte :=
  (List.range beats).flatMap fun k =>
    bytesOfBeat (Config.cipher key { segment := segment, beat := first + k } (beatAt data k))

/-- Beats deciphered under a key, from a beat offset of a segment (R66). -/
def decipherBeats (key : JobKey) (segment first beats : Nat) (data : List Byte) : List Byte :=
  (List.range beats).flatMap fun k =>
    bytesOfBeat ((Config.cipher key { segment := segment, beat := first + k }).symm (beatAt data k))

/-- The key of a slot that passes its key check (R65). -/
def State.checkedKey (s : State) (slot : Nat) : Option JobKey :=
  match (tget s.cipher.keys slot : Option KeyEntry) with
  | some e => if s.keyPasses slot then some e.key else none
  | none => none

/-- A transaction refused for a key fault, and the fault reported to lockdown control (R14, R65; log 28). -/
def State.keyFault (s : State) (t : Transaction) (role : Role) (i : Nat) (r : Region) : State :=
  let refused := s.refuseAccess t role .keyFault (some i)
  refused.setCipher { refused.cipher with reports := refused.cipher.reports ++ [r.slot] }

/-! ## ENCIPHERED writes (R12, R13, R16) -/

/-- The beats-enciphered count of a SCAN region raised (R13). -/
def RegionBody.countBeats (beats : Nat) : RegionBody → RegionBody
  | .scan n => .scan (satAdd top32 n beats)
  | .page f cursor => .page f cursor

/-- A SCAN write treated ENCIPHERED: the region's count rises and the last scan write record takes its slot (R13,
R16). -/
def State.countScanWrite (s : State) (i : Nat) (r : Region) (beats : Nat) : State :=
  let counted := s.setRegion i (some { r with body := r.body.countBeats beats })
  counted.setTransaction { counted.transaction with lastScanWrite := some r.slot }

/-- The beat offset of a transaction in its region (R66). -/
def Region.beatOffset (r : Region) (address : Nat) : Nat := (address - r.base) / 16

/-- A write treated ENCIPHERED (R12, R13, R14). -/
def State.encipherWrite (s : State) (t : Transaction) (role : Role) (i : Nat) (r : Region) : State :=
  match s.checkedKey r.slot with
  | none => s.keyFault t role i r
  | some key =>
    let stored :=
      (s.store t.address (encipherBeats key r.segment (r.beatOffset t.address) t.beats t.data)).respond t.requester
        true []
    if role = .scan then stored.countScanWrite i r t.beats else stored

/-! ## DECIPHERED reads (R12, R14, R15) -/

/-- The deciphered bytes of a read. -/
def State.plainBytes (s : State) (t : Transaction) (r : Region) (key : JobKey) : List Byte :=
  decipherBeats key r.segment (r.beatOffset t.address) t.beats (s.bytesAt t)

/-- A VIDEO read of a PAGE region as it is handed to the band parser (R15). -/
def videoReadOf (t : Transaction) (i : Nat) (r : Region) : VideoRead :=
  { requester := t.requester, index := i, slot := r.slot, length := r.length, offset := t.address - r.base,
    beats := t.beats }

/-- A VIDEO read of a PAGE region that R79 does not refuse: framing restarts at offset 0, the key is checked, and the
deciphered data is parsed (R15, R80, R81; log 21). -/
def State.parseVideo (s : State) (t : Transaction) (i : Nat) (r : Region) : State :=
  let v := videoReadOf t i r
  let restarted := s.restartFraming v
  match restarted.checkedKey r.slot with
  | none => restarted.keyFault t .video i r
  | some key =>
    let data := restarted.plainBytes t r key
    match restarted.parseRead v data with
    | (parsed, true) => parsed.respond t.requester true data
    | (parsed, false) => parsed.respond t.requester false []

/-- A VIDEO read of a PAGE region (R15, R79). -/
def State.videoRead (s : State) (t : Transaction) (i : Nat) (r : Region) (framing : Framing) (cursor : Nat) : State :=
  match placementRefusal framing cursor (t.address - r.base) t.beats with
  | some reason =>
    (s.noticeFraming (videoReadOf t i r) reason framing.state cursor).respond t.requester false []
  | none => s.parseVideo t i r

/-- A read treated DECIPHERED that the band parser does not see (R12, R15). -/
def State.decipherRead (s : State) (t : Transaction) (role : Role) (i : Nat) (r : Region) : State :=
  match s.checkedKey r.slot with
  | none => s.keyFault t role i r
  | some key => s.respond t.requester true (s.plainBytes t r key)

/-- A read treated DECIPHERED (R12, R15). -/
def State.decipheredRead (s : State) (t : Transaction) (role : Role) (i : Nat) (r : Region) : State :=
  match role, r.body with
  | .video, .page framing cursor => s.videoRead t i r framing cursor
  | _, _ => s.decipherRead t role i r

/-! ## One transaction (R1) -/

/-- A transaction taken whole under the treatment selected for it; ENCIPHERED and DECIPHERED are answered inside a
region only (R12). -/
def State.takeTransaction (s : State) (t : Transaction) : State :=
  let role : Role := tget s.transaction.roles t.requester
  if splitsPage t then s.refuseAccess t role .split none
  else
    match s.treatment role t.direction t.address with
    | (.pass, _) => s.passTransaction t role
    | (.raw, _) => s.forward t
    | (.refused reason, region) => s.refuseAccess t role reason (region.map Prod.fst)
    | (.enciphered, some (i, r)) => s.encipherWrite t role i r
    | (.deciphered, some (i, r)) => s.decipheredRead t role i r
    | (.enciphered, none) => s
    | (.deciphered, none) => s

/-- SUBORDINATE_TRANSACTION (R1). -/
def execSubordinateTransaction (t : Transaction) (s : State) : Host.Outcome State Fault Refusal :=
  if t.wellFormed then .next (s.takeTransaction t) else .fault .notAtThePort

end Sys2Proof.Machine
end

