-- ==== Sys2Proof/Machine/Dispatch.lean ====
section
/-! DEFINITION. The meaning of each command: one arm per constructor of Instr, in the order of spec/opcode_table.json. -/

namespace Sys2Proof.Machine

def exec (i : Instr) (s : State) : Host.Outcome State Fault Refusal :=
  match i with
  | .subordinateTransaction t => Sys2Proof.Machine.execSubordinateTransaction t s
  | .keyFaultReport => Sys2Proof.Machine.execKeyFaultReport s
  | .directiveEntry requester => Sys2Proof.Machine.execDirectiveEntry requester s
  | .replyWriteDone => Sys2Proof.Machine.execReplyWriteDone s
  | .summaryWriteDone => Sys2Proof.Machine.execSummaryWriteDone s
  | .noticeWrite => Sys2Proof.Machine.execNoticeWrite s
  | .status => Sys2Proof.Machine.execStatus s
  | .note => Sys2Proof.Machine.execNote s
  | .setNoticeRing => Sys2Proof.Machine.execSetNoticeRing s
  | .setAttentionMask => Sys2Proof.Machine.execSetAttentionMask s
  | .clearAttention => Sys2Proof.Machine.execClearAttention s
  | .setRoles => Sys2Proof.Machine.execSetRoles s
  | .lockdown => Sys2Proof.Machine.execLockdown s
  | .recover => Sys2Proof.Machine.execRecover s
  | .regionBind => Sys2Proof.Machine.execRegionBind s
  | .regionUnbind => Sys2Proof.Machine.execRegionUnbind s
  | .regionRead => Sys2Proof.Machine.execRegionRead s
  | .jobOpen => Sys2Proof.Machine.execJobOpen s
  | .jobHold => Sys2Proof.Machine.execJobHold s
  | .jobRelease => Sys2Proof.Machine.execJobRelease s
  | .jobClose => Sys2Proof.Machine.execJobClose s
  | .jobRead => Sys2Proof.Machine.execJobRead s
  | .closeDeadline slot => Sys2Proof.Machine.execCloseDeadline slot s
  | .accountSet => Sys2Proof.Machine.execAccountSet s
  | .accountAdjust => Sys2Proof.Machine.execAccountAdjust s
  | .accountSuspend => Sys2Proof.Machine.execAccountSuspend s
  | .accountResume => Sys2Proof.Machine.execAccountResume s
  | .accountRead => Sys2Proof.Machine.execAccountRead s
  | .accountClear => Sys2Proof.Machine.execAccountClear s
  | .periodClose => Sys2Proof.Machine.execPeriodClose s
  | .setTariff => Sys2Proof.Machine.execSetTariff s
  | .sheetsRead => Sys2Proof.Machine.execSheetsRead s
  | .consumableRead => Sys2Proof.Machine.execConsumableRead s
  | .checkNow => Sys2Proof.Machine.execCheckNow s
  | .setLowMark => Sys2Proof.Machine.execSetLowMark s
  | .setSchedule => Sys2Proof.Machine.execSetSchedule s
  | .snapshot => Sys2Proof.Machine.execSnapshot s
  | .snapshotImageCopy => Sys2Proof.Machine.execSnapshotImageCopy s
  | .snapshotCompositionEnd => Sys2Proof.Machine.execSnapshotCompositionEnd s
  | .restore => Sys2Proof.Machine.execRestore s
  | .restoreReadEnd => Sys2Proof.Machine.execRestoreReadEnd s
  | .meterRead => Sys2Proof.Machine.execMeterRead s
  | .engSheet => Sys2Proof.Machine.execEngSheet s
  | .engJam => Sys2Proof.Machine.execEngJam s
  | .scnPage => Sys2Proof.Machine.execScnPage s
  | .presenceLineChange position level => Sys2Proof.Machine.execPresenceLineChange position level s
  | .presenceRise position => Sys2Proof.Machine.execPresenceRise position s
  | .presenceFall position => Sys2Proof.Machine.execPresenceFall position s
  | .epochBoundary => Sys2Proof.Machine.execEpochBoundary s
  | .linkEntryStart => Sys2Proof.Machine.execLinkEntryStart s
  | .requestFrameSent => Sys2Proof.Machine.execRequestFrameSent s
  | .replyFrame bytes responsePasses => Sys2Proof.Machine.execReplyFrame bytes responsePasses s
  | .replyTimeout => Sys2Proof.Machine.execReplyTimeout s
  | .quietEnd => Sys2Proof.Machine.execQuietEnd s
  | .pwrWarn => Sys2Proof.Machine.execPwrWarn s
  | .bankComplete => Sys2Proof.Machine.execBankComplete s
  | .tamperFall => Sys2Proof.Machine.execTamperFall s
  | .tamperRise => Sys2Proof.Machine.execTamperRise s
  | .powerOn => Sys2Proof.Machine.execPowerOn s
  | .resetN => Sys2Proof.Machine.execResetN s
  | .restoreAreaRead beats => Sys2Proof.Machine.execRestoreAreaRead beats s
  | .pwrWarnRelease => Sys2Proof.Machine.execPwrWarnRelease s

end Sys2Proof.Machine
end

