-- ==== Sys2Proof/Machine/Time.lean ====
section
/-! DEFINITION. The part's own clock (R39): what has come due by the time counter, and one microsecond (log 3). -/

namespace Sys2Proof.Machine

/-- One command where a condition holds. -/
def dueIf (condition : Bool) (c : Instr) : List Instr := if condition then [c] else []

/-- The time that a bank takes (R158). -/
def bankTime : Nat := 12000

/-- A bank has run for its whole time (R158; log 35). -/
def State.bankDue (s : State) : Bool :=
  match s.meter.bank with
  | some b => decide (b.began + bankTime ≤ s.now)
  | none => false

/-- The reply time of the running entry has run out (R150). -/
def State.replyDue (s : State) : Bool :=
  match s.runningEntry with
  | some (_, r) => s.replyTimeUp r.phase
  | none => false

/-- A QUIET time has run out (R146, R150). -/
def State.quietDue (s : State) : Bool :=
  match s.link.running, s.runningEntry, s.link.quietSince with
  | some _, some (_, r), _ => s.quietUp r.phase
  | none, _, some since => s.linkTimeUp since
  | some _, none, _ => false
  | none, _, none => false

/-- The close deadlines that have been reached, in order of slot (R57). -/
def State.deadlineSteps (s : State) : List Instr :=
  ((List.range 32).filter s.deadlineDue).map fun slot => .closeDeadline slot

/-- The changes of presence that have settled, in order of position (R128). -/
def State.presenceSteps (s : State) : List Instr :=
  positions.flatMap fun p =>
    dueIf (s.presenceDue p true) (.presenceRise p) ++ dueIf (s.presenceDue p false) (.presenceFall p)

/-- The steps that have come due by the time counter, in the order the model takes them where several come together
(log 3, log 29): either may be first. -/
def State.dueSteps (s : State) : List Instr :=
  s.deadlineSteps ++ dueIf s.epochDue .epochBoundary ++ s.presenceSteps ++ dueIf s.replyDue .replyTimeout ++
    dueIf s.quietDue .quietEnd ++ dueIf s.bankDue .bankComplete ++ dueIf s.lineReady .linkEntryStart

/-- One microsecond of the 64-bit time counter (R39; log 33). -/
def State.advanceTime (s : State) : State :=
  s.setDirective { s.directive with time := (s.directive.time + 1) % 2 ^ 64 }

/-- What the part does while no command waits: what has come due is queued; where nothing is due, a microsecond
passes. -/
def State.tick (s : State) : State :=
  match s.dueSteps with
  | [] => s.advanceTime
  | c :: cs => { s with pending := c :: cs }

end Sys2Proof.Machine
end

