-- ==== Sys2Proof/Safety.lean ====
section
/-! DEFINITION. What the claims speak of: the parts of the state and what a step leaves as it was, where a directive
stands and how it is answered, what a transaction is answered, and what the manual promises of every state. -/

namespace Sys2Proof.Machine

/-! ## Parts of the state -/

/-- The parts of the state: the eleven units, page memory, and the queue of commands. -/
inductive Part where
  | transaction | cipher | directive | job | parser | charging | account | consumable | link | meter | lockdown
  | memory | pending
  deriving DecidableEq, Repr, Inhabited

/-- A part is in `t` as it is in `s`; page memory is judged by reading each byte. -/
def State.keeps (s t : State) : Part → Prop
  | .transaction => t.transaction = s.transaction
  | .cipher => t.cipher = s.cipher
  | .directive => t.directive = s.directive
  | .job => t.job = s.job
  | .parser => t.parser = s.parser
  | .charging => t.charging = s.charging
  | .account => t.account = s.account
  | .consumable => t.consumable = s.consumable
  | .link => t.link = s.link
  | .meter => t.meter = s.meter
  | .lockdown => t.lockdown = s.lockdown
  | .memory => ∀ a, Memory.read t.memory a = Memory.read s.memory a
  | .pending => t.pending = s.pending

/-- Every part but those named is in `t` as it is in `s`. -/
def State.changesOnly (s t : State) (parts : List Part) : Prop := ∀ p, p ∉ parts → s.keeps t p

/-- Every byte of page memory outside the bytes stored from an address reads in `t` as in `s`, and those bytes read as
stored. -/
def State.storesOnly (s t : State) (address : Nat) (bytes : List Byte) : Prop :=
  Memory.readBytes t.memory address bytes.length = bytes ∧
    ∀ a, a < address ∨ address + bytes.length ≤ a → Memory.read t.memory a = Memory.read s.memory a

/-! ## Directives -/

/-- The command at which the owner takes a directive. -/
def DirectiveName.command : DirectiveName → Instr
  | .status => .status
  | .note => .note
  | .setNoticeRing => .setNoticeRing
  | .setAttentionMask => .setAttentionMask
  | .clearAttention => .clearAttention
  | .setRoles => .setRoles
  | .lockdown => .lockdown
  | .recover => .recover
  | .regionBind => .regionBind
  | .regionUnbind => .regionUnbind
  | .regionRead => .regionRead
  | .jobOpen => .jobOpen
  | .jobHold => .jobHold
  | .jobRelease => .jobRelease
  | .jobClose => .jobClose
  | .jobRead => .jobRead
  | .accountSet => .accountSet
  | .accountAdjust => .accountAdjust
  | .accountSuspend => .accountSuspend
  | .accountResume => .accountResume
  | .accountRead => .accountRead
  | .accountClear => .accountClear
  | .periodClose => .periodClose
  | .setTariff => .setTariff
  | .sheetsRead => .sheetsRead
  | .consumableRead => .consumableRead
  | .checkNow => .checkNow
  | .setLowMark => .setLowMark
  | .setSchedule => .setSchedule
  | .snapshot => .snapshot
  | .restore => .restore
  | .meterRead => .meterRead

/-- A directive of a name is executing and its owner has still to take it (R25). -/
def State.awaitsOwner (s : State) (name : DirectiveName) (d : Directive) : Prop :=
  s.directive.executing = some { directive := d, phase := .running } ∧ d.code = name.code

/-- The same, with the part in NORMAL mode. -/
def State.takes (s : State) (name : DirectiveName) (d : Directive) : Prop :=
  s.awaitsOwner name d ∧ s.lockdown.mode = .normal

/-- A directive's reply as it is handed to the reply writer (R25, R27). -/
def Directive.replyOf (d : Directive) (a : Answer) (generation : BitVec 32) (time : Nat) : WriterItem :=
  .reply
    { location := d.location, code := d.code, outcome := a.outcome, detail := a.detail,
      hostReference := d.hostReference, generation := generation, timeTag := time, results := a.results }

/-- The directive unit after the executing directive's reply has been handed to the reply writer (R25, R27). -/
def DirectiveUnit.answered (u : DirectiveUnit) (d : Directive) (a : Answer) (generation : BitVec 32) : DirectiveUnit :=
  { u with
    executing := some { directive := d, phase := .replying }
    writes := u.writes ++ [d.replyOf a generation u.time] }

/-- The directive is answered, and of the other parts only those named change. -/
def State.answers (s t : State) (d : Directive) (a : Answer) (generation : BitVec 32) (parts : List Part) : Prop :=
  t.directive = s.directive.answered d a generation ∧ s.changesOnly t (.directive :: parts)

/-- The directive is answered DONE with results. -/
def State.completes (s t : State) (d : Directive) (results : List Val) (generation : BitVec 32)
    (parts : List Part) : Prop :=
  s.answers t d (.done results) generation parts

/-- The directive is refused with an outcome and a detail, and nothing else changes (R28). -/
def State.refuses (s t : State) (d : Directive) (outcome : OutcomeCode) (detail : Detail)
    (generation : BitVec 32) : Prop :=
  s.answers t d (.refuse outcome detail) generation []

/-- A parked reply as its owner hands it over (R26, R27). -/
def Parked.reply (p : Parked) (a : Answer) (time : Nat) : WriterItem :=
  .reply
    { location := p.location, code := p.code, outcome := a.outcome, detail := a.detail,
      hostReference := p.hostReference, generation := 0, timeTag := time, results := a.results }

/-- In NORMAL mode, the directive unit after the executing directive has been finished with: the oldest waiting one, if
there is one, becomes executing and meets the general test of its flags (R25, R26). -/
def State.movesOn (s : State) (u : DirectiveUnit) : DirectiveUnit :=
  match u.queue with
  | [] => { u with executing := none }
  | n :: more =>
    let v : DirectiveUnit := { u with queue := more }
    if n.badFlag then
      v.answered n (s.generalAnswer n .refusedRange .badFlag) (s.replyGeneration n.code n.operands)
    else { v with executing := some { directive := n, phase := .running } }

/-- The tests that a directive which names a job makes first (R43, R44); where none fails, `rest` says what follows for
the named record. -/
def State.namesJob (s t : State) (d : Directive) (slot number : Nat) (rest : JobRecord → Prop) : Prop :=
  if s.lockdown.mode = .lockdown then s.refuses t d .locked .none 0
  else if 31 < slot ∨ number = 0 then s.refuses t d .refusedRange .badOperand 0
  else
    match s.jobAt slot with
    | none => s.refuses t d .refusedState .noJob 0
    | some j => if j.number ≠ number then s.refuses t d .refusedState .noJob 0 else rest j

/-- The reply of a close that completes, handed over after its summary if one was asked for (R56, R58). -/
def JobRecord.closed (j : JobRecord) (slot : Nat) (summary : Option Nat) (parked : Parked) (reason : CloseReason)
    (sheets sides now : Nat) : List WriterItem :=
  (summary.toList.map fun location => .summary location (j.summarise slot reason sheets sides now)) ++
    [parked.reply
      (.done
        [u8 reason.code, u8 sheets, u8 sides, flag8 summary.isSome, u32 j.mono, u32 j.colour, u64 now])
      now]

/-- A slot is FREE with its key erased, its regions FREE and no last scan write record naming it; every other slot, key
and region is as it was (R10, R56, R67). -/
def State.freesSlot (s t : State) (slot : Nat) : Prop :=
  t.jobAt slot = none ∧ (∀ k, k ≠ slot → t.jobAt k = s.jobAt k) ∧
    t.cipher = { s.cipher with keys := t.cipher.keys } ∧ (tget t.cipher.keys slot : Option KeyEntry) = none ∧
    (∀ k, k ≠ slot → (tget t.cipher.keys k : Option KeyEntry) = tget s.cipher.keys k) ∧
    (∀ i r, t.region i = some r ↔ s.region i = some r ∧ r.slot ≠ slot) ∧
    t.transaction =
      { s.transaction with
        regions := t.transaction.regions
        lastScanWrite := if s.transaction.lastScanWrite = some slot then none else s.transaction.lastScanWrite }

/-- A notice request as a block makes it, without a detail (R34). -/
def noticeOf (kind : NoticeKind) (operands : List Val) : NoticeRequest :=
  { kind := kind, detail := 0, operands := layout operands }

/-- The request of an ACCESS notice, with the moment of refusal as its time tag (R17). -/
def accessNotice (reason : AccessReason) (operands : List Val) (time : Nat) : NoticeRequest :=
  { noticeOf (.access reason) operands with stamp := some time }

/-- The directive unit after blocks have asked for notices. -/
def DirectiveUnit.asked (u : DirectiveUnit) (requests : List NoticeRequest) : DirectiveUnit :=
  { u with notices := u.notices ++ requests }

/-- The directive unit after work has been handed to the reply writer. -/
def DirectiveUnit.handed (u : DirectiveUnit) (items : List WriterItem) : DirectiveUnit :=
  { u with writes := u.writes ++ items }

/-! ## Accounts -/

/-- The tests that a directive naming an account index makes first, with the generation its reply carries (R117): the
index, then CHECK_GEN where it accepts the flag; where none fails, `rest` says what follows for the record. -/
def State.namesAccount (s t : State) (d : Directive) (i : Nat) (rest : Account → Prop) : Prop :=
  if s.lockdown.mode = .lockdown then s.refuses t d .locked .none (s.replyGeneration d.code d.operands)
  else if 2047 < i then s.refuses t d .refusedRange .badOperand 0
  else if d.flags.testBit 0 = true ∧ d.expectedGeneration ≠ (s.accountAt i).generation.toNat then
    s.refuses t d .stale .none (s.accountAt i).generation
  else rest (s.accountAt i)

/-- The directive is answered DONE and has edited one account: the record takes new fields, its generation rises by one,
and the pristine flag is clear (R117, R125). -/
def State.editsAccount (s t : State) (d : Directive) (i : Nat) (results : List Val) (a : Account) : Prop :=
  s.completes t d results ((s.accountAt i).generation + 1) [.account] ∧
    t.account =
      { s.account with
        accounts := tset s.account.accounts i { a with generation := (s.accountAt i).generation + 1 }
        pristine := false }

/-- ACCOUNT_SUSPEND and ACCOUNT_RESUME towards a state, by the tests of R121 in order. -/
def State.changesAccountState (s t : State) (d : Directive) (target : AccountState) : Prop :=
  let i := d.arg accountIndexForm 0
  s.namesAccount t d i fun a =>
    if a.state = .unused then s.refuses t d .refusedState .notInUse a.generation
    else if a.state = target then s.refuses t d .refusedState .accountState a.generation
    else
      s.editsAccount t d i [u8 target.code, i32 a.balance, u32 a.reserved, u8 (s.slotsNaming i)]
        { a with state := target }

/-! ## Transactions -/

/-- The role of a transaction (R3). -/
def State.roleOf (s : State) (t : Transaction) : Role := tget s.transaction.roles t.requester

/-- A transaction that the port can carry and that passes the SPLIT test (R1, R2). -/
def passesPort (t : Transaction) : Prop := t.wellFormed = true ∧ splitsPage t = false

/-- The response of the subordinate port is all of the transaction unit that changes. -/
def TransactionUnit.responding (u : TransactionUnit) (requester : Nat) (okay : Bool) (data : List Byte) :
    TransactionUnit :=
  { u with response := some { requester := requester, okay := okay, data := data } }

/-- The transaction is answered REFUSED with no beat, and an ACCESS notice of the reason is asked for; nothing else
changes (R1, R17). -/
def State.refusesAccess (s u : State) (t : Transaction) (reason : AccessReason) (region : Option Nat) : Prop :=
  u.transaction = s.transaction.responding t.requester false [] ∧
    u.directive =
      s.directive.asked
        [accessNotice reason
          [u8 t.requester, u8 (s.roleOf t).code, u8 (directionCode t.direction), u8 t.beats, opt 1 region,
           u64 t.address]
          s.now] ∧
    s.changesOnly u [.transaction, .directive]

/-- The transaction is answered OKAY with bytes, and nothing else changes. -/
def State.answersRead (s u : State) (t : Transaction) (data : List Byte) : Prop :=
  u.transaction = s.transaction.responding t.requester true data ∧ s.changesOnly u [.transaction]

/-- The transaction stores bytes at its address and is answered OKAY, and nothing else changes. -/
def State.answersWrite (s u : State) (t : Transaction) (bytes : List Byte) : Prop :=
  u.transaction = s.transaction.responding t.requester true [] ∧ s.storesOnly u t.address bytes ∧
    s.changesOnly u [.transaction, .memory]

/-- A transaction in NORMAL mode that lies in bound region `i`, whose job's record is `j` (R12). -/
def State.inRegion (s : State) (t : Transaction) (i : Nat) (r : Region) (j : JobRecord) : Prop :=
  s.lockdown.mode = .normal ∧ s.regionOf t.address = some (i, r) ∧ s.jobAt r.slot = some j

/-- The key store holds a key with its own check in a slot's entry (R63, R65). -/
def State.holdsKey (s : State) (slot : Nat) (key : JobKey) : Prop :=
  (tget s.cipher.keys slot : Option KeyEntry) = some { key := key, check := { derivedFrom := key } }

/-- A transaction that lies outside every bound region (R11). -/
def State.outside (s : State) (t : Transaction) : Prop := ∀ i r, s.region i = some r → r.holds t.address = false

/-- The bytes that memory holds where a transaction reads. -/
def State.stored (s : State) (t : Transaction) : List Byte := Memory.readBytes s.memory t.address (16 * t.beats)

/-- The transaction is forwarded unchanged and answered OKAY, and nothing else changes, but that the directive unit
examines a CONTROL write (R1, R11, R23). -/
def State.passes (s u : State) (t : Transaction) : Prop :=
  match t.direction with
  | .read => s.answersRead u t (s.stored t)
  | .write =>
    u.transaction = s.transaction.responding t.requester true [] ∧ s.storesOnly u t.address t.data ∧
      s.changesOnly u ([.transaction, .memory] ++ if s.roleOf t = .control then [.directive] else [])

/-- A write by CONTROL that the treatment passes: outside every region in NORMAL mode, or in LOCKDOWN (R11, R20). -/
def State.passesControlWrite (s : State) (t : Transaction) : Prop :=
  passesPort t ∧ t.direction = .write ∧ s.roleOf t = .control ∧ (s.lockdown.mode = .lockdown ∨ s.outside t)

/-- The directive unit does this and no more with a CONTROL write that passes (R23). -/
def State.examines (s u : State) (t : Transaction) (unit : DirectiveUnit) : Prop :=
  u.transaction = s.transaction.responding t.requester true [] ∧ s.storesOnly u t.address t.data ∧
    u.directive = unit ∧ s.changesOnly u [.transaction, .memory, .directive]

/-- A write stores its beats enciphered and is answered OKAY, and nothing else changes, but that a SCAN write to a SCAN
region raises the region's count and makes its slot the last scan write record (R12, R13, R16). -/
def State.storesEnciphered (s u : State) (t : Transaction) (i : Nat) (r : Region) (key : JobKey) : Prop :=
  let answered := s.transaction.responding t.requester true []
  u.transaction =
      (if s.roleOf t = .scan then
        { answered with
          regions := tset answered.regions i (some { r with body := r.body.countBeats t.beats })
          lastScanWrite := some r.slot }
      else answered) ∧
    s.storesOnly u t.address (encipherBeats key r.segment ((t.address - r.base) / 16) t.beats t.data) ∧
    s.changesOnly u [.transaction, .memory]

/-- A region has the form REGION_BIND admits (R5, R6). -/
def Region.lawful (r : Region) : Prop :=
  r.base % 4096 = 0 ∧ r.length % 4096 = 0 ∧ 4096 ≤ r.length ∧ r.length ≤ 268435456 ∧ r.base + r.length ≤ 2 ^ 40 ∧
    r.slot < 32 ∧ r.segment < 16

/-- A write that the grant table answers ENCIPHERED, in a region as REGION_BIND admits it, under a key that passes its
check (R12, R65, R72); the key's draw is one of those `Cipher` speaks of (log 6). -/
def State.writesEnciphered (s : State) (w : Transaction) (i : Nat) (r : Region) (j : JobRecord) (key : JobKey) : Prop :=
  passesPort w ∧ w.direction = .write ∧ s.inRegion w i r j ∧
    grantWrite j.phase.state r.kind (s.roleOf w) j.scanStop = .enciphered ∧ s.holdsKey r.slot key ∧ r.lawful ∧
    key.draw < 2 ^ 64

/-- A region entry as REGION_READ and REGION_UNBIND give it, value by value (R8, R9). -/
def State.regionValues (s : State) (i : Nat) : List Val :=
  match s.region i with
  | none =>
    [u8 0, opt 1 none, opt 1 none, opt 1 none, opt 1 none, opt 1 none, opt 1 none, opt 2 none, opt 4 none, opt 4 none,
     opt 4 none, opt 8 none]
  | some r =>
    let number := (s.jobAt r.slot).map JobRecord.number
    match r.body with
    | .scan beats =>
      [u8 1, u8 RegionKind.scan.code, u8 r.slot, u8 r.segment, opt 1 none, opt 1 none, opt 1 none, opt 2 number,
       u32 r.length, opt 4 none, u32 beats, u64 r.base]
    | .page f cursor =>
      let fields :=
        match f with
        | .atHeader => (ParserState.atHeader, none, 0)
        | .inPayload remaining plane => (ParserState.inPayload, some plane.code, remaining)
        | .broken => (ParserState.broken, none, 0)
      [u8 1, u8 RegionKind.page.code, u8 r.slot, u8 r.segment, u8 fields.1.code, opt 1 fields.2.1,
       flag8 (s.parser.openSide.map OpenSide.region == some i), opt 2 number, u32 r.length, u32 cursor,
       u32 fields.2.2, u64 r.base]

/-- A key store entry that fails its key check (R65). -/
def State.failsKeyCheck (s : State) (slot : Nat) : Prop := ∀ key, ¬ s.holdsKey slot key

/-- The transaction is refused with KEY_FAULT, and the fault is reported with the slot; nothing else changes (R14,
R65). -/
def State.refusesKeyFault (s u : State) (t : Transaction) (i : Nat) (r : Region) : Prop :=
  u.transaction = s.transaction.responding t.requester false [] ∧
    u.directive =
      s.directive.asked
        [accessNotice .keyFault
          [u8 t.requester, u8 (s.roleOf t).code, u8 (directionCode t.direction), u8 t.beats, u8 i, u64 t.address]
          s.now] ∧
    u.cipher = { s.cipher with reports := s.cipher.reports ++ [r.slot] } ∧
    s.changesOnly u [.transaction, .directive, .cipher]

/-- A VIDEO read that the grant table answers DECIPHERED for a PAGE region with its framing and cursor (R15). -/
def State.readsPage (s : State) (t : Transaction) (i : Nat) (r : Region) (j : JobRecord) (f : Framing)
    (cursor : Nat) : Prop :=
  passesPort t ∧ t.direction = .read ∧ s.roleOf t = .video ∧ s.inRegion t i r j ∧ r.body = .page f cursor ∧
    readsDeciphered j.kind j.phase.state .page .video = true

/-- The read is refused by the band parser with a FRAMING notice, and nothing else changes (R79). -/
def State.refusesFraming (s u : State) (t : Transaction) (i : Nat) (r : Region) (reason : FramingReason)
    (f : Framing) (cursor : Nat) : Prop :=
  u.transaction = s.transaction.responding t.requester false [] ∧
    u.directive =
      s.directive.asked
        [noticeOf (.framing reason)
          [u8 t.requester, u8 i, u8 r.slot, u8 t.beats, u8 f.state.code, u32 (t.address - r.base), u32 cursor]] ∧
    s.changesOnly u [.transaction, .directive]

/-- R79 refuses a read away from offset 0 by none of its tests. -/
def Framing.lets (f : Framing) (offset beats cursor : Nat) : Prop :=
  match f with
  | .broken => False
  | .atHeader => offset = cursor ∧ beats ≠ 1
  | .inPayload remaining _ =>
    offset = cursor ∧ ¬(cursor + remaining < offset + 16 * beats ∧ offset + 16 * beats < cursor + remaining + 32)

/-- The state with a region restarted: its open side abandoned with cause RESTART, and the region at a header with
cursor 0 (R80). -/
def State.restarted (s : State) (i : Nat) : State :=
  (if (s.openSideIn i).isSome = true then s.abandon .restart else s).setFraming i .atHeader 0

/-- The PAGE region of an index takes a framing and a cursor. -/
def TransactionUnit.framed (u : TransactionUnit) (i : Nat) (r : Region) (f : Framing) (cursor : Nat) :
    TransactionUnit :=
  { u with regions := tset u.regions i (some { r with body := .page f cursor }) }

/-- The FRAMING notice of a header at a cursor (R83, R84; log 21 for the parser state). -/
def headerNotice (t : Transaction) (i : Nat) (r : Region) (reason : FramingReason) (cursor : Nat) : NoticeRequest :=
  noticeOf (.framing reason)
    [u8 t.requester, u8 i, u8 r.slot, u8 t.beats, u8 ParserState.atHeader.code, u32 (t.address - r.base), u32 cursor]

/-- The read is refused at a header that fails its tests: an open side of the region is abandoned first, and the region
is BROKEN at the header (R83). -/
def State.breaksAtHeader (s u : State) (t : Transaction) (i : Nat) (r : Region) (reason : FramingReason)
    (cursor : Nat) : Prop :=
  let v := if (s.openSideIn i).isSome = true then s.abandon .framing else s
  u.transaction = (v.transaction.responding t.requester false []).framed i r .broken cursor ∧
    u.directive = v.directive.asked [headerNotice t i r reason cursor] ∧ v.changesOnly u [.transaction, .directive]

/-- The read is refused at a header that ends after it, and nothing else changes (R84). -/
def State.splitsHeader (s u : State) (t : Transaction) (i : Nat) (r : Region) (cursor : Nat) : Prop :=
  u.transaction = s.transaction.responding t.requester false [] ∧
    u.directive = s.directive.asked [headerNotice t i r .headerSplit cursor] ∧
    s.changesOnly u [.transaction, .directive]

/-- The read of some of a transaction's beats. -/
def partOf (t : Transaction) (first beats : Nat) : Transaction :=
  { t with address := t.address + 16 * first, beats := beats }

/-- The first beats of a VIDEO read, taken alone, pass and leave the region at a header where they end; `w` is the state
after them (R81). -/
def State.passesTo (s w : State) (t : Transaction) (i : Nat) (r : Region) (j : JobRecord) (key : JobKey)
    (n : Nat) : Prop :=
  0 < n ∧ n < t.beats ∧ (∃ f cursor, s.readsPage t i r j f cursor) ∧ s.holdsKey r.slot key ∧
    exec (.subordinateTransaction (partOf t 0 n)) s = .next w ∧
    (∃ data, w.transaction.response = some { requester := t.requester, okay := true, data := data }) ∧
    (w.region i).map Region.body = some (.page .atHeader (t.address - r.base + 16 * n)) ∧
    ∃ r' j', w.inRegion (partOf t n 2) i r' j'

/-! ## Sides and sheets -/

/-- The grant table answers DECIPHERED for a VIDEO read at the cursor of a PAGE region that stands at a header, the key
passes its check, and the header's bytes are these once deciphered (R15, R65, R81). -/
def State.meetsHeader (s : State) (t : Transaction) (i : Nat) (r : Region) (j : JobRecord) (cursor : Nat) (key : JobKey)
    (plain : List Byte) : Prop :=
  s.readsPage t i r j .atHeader cursor ∧ t.address - r.base = cursor ∧ 2 ≤ t.beats ∧ s.holdsKey r.slot key ∧
    plain = decipherBeats key r.segment (cursor / 16) t.beats (s.stored t)

/-- A committed side at its account (R100 step 2). -/
def Account.committed (a : Account) (r : SideRecord) : Account :=
  let counted : Account :=
    if r.isColour = true then
      { a with periodColour := min top32 (a.periodColour + 1), lifeColour := min top32 (a.lifeColour + 1) }
    else { a with periodMono := min top32 (a.periodMono + 1), lifeMono := min top32 (a.lifeMono + 1) }
  { counted with
    balance := a.balance - r.charge
    reserved := a.reserved - r.reservation
    overdraft := if 0 < r.charge ∧ a.balance - r.charge < 0 then min top32 (a.overdraft + 1) else a.overdraft }

/-- The OVERDRAFT notices of sides committed in order to an account (R100 step 2). -/
def Account.overdrafts (i : Nat) : Account → List SideRecord → List NoticeRequest
  | _, [] => []
  | a, r :: rest =>
    (if 0 < r.charge ∧ a.balance - r.charge < 0 then
      [noticeOf .overdraft [u16 i, u16 r.charge, i32 (a.balance - r.charge)]]
    else []) ++ Account.overdrafts i (a.committed r) rest

/-- A committed side at its job (R100 step 3). -/
def JobRecord.committed (j : JobRecord) (r : SideRecord) : JobRecord :=
  if r.isColour = true then { j with inQueue := j.inQueue - 1, colour := min top32 (j.colour + 1) }
  else { j with inQueue := j.inQueue - 1, mono := min top32 (j.mono + 1) }

/-- A committed side in the working totals (R100 step 4). -/
def Totals.committed (t : Totals) (r : SideRecord) : Totals :=
  if r.isColour = true then { t with colour := min (2 ^ 64 - 1) (t.colour + 1) }
  else { t with mono := min (2 ^ 64 - 1) (t.mono + 1) }

/-- A bank trigger with a serial or none (R157, R158). -/
def MeterUnit.triggered (m : MeterUnit) (serial : Option SerialTag) (now : Nat) : MeterUnit :=
  match m.bank with
  | none =>
    { m with
      bank := some { captured := m.working, serial := serial, began := now }
      bankAgain := false, pending := none, sinceBank := 0 }
  | some _ => { m with bankAgain := true, pending := if serial.isSome then serial else m.pending }

/-- The oldest sheet leaves the queue with sides committed (R99 to R101): its account is charged, its job's counts and
the meter totals move, a CLOSING job with no side left completes its close, and the notices given follow. -/
def State.delivers (s u : State) (h : Sheet) (rest : List Sheet) (sides : List SideRecord)
    (notices : List NoticeRequest) : Prop :=
  let a := s.accountAt h.account
  let totals := sides.foldl Totals.committed s.meter.working
  let m : MeterUnit :=
    { s.meter with
      working := { totals with sheets := min (2 ^ 64 - 1) (totals.sheets + 1) }
      sinceBank := min 65535 (s.meter.sinceBank + 1) }
  u.charging = { s.charging with sheets := rest } ∧
    u.account =
      { s.account with
        accounts := tset s.account.accounts h.account (sides.foldl Account.committed a)
        pristine := false } ∧
    u.meter = (if s.meter.sinceBank + 1 = 256 then m.triggered none s.now else m) ∧
    s.changesOnly u [.charging, .account, .meter, .directive, .job, .cipher, .transaction] ∧
    let asked := s.directive.asked (Account.overdrafts h.account a sides ++ notices)
    match h.owner with
    | .orphan => u.directive = asked ∧ s.changesOnly u [.charging, .account, .meter, .directive]
    | .job slot =>
      match s.jobAt slot with
      | none => u.directive = asked ∧ s.changesOnly u [.charging, .account, .meter, .directive]
      | some j =>
        let k := sides.foldl JobRecord.committed j
        match k.phase, k.inQueue with
        | .closing c, 0 =>
          u.directive = asked.handed (k.closed slot c.summary c.parked .drained 0 0 s.now) ∧ s.freesSlot u slot
        | _, _ =>
          u.directive = asked ∧ u.job.slots = tset s.job.slots slot (some k) ∧
            s.changesOnly u [.charging, .account, .meter, .directive, .job]

/-- The SHEET_EARLY notice (R99). -/
def State.early (s : State) (h : Sheet) (sides charged : Nat) : NoticeRequest :=
  noticeOf .sheetEarly
    [u8 h.state.code, u8 h.owner.code, opt 2 (s.ownerNumber h.owner), u16 h.account, u8 sides, u16 charged]

/-! ## Consumables and the cartridge bus -/

/-- The link queue after a request: a full queue admits none, an equal entry is joined, and any other becomes the newest
(R145). -/
def admitted (queue : List LinkEntry) (e : LinkEntry) : List LinkEntry :=
  if 8 ≤ queue.length then queue else if e ∈ queue then queue else queue ++ [e]

/-- A consumable record cleared into a state with its low mark kept (R127). -/
def clearedRecord (state : ConsumableState) (lowMark : Nat) (authPending : Bool) : Consumable :=
  { state := state, chip := none, partialDots := 0, unsynced := 0, syncCapture := none, overrun := 0
    lowMark := lowMark, recheckDue := none, rejectReason := none, authPending := authPending, parkedCheck := none
    syncRefused := false }

/-- A presence line whose level has differed from its settled level for 50 ms (R128). -/
def State.settles (s : State) (p : Nat) (level : Bool) : Prop :=
  let line := tget s.consumable.presence p
  p < 5 ∧ line.level = level ∧ line.settled = !level ∧ line.since + 50000 ≤ s.now

/-- The consumable unit with one record and one presence line replaced. -/
def ConsumableUnit.changed (u : ConsumableUnit) (p : Nat) (r : Consumable) (line : PresenceLine) : ConsumableUnit :=
  { u with records := tset u.records p r, presence := tset u.presence p line }

/-- A record after a position's pending interval has taken effect at the epoch boundary (R139). -/
def State.scheduled (s : State) (p : Nat) : Consumable :=
  let r := s.consumableAt p
  match (tget s.consumable.schedule p).pending with
  | some interval =>
    if r.state = .genuine then
      { r with recheckDue := if interval = 0 then none else some (s.now / 1000000 + interval) }
    else r
  | none => r

/-- The interval in force after the boundary (R139). -/
def State.intervalAfter (s : State) (p : Nat) : Nat :=
  (tget s.consumable.schedule p).pending.getD (tget s.consumable.schedule p).interval

/-- A record that makes a SYNC necessary (R135, R136, R139). -/
abbrev Consumable.wantsSync (r : Consumable) : Prop :=
  (r.state = .genuine ∧ 1024 ≤ r.unsynced) ∨ (r.state = .exhausted ∧ 0 < r.unsynced)

/-- The first case of R139 that applies to a position, as the kind of link entry it requests. -/
def State.boundaryRequest (s : State) (p : Nat) : Option LinkKind :=
  let r := s.scheduled p
  let sync := if r.wantsSync ∧ { position := p, kind := .sync } ∉ s.link.queue then some LinkKind.sync else none
  match r.state, r.recheckDue with
  | .genuine, some due => if due ≤ s.now / 1000000 then some .recheck else sync
  | .authenticating, _ => if r.authPending = true then some .authenticate else none
  | _, _ => sync

/-- A position's record becomes `r`, and where `asks` holds a SYNC is requested for it, which a full queue refuses
(R145; log 40); the other records are as they were. -/
def State.becomes (s u : State) (p : Nat) (r : Consumable) (asks : Bool) : Prop :=
  u.consumableAt p = (if asks = true then { r with syncRefused := decide (8 ≤ s.link.queue.length) } else r) ∧
    u.link =
      (if asks = true then { s.link with queue := admitted s.link.queue { position := p, kind := .sync } }
       else s.link) ∧
    ∀ q, q ≠ p → u.consumableAt q = s.consumableAt q

/-- A record that a failing check takes out of use (R132, R133, R136). -/
def Consumable.failed (r : Consumable) (result : CheckResult) : Consumable :=
  { r with
    state := if result = .linkFailed then .linkFault else .rejected
    rejectReason :=
      some
        (match result with
         | .wrongPosition => .wrongPosition
         | .badResponse => .badResponse
         | .serialChanged => .serialChanged
         | _ => .linkFailed)
    recheckDue := none, authPending := false }

/-- The ACCEPTED, REJECTED, LINK_FAULT and CHECK_FAILED notices, with what IDENTIFY gave (R132). -/
def checkNotice (kind : NoticeKind) (p : Nat) (entry : LinkKind) (result : CheckResult) (state : ConsumableState)
    (identity : Option Identity) : NoticeRequest :=
  noticeOf kind
    [u8 p, u8 entry.code, u8 result.code, u8 state.code, opt 2 (identity.map Identity.modelCode),
     opt 8 (identity.map Identity.serial)]

/-- The notice of a failing check that takes a record out of use (R132, R133). -/
def failNotice (p : Nat) (entry : LinkKind) (result : CheckResult) (identity : Option Identity) : NoticeRequest :=
  if result = .linkFailed then checkNotice .linkFault p entry result .linkFault identity
  else checkNotice .rejected p entry result .rejected identity

/-- A well-formed reply frame of a chip with its check and odd parity (R147, 13.8). -/
def chipReply (position status : Nat) (data : List Byte) : List LinkByte :=
  let body := leBytes 1 (128 + position) ++ leBytes 1 status ++ leBytes 1 data.length ++ data
  (body ++ leBytes 2 ((body.map BitVec.toNat).sum % 65536)).map withOddParity

/-- An entry is running as the oldest, with these fields. -/
def State.runs (s : State) (e : LinkEntry) (rest : List LinkEntry) (r : Running) : Prop :=
  s.link.queue = e :: rest ∧ s.link.running = some r

/-- The running entry's fields replaced. -/
def LinkUnit.nowRunning (u : LinkUnit) (r : Running) : LinkUnit := { u with running := some r }

/-- The oldest entry has ended; the line is IDLE, or QUIET from a time (R146). -/
def LinkUnit.ended (u : LinkUnit) (quietSince : Option Nat) : LinkUnit :=
  { queue := u.queue.tail, running := none, quietSince := quietSince }

/-- These bytes of a reply, each accepted, are what has been received in the attempt under way (R150). -/
def Running.received (r : Running) (got : List LinkByte) : Prop :=
  (got = [] ∧ ∃ since, r.phase = .awaitingReply since) ∨
    ∃ since, r.phase = .receiving (got.map LinkByte.value) since

/-- A byte in the place of byte `n` of a well-formed reply to a command that fails a test of R148: its parity, an
address, length or check byte of another value, or a status the command does not allow. -/
def failsTest (command : LinkCommand) (reply : List LinkByte) (n : Nat) (b : LinkByte) : Prop :=
  hasOddParity b = false ∨
    if n = 1 then 2 < b.value.toNat ∨ (b.value.toNat = 2 ∧ command ≠ .writeYield)
    else (n < 3 ∨ reply.length ≤ n + 2) ∧ (reply.map LinkByte.value)[n]? ≠ some b.value

/-- An attempt fails (R150): the line passes through QUIET; after a second attempt the entry ends with LINK_FAILED, and
its report carries what the entry had gathered (R146, R151, R153). -/
def State.failsAttempt (s t : State) (e : LinkEntry) (r : Running) : Prop :=
  if r.secondAttempt = false then
    t.link = s.link.nowRunning { r with phase := .quiet s.now } ∧ s.changesOnly t [.link]
  else
    let left := s.setLink (s.link.ended (some s.now))
    t =
      match e.kind with
      | .authenticate => left.authenticateEnd e.position .linkFailed r.identity
      | .recheck => left.recheckEnd e.position .linkFailed r.identity
      | .sync => left.syncFailed e.position

/-- The fields of an entry at the beginning of its first attempt (R144). -/
def Running.begun (frame : List LinkByte) (capture : Option Nat) : Running :=
  { secondExchange := false, secondAttempt := false, phase := .sending frame, identity := none, chipYield := none
    nonce := none, capture := capture }

/-- An entry begins at once: IDENTIFY, or for a SYNC READ_YIELD with the sync capture taken at the record (R136, R146,
R151). -/
def State.begins (s t : State) (e : LinkEntry) : Prop :=
  match e.kind with
  | .sync =>
    let r := s.consumableAt e.position
    t.link.running = some (.begun (requestFrame e.position .readYield []) (some r.unsynced)) ∧
      t.consumable =
        { s.consumable with records := tset s.consumable.records e.position { r with syncCapture := some r.unsynced } }
  | _ =>
    t.link.running = some (.begun (requestFrame e.position .identify []) none) ∧ t.consumable = s.consumable

/-! ## Lockdown -/

/-- R166 by the part of the work: the meter unit after the entry, and of work that stops its parked reply and its
area. -/
def MeterUnit.atEntry (m : MeterUnit) : MeterUnit × Option (Parked × Nat × AreaSource) :=
  match m.work, m.bank.bind Bank.serial with
  | .none, _ => (m, none)
  | .composing c, _ => ({ m with work := .none }, some (c.parked, c.base, .snapshotArea))
  | .banking base _ parked, none => ({ m with work := .none, pending := none }, some (parked, base, .snapshotArea))
  | .banking _ _ _, some _ => (m, none)
  | .restoring base parked _, _ => ({ m with work := .none }, some (parked, base, .restoreArea))

/-- The CLOSING jobs in order of slot (R60). -/
def State.closings (s : State) : List Closing :=
  (List.range 32).filterMap fun i =>
    match (s.jobAt i).map JobRecord.phase with
    | some (.closing c) => some c
    | _ => none

/-- The state with the mode and the cause changed, the notice LOCKDOWN_ENTERED asked for and ATTN high, and then the
open side abandoned, if there is one (R168 step 1, R37). With no open side nothing but these three differs from before.
-/
def State.lockedStep1 (s : State) (cause : LockdownCause) (slot requester : Option Nat) : State :=
  State.abandon
    { s with
      lockdown := { s.lockdown with mode := .lockdown, cause := some cause }
      directive :=
        { s.directive.asked [noticeOf .lockdownEntered [u8 cause.code, opt 1 slot, opt 1 requester]] with
          attn := true } }
    .lockdown

/-- A lockdown cause taken in NORMAL mode, as R168 and its table give its effects at every block, with the slot or the
requester that the notice carries; `own` is the LOCKDOWN directive's own reply (R170). The sheets keep their order, side
records and reservations (R111); closes, then meter work that stops, then the waiting directives are answered LOCKED
(R30, R60, R166), and the areas of the first two leave the owned-area list. -/
def State.entersLockdown (s t : State) (cause : LockdownCause) (slot requester : Option Nat) (own : List WriterItem) :
    Prop :=
  let b := s.lockedStep1 cause slot requester
  let stopped := s.meter.atEntry.2.toList
  t.lockdown = b.lockdown ∧ t.parser.openSide = none ∧
    t.charging = { b.charging with sheets := b.charging.sheets.map fun h => { h with owner := .orphan } } ∧
    t.cipher = { b.cipher with keys := t.cipher.keys } ∧ (∀ i, (tget t.cipher.keys i : Option KeyEntry) = none) ∧
    t.transaction = { b.transaction with regions := t.transaction.regions, lastScanWrite := none } ∧
    (∀ i, t.region i = none) ∧ (∀ i, t.jobAt i = none) ∧ t.meter = s.meter.atEntry.1 ∧
    t.directive =
      { b.directive with
        executing := t.directive.executing
        queue := []
        owned :=
          b.directive.owned.filter fun a =>
            !(s.closings.any (fun c => c.summary == some a.base) && a.source == .closeSummary) &&
              !stopped.any fun w => a.base == w.2.1 && a.source == w.2.2
        writes :=
          b.directive.writes ++ s.closings.map (fun c => c.parked.reply .locked s.now) ++
            stopped.map (fun w => w.1.reply .locked s.now) ++ own ++
            s.directive.queue.map fun d =>
              d.replyOf (s.generalAnswer d .locked .none) (s.replyGeneration d.code d.operands) s.now } ∧
    b.changesOnly t [.lockdown, .parser, .charging, .cipher, .transaction, .job, .meter, .directive]

/-- A lockdown cause taken in LOCKDOWN: a LOCKDOWN_REPEAT notice and nothing else (R169). -/
def DirectiveUnit.repeats (u : DirectiveUnit) (cause : LockdownCause) (slot requester : Option Nat) : DirectiveUnit :=
  u.asked [noticeOf .lockdownRepeat [u8 cause.code, opt 1 slot, opt 1 requester]]

/-! ## What the manual promises of every state -/

/-- Page memory is in its canonical form. -/
def State.memoryCanonical (s : State) : Prop := Memory.wf s.memory = true

/-- The tables that name a job slot agree with the job table: a key is PRESENT exactly where the slot is not FREE (R63),
every bound region belongs to a slot that is not FREE (R6), the last scan write record names such a slot (R16), and no
two slots hold one job number (R41). -/
def State.tablesAgree (s : State) : Prop :=
  (∀ slot < 32, (tget s.cipher.keys slot : Option KeyEntry).isSome = (s.jobAt slot).isSome) ∧
    (∀ i < 64, ∀ r ∈ s.region i, (s.jobAt r.slot).isSome = true) ∧
    (∀ slot ∈ s.transaction.lastScanWrite, (s.jobAt slot).isSome = true) ∧
    (∀ a < 32, ∀ b < 32, a ≠ b → ∀ j ∈ s.jobAt a, ∀ k ∈ s.jobAt b, j.number ≠ k.number)

/-- The laws of the region table and of the owned-area list (R6, R31): no two bound regions overlap, no two owned areas
overlap, no bound region overlaps an owned area, and no two regions of a job have one segment number. -/
def State.areasLawful (s : State) : Prop :=
  (∀ i < 64, ∀ r ∈ s.region i, r.lawful) ∧
    (∀ i < 64, ∀ k < 64, i ≠ k → ∀ r ∈ s.region i, ∀ q ∈ s.region k,
      overlaps r.base r.length q.base q.length = false ∧ (r.slot = q.slot → r.segment ≠ q.segment)) ∧
    s.directive.owned.Pairwise (fun a b => overlaps a.base a.length b.base b.length = false) ∧
    (∀ i < 64, ∀ r ∈ s.region i, ∀ a ∈ s.directive.owned, overlaps r.base r.length a.base a.length = false)

/-- In LOCKDOWN no job, key, region, last scan write record or open side remains (R168). -/
def State.lockdownHoldsNoJob (s : State) : Prop :=
  s.lockdown.mode = .lockdown →
    (∀ slot < 32, s.jobAt slot = none) ∧ (∀ slot < 32, (tget s.cipher.keys slot : Option KeyEntry) = none) ∧
      (∀ i < 64, s.region i = none) ∧ s.transaction.lastScanWrite = none ∧ s.parser.openSide = none

/-- One set of totals is at or below another, total by total. -/
def Totals.le (a b : Totals) : Prop :=
  a.mono ≤ b.mono ∧ a.colour ≤ b.colour ∧ a.sheets ≤ b.sheets ∧ a.scans ≤ b.scans

/-- The greatest value of each total (R155). -/
def Totals.top : Totals :=
  { mono := 2 ^ 64 - 1, colour := 2 ^ 64 - 1, sheets := 2 ^ 64 - 1, scans := 2 ^ 64 - 1 }

/-- Each working total is never below its banked value, nor is what a running bank has captured, and none passes its top
(R156). -/
def State.metersOrdered (s : State) : Prop :=
  s.meter.cells.banked.le s.meter.working ∧ s.meter.working.le .top ∧
    ∀ b, s.meter.bank = some b → s.meter.cells.banked.le b.captured ∧ b.captured.le s.meter.working

/-- The queues are within their capacities, and the link queue holds no entry twice (R24, R94, R144, R145). -/
def State.queuesWithinCapacity (s : State) : Prop :=
  s.directive.queue.length ≤ 4 ∧ s.charging.sheets.length ≤ 8 ∧ s.link.queue.length ≤ 8 ∧ s.link.queue.Nodup ∧
    ∀ e ∈ s.link.queue, e.position < 5

/-- A snapshot's serial is the banked one plus one while it is in flight, and no bank carries a serial otherwise (R157,
R160, R162). -/
def State.serialInFlight (s : State) : Prop :=
  match s.meter.work with
  | .banking _ serial _ =>
    serial = s.meter.cells.serial + 1 ∧
      ∃ b, s.meter.bank = some b ∧
        ((b.serial.map SerialTag.serial = some serial ∧ s.meter.pending = none) ∨
          (b.serial = none ∧ s.meter.bankAgain = true ∧ s.meter.pending.map SerialTag.serial = some serial))
  | .composing c =>
    c.serial = s.meter.cells.serial + 1 ∧ (∀ b, s.meter.bank = some b → b.serial = none) ∧ s.meter.pending = none
  | _ => (∀ b, s.meter.bank = some b → b.serial = none) ∧ s.meter.pending = none

/-! ### The account law -/

/-- A side's reservation covers whatever it may be charged (R96, R100): it is the colour cost where the mask holds C, M
or Y and the mono cost otherwise, the colour cost is no lower, and no colour dot-level is counted outside the mask. -/
def SideRecord.covered (r : SideRecord) : Prop :=
  r.monoCost ≤ r.colourCost ∧ r.reservation = (if hasColour r.mask = true then r.colourCost else r.monoCost) ∧
    (hasColour r.mask = false → r.dots.colour = 0)

/-- The side of a sheet that is open while the sheet fills (R94). -/
def Sheet.filling (h : Sheet) : Option SideRecord :=
  match h.state with
  | .fillingFront => some h.front
  | .fillingBack => h.back
  | .awaitingBack | .complete => none

/-- A sheet of the queue (R94): its sides are covered, a back side stands only in FILLING_BACK and COMPLETE, its account
is in use, and its owner is a job that names that account. -/
def State.holdsSheet (s : State) (h : Sheet) : Prop :=
  (∀ r ∈ h.sides, r.covered) ∧ (h.state = .fillingFront ∨ h.state = .awaitingBack → h.back = none) ∧
    (h.state = .fillingBack → h.back ≠ none) ∧ h.name < s.charging.nextSheet ∧ h.account < 2048 ∧
    (s.accountAt h.account).state ≠ .unused ∧
    match h.owner with
    | .job slot => slot < 32 ∧ (s.jobAt slot).map JobRecord.account = some h.account
    | .orphan => h.state = .awaitingBack ∨ h.state = .complete

/-- The open side and the sheet it fills agree: side kind, mask, reservation and owner (R85, R94); its region is its
job's, and a payload that stands there is of a plane of the mask (R82). -/
def State.fills (s : State) (o : OpenSide) : Prop :=
  (hasColour o.mask = false → o.dots.colour = 0) ∧
    (∃ h ∈ s.charging.sheets, h.name = o.sheet ∧ h.owner = .job o.slot ∧
      h.state = (if o.kind = .back then .fillingBack else .fillingFront) ∧
      ∃ r, h.filling = some r ∧ r.mask = o.mask ∧ r.reservation = o.reservation) ∧
    ∃ r, s.region o.region = some r ∧ r.slot = o.slot ∧
      match r.body with
      | .page (.inPayload _ plane) _ => hasPlane o.mask plane = true
      | .page _ _ => True
      | .scan _ => False

/-- The sheet queue and the open side agree (R85, R94): names differ, every sheet is in order, and a sheet fills exactly
while the open side is its. -/
def State.sheetsAgree (s : State) : Prop :=
  (s.charging.sheets.map Sheet.name).Nodup ∧ (∀ h ∈ s.charging.sheets, s.holdsSheet h) ∧
    match s.parser.openSide with
    | some o => s.fills o ∧ ∀ h ∈ s.charging.sheets, h.filling ≠ none → h.name = o.sheet
    | none => ∀ h ∈ s.charging.sheets, h.filling = none

/-- A job's account is in use, and its sides in queue are the sides of the sheets it owns (R41, R49, R113). -/
def State.jobsAgree (s : State) : Prop :=
  ∀ slot < 32, ∀ j ∈ s.jobAt slot, j.account < 2048 ∧ (s.accountAt j.account).state ≠ .unused ∧
    j.inQueue = ((s.charging.sheets.filter fun h => h.owner == .job slot).map fun h => h.sides.length).sum

/-- R114 and R115 at one account, with the ranges of R112: its reserved amount is the sum over the sheet queue, the
balance less that amount is not below the floor, an UNMETERED account reserves nothing, and an account not in use holds
zeros beside its generation. -/
def State.accountLawful (s : State) (i : Nat) : Prop :=
  let a := s.accountAt i
  a.reserved = ((s.charging.sheets.filter fun h => h.account == i).map Sheet.reserved).sum ∧
    (a.mode = .prepaid → 0 ≤ a.balance - a.reserved) ∧
    (a.mode = .credit → -(a.creditLimit : Int) ≤ a.balance - a.reserved) ∧ (a.mode = .unmetered → a.reserved = 0) ∧
    -1000000 ≤ a.balance ∧ a.balance ≤ 2000000000 ∧ a.creditLimit ≤ 1000000 ∧
    (a.state = .unused → a = .unused a.generation)

/-- The ledger of the part: the account law with what keeps it (R108, R114, R115, R125). -/
def State.ledgerBalanced (s : State) : Prop :=
  (∀ i < 2048, s.accountLawful i) ∧ s.sheetsAgree ∧ s.jobsAgree ∧
    (∀ c < 8, (s.tariff c).mono ≤ (s.tariff c).colour) ∧
    (s.account.pristine = true → ∀ i < 2048, s.accountAt i = .unused 0)

end Sys2Proof.Machine
end

