-- ==== Sys2Proof/Certificates/Slice0/Obligations.lean ====
section
/-! DEFINITION. The statements about the FU-2480 for the provers, from the numbered rules of spec/. -/

open Sys2Proof Sys2Proof.Machine

/-! ## The step -/

/-- A step with a command at the front of the queue runs it on the state with the queue's rest. -/
def Obligations.StepRunsTheFrontCommand : Prop :=
  ∀ (c : Instr) (rest : List Instr) (s : State),
    step { s with pending := c :: rest } = exec c { s with pending := rest }

/-- On an empty queue the part's own clock runs: what has come due is queued; where nothing is due, one microsecond of
the 64-bit time counter passes (R39). The model's choices in it: log 3 for the clock, 33 for the wrap of the counter. -/
def Obligations.EmptyQueueRunsTheClock : Prop :=
  ∀ s : State, s.pending = [] →
    step s =
      .next
        (if s.dueSteps = [] then
          { s with directive := { s.directive with time := (s.directive.time + 1) % 2 ^ 64 } }
        else { s with pending := s.dueSteps })

/-! ## Transactions -/

/-- R2: a transaction whose first and last bytes lie in different pages is refused with SPLIT in every state, and one
that passes lies wholly inside or wholly outside each region whose base and length are multiples of 4 KiB. -/
def Obligations.TransactionAcrossAPageIsRefused : Prop :=
  (∀ (t : Transaction) (s : State), t.wellFormed = true →
    t.address / 4096 ≠ (t.address + 16 * t.beats - 1) / 4096 →
    ∃ u, exec (.subordinateTransaction t) s = .next u ∧ s.refusesAccess u t .split none) ∧
  (∀ (t : Transaction) (r : Region), t.wellFormed = true →
    t.address / 4096 = (t.address + 16 * t.beats - 1) / 4096 → r.base % 4096 = 0 → r.length % 4096 = 0 →
    ∀ a, t.address ≤ a → a < t.address + 16 * t.beats → r.holds a = r.holds t.address)

/-- R11: outside all bound regions in NORMAL mode, SCAN writes and VIDEO reads are refused with NO_REGION and
everything else passes. -/
def Obligations.OutsideRegionsAllButScanWritesAndVideoReadsPass : Prop :=
  ∀ (t : Transaction) (s : State), passesPort t → s.lockdown.mode = .normal → s.outside t → s.memoryCanonical →
    ∃ u, exec (.subordinateTransaction t) s = .next u ∧
      if (s.roleOf t = .scan ∧ t.direction = .write) ∨ (s.roleOf t = .video ∧ t.direction = .read) then
        s.refusesAccess u t .noRegion none
      else s.passes u t

/-- The table of R20: in LOCKDOWN the treatment goes by role alone. -/
def Obligations.InLockdownTheRoleAloneDecides : Prop :=
  ∀ (t : Transaction) (s : State), passesPort t → s.lockdown.mode = .lockdown → s.lockdownHoldsNoJob →
    s.memoryCanonical →
    ∃ u, exec (.subordinateTransaction t) s = .next u ∧
      if s.roleOf t = .scan ∨ s.roleOf t = .video ∨ s.roleOf t = .pipeline then s.refusesAccess u t .lockdown none
      else s.passes u t

/-- The last of R71: a read in a region that is not answered DECIPHERED is answered RAW or refused by role and state.
-/
def Obligations.ReadNotDecipheredIsRawOrRefused : Prop :=
  ∀ (t : Transaction) (s : State) (i : Nat) (r : Region) (j : JobRecord), passesPort t → t.direction = .read →
    s.inRegion t i r j → readsDeciphered j.kind j.phase.state r.kind (s.roleOf t) = false →
    ∃ u, exec (.subordinateTransaction t) s = .next u ∧
      if (s.roleOf t = .control ∧ j.phase.state ≠ .closing) ∨
          (s.roleOf t = .store ∧ (j.phase.state = .held ∨ j.phase.state = .closing)) then
        s.answersRead u t (s.stored t)
      else s.refusesAccess u t .noGrant (some i)

/-- R72: a write into a job region by role, region kind and state, under a key that passes its check. -/
def Obligations.WriteIntoARegionFollowsTheGrantTable : Prop :=
  ∀ (t : Transaction) (s : State) (i : Nat) (r : Region) (j : JobRecord) (key : JobKey), passesPort t →
    t.direction = .write → s.inRegion t i r j → s.holdsKey r.slot key → s.memoryCanonical →
    ∃ u, exec (.subordinateTransaction t) s = .next u ∧
      if s.roleOf t = .scan ∧ r.kind = .scan ∧ j.phase.state = .active then
        if j.scanStop = true then s.refusesAccess u t .scanStop (some i) else s.storesEnciphered u t i r key
      else if (s.roleOf t = .control ∨ s.roleOf t = .pipeline) ∧ r.kind = .page ∧
          (j.phase.state = .active ∨ j.phase.state = .released) then
        s.storesEnciphered u t i r key
      else if s.roleOf t = .store ∧ j.phase.state = .held then s.answersWrite u t t.data
      else s.refusesAccess u t .noGrant (some i)

/-- A read answered DECIPHERED that the band parser does not see returns each beat deciphered under the region's key,
segment number and the beat's offset, and changes nothing else (R12, R66). -/
def Obligations.DecipheredReadReturnsTheDecipheredBeats : Prop :=
  ∀ (t : Transaction) (s : State) (i : Nat) (r : Region) (j : JobRecord) (key : JobKey), passesPort t →
    t.direction = .read → s.inRegion t i r j → readsDeciphered j.kind j.phase.state r.kind (s.roleOf t) = true →
    ¬(s.roleOf t = .video ∧ r.kind = .page) → s.holdsKey r.slot key →
    ∃ u, exec (.subordinateTransaction t) s = .next u ∧
      s.answersRead u t (decipherBeats key r.segment ((t.address - r.base) / 16) t.beats (s.stored t))

/-- Only the roles of the table of R70 read deciphered bytes: whatever else a read is answered, it is answered with no
byte or with the bytes as memory holds them; and the roles are those the table gives kind by kind and state by state.
-/
def Obligations.OnlyTheRolesOfTheTableReadDeciphered : Prop :=
  (∀ (t : Transaction) (s u : State), t.direction = .read → exec (.subordinateTransaction t) s = .next u →
    (¬ ∃ i r j, s.inRegion t i r j ∧ readsDeciphered j.kind j.phase.state r.kind (s.roleOf t) = true) →
    u.transaction.response = some { requester := t.requester, okay := false, data := [] } ∨
      u.transaction.response = some { requester := t.requester, okay := true, data := s.stored t }) ∧
  (∀ (job : JobKind) (state : JobState) (kind : RegionKind) (role : Role),
    readsDeciphered job state kind role = true ↔
      (job, kind, state, role) ∈
        [(.copy, .scan, .active, .pipeline), (.copy, .page, .active, .pipeline), (.copy, .page, .active, .video),
         (.print, .page, .active, .control), (.print, .page, .active, .pipeline), (.print, .page, .active, .video),
         (.heldPrint, .page, .active, .control), (.heldPrint, .page, .active, .pipeline),
         (.heldPrint, .page, .released, .video), (.scanSend, .scan, .active, .pipeline),
         (.scanSend, .scan, .active, .control), (.scanBox, .scan, .active, .pipeline),
         (.scanBox, .scan, .released, .pipeline), (.scanBox, .scan, .released, .control),
         (.scanBox, .page, .released, .video)])

/-- A write ENCIPHERED and then read back DECIPHERED over the same beats returns the plaintext written (R18, R66). One
beat of plaintext written twice, under another key, under another segment number or at another beat offset, is stored
as two different beats of ciphertext (R66). The model's choices in it: log 6 for the bound on the draws of a key, 7 for
the name of a key. -/
def Obligations.PlaintextWrittenIsReadBack : Prop :=
  (∀ (w q : Transaction) (s : State) (i : Nat) (r : Region) (j : JobRecord) (key : JobKey), passesPort w →
    passesPort q → w.direction = .write → q.direction = .read → q.address = w.address → q.beats = w.beats →
    s.inRegion w i r j → grantWrite j.phase.state r.kind (s.roleOf w) j.scanStop = .enciphered →
    readsDeciphered j.kind j.phase.state r.kind (s.roleOf q) = true → ¬(s.roleOf q = .video ∧ r.kind = .page) →
    s.holdsKey r.slot key → s.memoryCanonical →
    ∃ u v, exec (.subordinateTransaction w) s = .next u ∧ exec (.subordinateTransaction q) u = .next v ∧
      v.transaction.response = some { requester := q.requester, okay := true, data := w.data }) ∧
  (∀ (w w' : Transaction) (s : State) (i i' : Nat) (r r' : Region) (j j' : JobRecord) (key key' : JobKey)
    (k k' : Nat), s.writesEnciphered w i r j key → s.writesEnciphered w' i' r' j' key' → s.memoryCanonical →
    k < w.beats → k' < w'.beats → (w.data.drop (16 * k)).take 16 = (w'.data.drop (16 * k')).take 16 →
    (key ≠ key' ∨ r.segment ≠ r'.segment ∨ (w.address - r.base) / 16 + k ≠ (w'.address - r'.base) / 16 + k') →
    ∃ u u', exec (.subordinateTransaction w) s = .next u ∧ exec (.subordinateTransaction w') s = .next u' ∧
      Memory.readBytes u.memory (w.address + 16 * k) 16 ≠ Memory.readBytes u'.memory (w'.address + 16 * k') 16)

/-- A transaction that needs the key of a slot whose entry fails its check is refused with KEY_FAULT, and the fault is
reported (R14, R65). A VIDEO read of a PAGE region that R79 lets through is refused likewise; at offset 0 its region has
been restarted before the key is checked (R80). The model's choices in it: log 21 for the restart before the check, 28
for the report. -/
def Obligations.FailedKeyCheckRefusesTheTransaction : Prop :=
  (∀ (t : Transaction) (s : State) (i : Nat) (r : Region) (j : JobRecord), passesPort t → s.inRegion t i r j →
    s.failsKeyCheck r.slot →
    (grant j.kind j.phase.state r.kind (s.roleOf t) t.direction j.scanStop = .enciphered ∨
      (grant j.kind j.phase.state r.kind (s.roleOf t) t.direction j.scanStop = .deciphered ∧
        ¬(s.roleOf t = .video ∧ r.kind = .page))) →
    ∃ u, exec (.subordinateTransaction t) s = .next u ∧ s.refusesKeyFault u t i r) ∧
  (∀ (t : Transaction) (s : State) (i : Nat) (r : Region) (j : JobRecord) (f : Framing) (cursor : Nat),
    s.readsPage t i r j f cursor → s.failsKeyCheck r.slot →
    (t.address = r.base ∨ f.lets (t.address - r.base) t.beats cursor) →
    ∃ u, exec (.subordinateTransaction t) s = .next u ∧
      (if t.address = r.base then s.restarted i else s).refusesKeyFault u t i r)

/-- The tests of R23 on a CONTROL write that passes, in order. The model's choices in it: log 8 for the tag verdict. -/
def Obligations.ControlWriteIsExaminedForADirective : Prop :=
  ∀ (t : Transaction) (s : State), s.passesControlWrite t → s.memoryCanonical →
    ∃ u, exec (.subordinateTransaction t) s = .next u ∧
      s.examines u t
        (if t.beats ≠ 4 ∨ t.address % 64 ≠ 0 ∨ t.data.take 8 ≠ directiveMarker then s.directive
         else if s.overlapsOwned t.address 64 = true then
           s.directive.asked [noticeOf .placement [u8 t.requester, u64 t.address]]
         else if t.tagVerifies = false then
           s.directive.asked [noticeOf .tagFail [u8 t.requester, u64 t.address]]
         else
           { s.directive with
             recognised := s.directive.recognised ++ [Directive.ofBytes t.data t.address t.requester]
             owned := s.directive.owned ++ [{ base := t.address, length := 64, source := .replyLocation }] })

/-! ## Directives: entry, execution, replies -/

/-- R24: what becomes of the oldest recognised directive of a requester when its write has been completed, with the
general tests of R25 where it becomes executing at once. R25: when the executing directive's reply has been written,
the oldest waiting directive becomes executing and meets the two general tests. The model's choices in it: log 17 for
the results of an entry answered at once, 18 for the generation field. -/
def Obligations.DirectivesAreEnteredAndExecutedInOrder : Prop :=
  (∀ (s : State) (requester : Nat) (before after : List Directive) (d : Directive),
    s.directive.recognised = before ++ d :: after → (∀ x ∈ before, x.requester ≠ requester) →
    d.requester = requester → (s.directive.executing = none → s.directive.queue = []) →
    ∃ t, exec (.directiveEntry requester) s = .next t ∧ s.changesOnly t [.directive] ∧
      let u : DirectiveUnit := { s.directive with recognised := before ++ after }
      let g := s.replyGeneration d.code d.operands
      t.directive =
        if s.lockdown.mode = .lockdown ∧ d.code ≠ DirectiveName.status.code ∧
            d.code ≠ DirectiveName.recover.code then
          u.handed [d.replyOf .locked g s.now]
        else if ∀ n ∈ DirectiveName.all, n.code ≠ d.code then u.handed [d.replyOf ⟨.unknown, .none, []⟩ g s.now]
        else if 4 ≤ s.directive.queue.length then u.handed [d.replyOf ⟨.busy, .none, []⟩ g s.now]
        else if s.directive.executing ≠ none then { u with queue := u.queue ++ [d] }
        else if d.badFlag = true then u.answered d (s.generalAnswer d .refusedRange .badFlag) g
        else { u with executing := some { directive := d, phase := .running } }) ∧
  (∀ (s : State) (d n : Directive) (more : List Directive) (r : Reply) (rest : List WriterItem),
    s.directive.executing = some { directive := d, phase := .replying } → s.directive.writes = .reply r :: rest →
    r.location = d.location → s.directive.queue = n :: more →
    ∃ t, exec .replyWriteDone s = .next t ∧
      let g := s.replyGeneration n.code n.operands
      t.directive.queue = more ∧
        if n.badFlag = true then
          t.directive.executing = some { directive := n, phase := .replying } ∧
            t.directive.writes = rest ++ [n.replyOf (s.generalAnswer n .refusedRange .badFlag) g s.now]
        else if s.lockdown.mode = .lockdown ∧ n.code ≠ DirectiveName.status.code ∧
            n.code ≠ DirectiveName.recover.code then
          t.directive.executing = some { directive := n, phase := .replying } ∧
            t.directive.writes = rest ++ [n.replyOf (s.generalAnswer n .locked .none) g s.now]
        else
          t.directive.executing = some { directive := n, phase := .running } ∧ t.directive.writes = rest)

/-- The writers take their oldest work whole: a reply, whether directives wait behind it or none does, and a job summary
replace the 64 bytes at their location, which leaves the owned-area list (R27, R56), and a notice goes into the ring's
head entry or is discarded (R34, R37). -/
def Obligations.WritersTakeTheirOldestWork : Prop :=
  (∀ (s : State) (r : Reply) (rest : List WriterItem), s.directive.writes = .reply r :: rest → s.memoryCanonical →
    ∃ t, exec .replyWriteDone s = .next t ∧ r.bytes.length = 64 ∧ s.storesOnly t r.location r.bytes ∧
      (let owned := s.directive.owned.filter fun a => !(a.base == r.location && a.source == .replyLocation)
       if s.awaitsReplyAt r.location = true then
         t.directive =
             { s.directive with
               owned := owned, writes := t.directive.writes, executing := t.directive.executing
               queue := s.directive.queue.tail } ∧
           (s.directive.queue = [] → t.directive.writes = rest ∧ t.directive.executing = none)
       else t.directive = { s.directive with writes := rest, owned := owned }) ∧
      s.changesOnly t [.directive, .memory]) ∧
  (∀ (s : State) (location : Nat) (m : JobSummary) (rest : List WriterItem),
    s.directive.writes = .summary location m :: rest → s.memoryCanonical →
    ∃ t, exec .summaryWriteDone s = .next t ∧ m.bytes.length = 64 ∧ s.storesOnly t location m.bytes ∧
      t.directive =
        { s.directive with
          writes := rest
          owned := s.directive.owned.filter fun a => !(a.base == location && a.source == .closeSummary) } ∧
      s.changesOnly t [.directive, .memory]) ∧
  (∀ (s : State) (q : NoticeRequest) (rest : List NoticeRequest), s.directive.notices = q :: rest →
    s.memoryCanonical →
    ∃ t, exec .noticeWrite s = .next t ∧ (q.bytes s.now).length = 32 ∧
      match s.directive.ring with
      | none => t.directive = { s.directive with notices := rest } ∧ s.changesOnly t [.directive]
      | some r =>
        s.storesOnly t (r.base + 32 * r.head) (q.bytes s.now) ∧
          t.directive =
            { s.directive with
              notices := rest
              ring := some { r with head := (r.head + 1) % r.count, written := r.written + 1 }
              attn := s.directive.attn || inMask s.directive.mask q.kind.noticeClass } ∧
          s.changesOnly t [.directive, .memory])

/-- R25, R30: a directive that its owner takes in LOCKDOWN, but for STATUS and RECOVER, is answered LOCKED and changes
nothing; the reply to SET_ROLES carries the role table (R4). R28: a directive whose reply carries an outcome other than
DONE has changed nothing but the directive unit's own hold of the reply. LOCKDOWN, whose outcome is always DONE, hands
further replies behind its own. The model's choices in it: log 17 and 18 for what such a reply carries. -/
def Obligations.DirectivesNotDoneChangeNothing : Prop :=
  (∀ (s : State) (name : DirectiveName) (d : Directive), s.awaitsOwner name d → s.lockdown.mode = .lockdown →
    name ≠ .status → name ≠ .recover →
    ∃ t, exec name.command s = .next t ∧
      s.answers t d ⟨.locked, .none, if name = .setRoles then layout s.roleView else []⟩
        (s.replyGeneration d.code d.operands) []) ∧
  (∀ (s t : State) (name : DirectiveName) (d : Directive), s.awaitsOwner name d → name ≠ .lockdown →
    d ∉ s.directive.queue → exec name.command s = .next t →
    t.directive.executing = some { directive := d, phase := .replying } →
    ∃ a g, t.directive.writes.getLast? = some (d.replyOf a g s.now) ∧
      (a.outcome ≠ .done → s.answers t d a g []))

/-- The directives that only read are answered DONE with their results, or refused with BAD_OPERAND where an operand is
out of its range, and change nothing (R9, R40, R48, R110, R122, R142, R165): the results are spelled out value by value.
STATUS is executed in both modes. The model's choices in it: log 13 for the owner byte of an ORPHAN sheet, 18 for the
generation of a refused reply, 19 for widths and absent values, 32 for the next image, 34 for the floor of an UNMETERED
account. -/
def Obligations.ReadingDirectivesAnswerAndChangeNothing : Prop :=
  (∀ (s : State) (d : Directive), s.awaitsOwner .status d →
    ∃ t, exec .status s = .next t ∧
      (let ring := (s.directive.ring.map fun r => (r.head, r.written.toNat)).getD (0, 0)
       s.completes t d
         [u8 s.lockdown.mode.code, opt 1 (s.lockdown.cause.map LockdownCause.code), u8 s.lockdown.resetCause.code,
          u8 ((tlist s.job.slots).countP Option.isNone), u8 ((tlist s.transaction.regions).countP Option.isNone),
          u8 s.charging.sheets.length, u16 ring.1, u32 ring.2, flag8 s.directive.ring.isSome, flag8 s.directive.attn,
          u64 s.directive.time, flag8 s.account.pristine, u32 s.meter.cells.serial]
         0 [])) ∧
  (∀ (s : State) (d : Directive), s.takes .regionRead d →
    ∃ t, exec .regionRead s = .next t ∧
      let i := d.arg regionIndexForm 0
      if 63 < i then s.refuses t d .refusedRange .badOperand 0 else s.completes t d (s.regionValues i) 0 []) ∧
  (∀ (s : State) (d : Directive), s.takes .jobRead d →
    ∃ t, exec .jobRead s = .next t ∧
      let slot := d.arg jobReadForm 0
      let view := d.arg jobReadForm 1
      if 31 < slot ∨ 1 < view then s.refuses t d .refusedRange .badOperand 0
      else
        s.completes t d
          (match s.jobAt slot with
           | none => [u8 JobState.free.code]
           | some j =>
             if view = 0 then
               let close :=
                 match j.phase with
                 | .closing c => (some (if c.summary = none then 0 else 1), some c.deadline)
                 | _ => (none, none)
               [u16 j.number, u8 j.kind.code, u8 j.phase.state.code, u16 j.account, u8 j.tariff, flag8 j.scanStop,
                u16 j.limit, u8 ((tlist s.transaction.regions).countP fun e => e.map Region.slot == some slot),
                opt 1 close.1, u64 j.opened, opt 8 close.2]
             else
               [u32 j.mono, u32 j.colour, u8 j.inQueue, u32 j.abandoned, u32 j.jammed, u32 j.scanPages,
                u32 j.unpaidPages, u16 j.releases])
          0 []) ∧
  (∀ (s : State) (d : Directive), s.takes .accountRead d →
    ∃ t, exec .accountRead s = .next t ∧
      let i := d.arg accountReadForm 0
      let view := d.arg accountReadForm 1
      let a := s.accountAt i
      if 2047 < i ∨ 1 < view then s.refuses t d .refusedRange .badOperand (if 2047 < i then 0 else a.generation)
      else
        s.completes t d
          (if view = 0 then
            [u8 a.state.code, u8 a.mode.code, flag8 a.colour, u32 a.creditLimit, i32 a.balance, u32 a.reserved,
             i32 (if a.mode = .credit then -(a.creditLimit : Int) else 0), u32 a.unpaid, u32 a.overdraft,
             u32 s.account.period.toNat]
           else
            [u32 a.periodMono, u32 a.periodColour, u32 a.periodScan, u32 a.lifeMono, u32 a.lifeColour, u32 a.lifeScan,
             u32 a.lifeJammed])
          a.generation []) ∧
  (∀ (s : State) (d : Directive), s.takes .sheetsRead d →
    ∃ t, exec .sheetsRead s = .next t ∧
      let position := d.arg sheetsReadForm 0
      if 7 < position then s.refuses t d .refusedRange .badOperand 0
      else
        let h := s.charging.sheets[position]?
        let side := fun (r : Option SideRecord) =>
          [opt 1 (r.map fun r => r.kind.code), opt 1 (r.map fun r => r.mask.toNat),
           opt 2 (r.map SideRecord.reservation),
           opt 1 (r.map fun r => if r.complete = true then 1 else 0),
           opt 1
            (r.bind fun r =>
              if r.complete = true then some (if 0 < r.dots.c + r.dots.m + r.dots.y then 1 else 0) else none)]
        s.completes t d
          ([u8 s.charging.sheets.length, flag8 s.parser.openSide.isSome,
            opt 1 (s.parser.openSide.bind fun o => s.charging.sheets.findIdx? fun h => h.name == o.sheet),
            opt 1
              (h.map fun h =>
                match h.owner with
                | .job slot => slot
                | .orphan => Config.orphanOwnerCode.toNat),
            opt 2
              (h.bind fun h =>
                match h.owner with
                | .job slot => (s.jobAt slot).map JobRecord.number
                | .orphan => none),
            opt 2 (h.map Sheet.account), opt 1 (h.map fun h => h.state.code)] ++
            side (h.map Sheet.front) ++ side (h.bind Sheet.back))
          0 []) ∧
  (∀ (s : State) (d : Directive), s.takes .consumableRead d →
    ∃ t, exec .consumableRead s = .next t ∧
      let p := d.arg consumableReadForm 0
      let view := d.arg consumableReadForm 1
      if 4 < p ∨ 1 < view then s.refuses t d .refusedRange .badOperand 0
      else
        let r := s.consumableAt p
        let e := tget s.consumable.schedule p
        let held := fun (kind : LinkKind) => if { position := p, kind := kind } ∈ s.link.queue then 1 else 0
        let syncs := s.link.running.isSome && s.link.queue.head? == some { position := p, kind := .sync }
        s.completes t d
          (if view = 0 then
            [u8 r.state.code, opt 1 (r.rejectReason.map RejectReason.code),
             flag8 (tget s.consumable.presence p).settled, flag8 syncs, opt 4 (r.chip.map Chip.remaining),
             u32 r.unsynced, u32 r.overrun, u32 r.lowMark, u16 r.partialDots, opt 2 (r.chip.map Chip.modelCode),
             opt 8 (r.chip.map Chip.serial)]
           else
            [u8 r.state.code, u16 e.interval, opt 2 e.pending,
             u8 (held .authenticate + 2 * held .recheck + 4 * held .sync), flag8 r.parkedCheck.isSome,
             opt 8 r.recheckDue])
          0 []) ∧
  (∀ (s : State) (d : Directive), s.takes .meterRead d →
    ∃ t, exec .meterRead s = .next t ∧
      let view := d.arg meterReadForm 0
      if 2 < view then s.refuses t d .refusedRange .badOperand 0
      else
        let totals := fun (n : Totals) => [u64 n.mono, u64 n.colour, u64 n.sheets, u64 n.scans]
        s.completes t d
          (if view = 0 then totals s.meter.working
           else if view = 1 then totals s.meter.cells.banked
           else
            [u32 s.meter.cells.serial, flag8 s.meter.bank.isSome, flag8 (s.meter.bank.bind Bank.serial).isSome,
             flag8 s.meter.bankAgain, u16 s.meter.sinceBank, u8 s.meter.work.code,
             opt 4 (s.meter.pending.map SerialTag.serial),
             opt 2
              (match s.meter.work with
               | .composing c =>
                 match c.next with
                 | .header => some 0
                 | .tariffBlock => some 0
                 | .image i => some i
                 | .trailer => none
               | _ => none)])
          0 [])

/-- NOTE (R36): with the ring set and no request waiting, the notice goes into the ring's head entry, whose index the
reply carries with the written count after it; requests that wait are taken first (log 15); with the ring unset it is
refused. SET_NOTICE_RING by the tests of R35 in order; on DONE the old ring's area leaves the owned-area list, the new
one joins it, and the reply carries the old head index and written count, zero where no ring was set. -/
def Obligations.NoticeRingIsSetAndNotedIn : Prop :=
  (∀ (s : State) (d : Directive) (r : Ring), s.takes .note d → s.directive.ring = some r → s.directive.notices = [] →
    s.memoryCanonical →
    ∃ t, exec .note s = .next t ∧
      s.storesOnly t (r.base + 32 * r.head) (d.hostNote.bytes s.now) ∧
      t.directive =
        DirectiveUnit.answered
          { s.directive with
            ring := some { r with head := (r.head + 1) % r.count, written := r.written + 1 }
            attn := s.directive.attn || inMask s.directive.mask .system }
          d (.done [u16 r.head, u32 (r.written + 1).toNat]) 0 ∧
      s.changesOnly t [.directive, .memory]) ∧
  (∀ (s : State) (d : Directive), s.takes .note d → s.directive.ring ≠ none →
    exec .note s = exec .note s.takeAllNotices) ∧
  (∀ (s : State) (d : Directive), s.takes .note d → s.directive.ring = none →
    ∃ t, exec .note s = .next t ∧ s.refuses t d .refusedState .noRing 0) ∧
  (∀ (s : State) (d : Directive), s.takes .setNoticeRing d →
    ∃ t, exec .setNoticeRing s = .next t ∧
      let base := d.arg setNoticeRingForm 0
      let count := d.arg setNoticeRingForm 1
      if base % 32 ≠ 0 ∨ count < 16 ∨ 4096 < count then s.refuses t d .refusedRange .badOperand 0
      else if 2 ^ 40 < base + 32 * count then s.refuses t d .refusedRange .badRange 0
      else if s.overlapsRegion base (32 * count) = true then s.refuses t d .refusedRange .overlapRegion 0
      else if ∃ a ∈ s.directive.owned, a.source ≠ .noticeRing ∧ overlaps base (32 * count) a.base a.length = true then
        s.refuses t d .refusedRange .overlapOwned 0
      else
        t.directive =
            DirectiveUnit.answered
              { s.directive with
                ring := some { base := base, count := count, head := 0, written := 0 }
                owned := s.directive.owned.filter (fun a => a.source != .noticeRing) ++
                  [{ base := base, length := 32 * count, source := .noticeRing }] }
              d
              (.done
                (match s.directive.ring with
                 | some r => [u16 r.head, u32 r.written.toNat]
                 | none => [u16 0, u32 0]))
              0 ∧
          s.changesOnly t [.directive])

/-- SET_ATTENTION_MASK replaces the mask unless a bit names no class, and leaves ATTN (R37); CLEAR_ATTENTION sets ATTN
low and its reply carries the head index and the written count (R38). -/
def Obligations.AttentionIsMaskedAndCleared : Prop :=
  (∀ (s : State) (d : Directive), s.takes .setAttentionMask d →
    ∃ t, exec .setAttentionMask s = .next t ∧
      if 2 ^ 9 ≤ d.arg setAttentionMaskForm 0 then s.refuses t d .refusedRange .badOperand 0
      else
        t.directive =
            DirectiveUnit.answered { s.directive with mask := BitVec.ofNat 9 (d.arg setAttentionMaskForm 0) } d
              (.done [u16 s.directive.mask.toNat]) 0 ∧
          s.changesOnly t [.directive]) ∧
  (∀ (s : State) (d : Directive), s.takes .clearAttention d →
    ∃ t, exec .clearAttention s = .next t ∧
      t.directive =
          DirectiveUnit.answered { s.directive with attn := false } d (.done [u16 s.ringHead, u32 s.ringWritten]) 0 ∧
        s.changesOnly t [.directive])

/-- SET_ROLES by the tests of R4 in order: every reply carries the table as it stands after the directive. -/
def Obligations.RolesAreSet : Prop :=
  ∀ (s : State) (d : Directive), s.takes .setRoles d → d.operands.length = 32 →
    ∃ t, exec .setRoles s = .next t ∧
      let kept := layout ((tlist s.transaction.roles).map fun r => u8 r.code)
      if ∃ b ∈ d.operands.take 16, 6 ≤ b.toNat then s.answers t d ⟨.refusedRange, .roleCode, kept⟩ 0 []
      else if ∀ b ∈ d.operands.take 16, b.toNat ≠ Role.control.code then
        s.answers t d ⟨.refusedRange, .noControl, kept⟩ 0 []
      else if s.allSlotsFree = false then s.answers t d ⟨.refusedState, .jobsOpen, kept⟩ 0 []
      else
        s.answers t d ⟨.done, .none, d.operands.take 16⟩ 0 [.transaction] ∧
          (∀ n < 16, (tget t.transaction.roles n : Role).code = (d.operands.getD n 0).toNat) ∧
          t.transaction = { s.transaction with roles := t.transaction.roles }

/-! ## Regions -/

/-- REGION_BIND by the tests of R6 in order; one that passes makes the lowest-numbered FREE entry BOUND with the
starting fields of its kind (R5, R7). REGION_UNBIND by the tests of R8 in order; on DONE the entry is FREE, the reply
carries it as it stood, and the last scan write record and memory are unchanged. -/
def Obligations.RegionIsBoundAndUnbound : Prop :=
  (∀ (s : State) (d : Directive), s.takes .regionBind d →
    ∃ t, exec .regionBind s = .next t ∧
      let slot := d.arg regionBindForm 0
      let segment := d.arg regionBindForm 1
      let base := d.arg regionBindForm 2
      let length := d.arg regionBindForm 3
      let kind := d.arg regionBindForm 4
      let scan := decide (kind = RegionKind.scan.code)
      if 31 < slot ∨ 15 < segment ∨ 1 < kind then s.refuses t d .refusedRange .badOperand 0
      else if base % 4096 ≠ 0 ∨ length % 4096 ≠ 0 ∨ length < 4096 ∨ 268435456 < length ∨ 2 ^ 40 < base + length then
        s.refuses t d .refusedRange .badRange 0
      else
        match s.jobAt slot with
        | none => s.refuses t d .refusedState .jobState 0
        | some j =>
          if j.phase.state = .closing then s.refuses t d .refusedState .jobState 0
          else if (scan = true ∧ (j.kind = .print ∨ j.kind = .heldPrint)) ∨ (scan = false ∧ j.kind = .scanSend) then
            s.refuses t d .refusedRange .kind 0
          else if 16 ≤ s.regionsOfSlot slot then s.refuses t d .noRoom .jobRegions 0
          else if s.segmentTaken slot segment = true then s.refuses t d .duplicate .segment 0
          else if s.overlapsRegion base length = true then s.refuses t d .refusedRange .overlapRegion 0
          else if s.overlapsOwned base length = true then s.refuses t d .refusedRange .overlapOwned 0
          else
            ((∀ i < 64, s.region i ≠ none) → s.refuses t d .noRoom .tableFull 0) ∧
              ∀ i < 64, s.region i = none → (∀ k < i, s.region k ≠ none) →
                s.completes t d [u8 i] 0 [.transaction] ∧
                  t.transaction =
                    { s.transaction with
                      regions := tset s.transaction.regions i
                        (some
                          { base := base, length := length, slot := slot, segment := segment
                            body := if scan = true then .scan 0 else .page .atHeader 0 }) }) ∧
  (∀ (s : State) (d : Directive), s.takes .regionUnbind d →
    ∃ t, exec .regionUnbind s = .next t ∧
      let i := d.arg regionIndexForm 0
      if 63 < i then s.refuses t d .refusedRange .badOperand 0
      else if s.region i = none then s.refuses t d .refusedState .notBound 0
      else if ∃ o, s.parser.openSide = some o ∧ o.region = i then s.refuses t d .refusedState .openSide 0
      else
        s.completes t d (s.regionValues i) 0 [.transaction] ∧
          t.transaction = { s.transaction with regions := tset s.transaction.regions i none })

/-! ## Lockdown -/

/-- A LOCKDOWN directive that executes enters lockdown with cause DIRECTIVE and is answered DONE with the time of the
entry (R168, R170). A fall of TAMPER_N and a key fault report enter lockdown in NORMAL mode (R168), and in LOCKDOWN ask
for a LOCKDOWN_REPEAT notice only (R169); a rise of TAMPER_N changes no mode (R169). What the entry does at each block
is stated exactly: the abandonment of the open side, the sheets (R111), keys (R68), regions (R20), slots and closes
(R60), the meter work in each of its parts (R166), the waiting directives (R30). The model's choices in it: log 1 for a
fall of a line that is low and a report that is not there, 15 and 30 for the order of notices and replies, 16 for the
order at the blocks, 17 for the results of SET_ROLES, 18 for the generation field, 28 for the list of reports. -/
def Obligations.EveryCauseEntersLockdown : Prop :=
  (∀ (s : State) (d : Directive), s.takes .lockdown d →
    ∃ t, exec .lockdown s = .next t ∧
      s.entersLockdown t .directive none (some d.requester) [d.replyOf (.done [u64 s.now]) 0 s.now] ∧
      t.directive.executing = some { directive := d, phase := .replying }) ∧
  (∀ s : State, s.lockdown.tamperHigh = true → s.lockdown.mode = .normal →
    let low : State := { s with lockdown := { s.lockdown with tamperHigh := false } }
    ∃ t, exec .tamperFall s = .next t ∧ low.entersLockdown t .tamper none none [] ∧
      t.directive.executing = s.directive.executing) ∧
  (∀ s : State, s.lockdown.tamperHigh = true → s.lockdown.mode = .lockdown →
    ∃ t, exec .tamperFall s = .next t ∧ t.directive = s.directive.repeats .tamper none none ∧
      t.lockdown = { s.lockdown with tamperHigh := false } ∧ s.changesOnly t [.directive, .lockdown]) ∧
  (∀ s : State, s.lockdown.tamperHigh = false → exec .tamperFall s = .next s) ∧
  (∀ (s : State) (slot : Nat) (rest : List Nat), s.cipher.reports = slot :: rest → s.lockdown.mode = .normal →
    let taken : State := { s with cipher := { s.cipher with reports := rest } }
    ∃ t, exec .keyFaultReport s = .next t ∧ taken.entersLockdown t .keyFault (some slot) none [] ∧
      t.directive.executing = s.directive.executing) ∧
  (∀ (s : State) (slot : Nat) (rest : List Nat), s.cipher.reports = slot :: rest → s.lockdown.mode = .lockdown →
    ∃ t, exec .keyFaultReport s = .next t ∧ t.directive = s.directive.repeats .keyFault (some slot) none ∧
      t.cipher = { s.cipher with reports := rest } ∧ s.changesOnly t [.directive, .cipher]) ∧
  (∀ s : State, s.cipher.reports = [] → exec .keyFaultReport s = .next s) ∧
  (∀ s : State, exec .tamperRise s = .next { s with lockdown := { s.lockdown with tamperHigh := true } })

/-- RECOVER by the tests of R171 in order; on DONE the mode is NORMAL, the cause is absent, and the reply and the
RECOVERED notice carry the cause that was held. -/
def Obligations.RecoverReturnsToNormal : Prop :=
  ∀ (s : State) (d : Directive), s.awaitsOwner .recover d →
    ∃ t, exec .recover s = .next t ∧
      if s.lockdown.mode = .normal then s.refuses t d .refusedState .notLocked 0
      else if s.lockdown.tamperHigh = false then s.refuses t d .refusedState .tamper 0
      else
        let held := opt 1 (s.lockdown.cause.map LockdownCause.code)
        t.lockdown = { s.lockdown with mode := .normal, cause := none } ∧
          t.directive = (s.directive.asked [noticeOf .recovered [held]]).answered d (.done [held]) 0 ∧
          s.changesOnly t [.directive, .lockdown]

/-! ## Jobs -/

/-- JOB_OPEN by the tests of R45 in order; on DONE the lowest-numbered FREE slot takes a fresh ACTIVE record and a
newly drawn key with its own check (R64). The model's choices in it: log 7 for the name of a key. -/
def Obligations.JobIsOpened : Prop :=
  ∀ (s : State) (d : Directive), s.awaitsOwner .jobOpen d →
    ∃ t, exec .jobOpen s = .next t ∧
      let number := d.arg jobOpenForm 0
      let account := d.arg jobOpenForm 2
      let tariff := d.arg jobOpenForm 3
      let limit := d.arg jobOpenForm 4
      if s.lockdown.mode = .lockdown then s.refuses t d .locked .none 0
      else
        match ofCode? JobKind.all (d.arg jobOpenForm 1) with
        | none => s.refuses t d .refusedRange .badOperand 0
        | some kind =>
          if number = 0 ∨ 2047 < account then s.refuses t d .refusedRange .badOperand 0
          else if 7 < tariff then s.refuses t d .refusedRange .tariffClass 0
          else if s.numberInUse number = true then s.refuses t d .duplicate .jobNumber 0
          else if (s.accountAt account).state ≠ .active then s.refuses t d .refusedState .account 0
          else
            ((∀ k < 32, s.jobAt k ≠ none) → s.refuses t d .noRoom .tableFull 0) ∧
              ∀ slot < 32, s.jobAt slot = none → (∀ k < slot, s.jobAt k ≠ none) →
                s.completes t d [u8 slot, u64 s.now] 0 [.job, .cipher] ∧
                  t.job.slots =
                    tset s.job.slots slot
                      (some
                        { number := number, kind := kind, phase := .active, account := account, tariff := tariff
                          limit := limit, scanStop := false, mono := 0, colour := 0, inQueue := 0, abandoned := 0
                          jammed := 0, scanPages := 0, unpaidPages := 0, releases := 0, opened := s.now }) ∧
                  t.cipher =
                    { s.cipher with
                      keys := tset s.cipher.keys slot
                        (some { key := { draw := s.cipher.draws }, check := { derivedFrom := { draw := s.cipher.draws } } })
                      draws := s.cipher.draws + 1 }

/-- R46, with the tests of R44: JOB_HOLD puts an ACTIVE or RELEASED job of a kind that holds in HELD, and no other
field of any record changes. R47, with the tests of R44: JOB_RELEASE puts a HELD job in RELEASED and raises its
releases, which stop at 65535. -/
def Obligations.JobIsHeldAndReleased : Prop :=
  (∀ (s : State) (d : Directive), s.awaitsOwner .jobHold d →
    ∃ t, exec .jobHold s = .next t ∧
      let slot := d.arg jobHoldForm 0
      s.namesJob t d slot (d.arg jobHoldForm 1) fun j =>
        if j.phase.state = .held ∨ j.phase.state = .closing then s.refuses t d .refusedState .jobState 0
        else if j.kind = .copy ∨ j.kind = .print ∨ j.kind = .scanSend then s.refuses t d .refusedState .kind 0
        else if (s.parser.openSide.map OpenSide.slot) = some slot then s.refuses t d .refusedState .openSide 0
        else
          s.completes t d [] 0 [.job] ∧ t.job.slots = tset s.job.slots slot (some { j with phase := .held })) ∧
  (∀ (s : State) (d : Directive), s.awaitsOwner .jobRelease d →
    ∃ t, exec .jobRelease s = .next t ∧
      let slot := d.arg jobReleaseForm 0
      let account := d.arg jobReleaseForm 2
      s.namesJob t d slot (d.arg jobReleaseForm 1) fun j =>
        if 2047 < account then s.refuses t d .refusedRange .badOperand 0
        else if j.phase.state ≠ .held then s.refuses t d .refusedState .jobState 0
        else if account ≠ j.account then s.refuses t d .refusedState .accountMismatch 0
        else
          let releases := min 65535 (j.releases + 1)
          s.completes t d [u8 j.kind.code, u16 releases] 0 [.job] ∧
            t.job.slots = tset s.job.slots slot (some { j with phase := .released, releases := releases }))

/-- JOB_CLOSE by the tests of R44 and R53 in order; accepted, the job is CLOSING with its deadline 30 seconds on and
its reply parked, the summary location is owned, and a job with no side in the queue completes its close as drained in
the same step (R55, R56). The model's choices in it: log 30 for the order of what is handed over. -/
def Obligations.JobCloseIsAccepted : Prop :=
  ∀ (s : State) (d : Directive), s.awaitsOwner .jobClose d →
    ∃ t, exec .jobClose s = .next t ∧
      let slot := d.arg jobCloseForm 0
      let location := d.arg jobCloseForm 2
      let summary := if location = 2 ^ 64 - 1 then none else some location
      let parked : Parked := { code := d.code, hostReference := d.hostReference, location := d.location }
      s.namesJob t d slot (d.arg jobCloseForm 1) fun j =>
        if summary ≠ none ∧ location % 64 ≠ 0 then s.refuses t d .refusedRange .badOperand 0
        else if summary ≠ none ∧ 2 ^ 40 < location + 64 then s.refuses t d .refusedRange .badRange 0
        else if j.phase.state = .closing then s.refuses t d .refusedState .jobState 0
        else if summary ≠ none ∧ s.overlapsRegion location 64 = true then
          s.refuses t d .refusedRange .overlapRegion 0
        else if summary ≠ none ∧ s.overlapsOwned location 64 = true then s.refuses t d .refusedRange .overlapOwned 0
        else
          let u : DirectiveUnit :=
            { s.directive with
              owned := s.directive.owned ++
                summary.toList.map fun l => { base := l, length := 64, source := .closeSummary } }
          if j.inQueue = 0 then
            t.directive = s.movesOn (u.handed (j.closed slot summary parked .drained 0 0 s.now)) ∧
              s.freesSlot t slot ∧ s.changesOnly t [.directive, .job, .cipher, .transaction]
          else
            t.directive = s.movesOn u ∧
              t.job.slots =
                tset s.job.slots slot
                  (some
                    { j with
                      phase := .closing { summary := summary, deadline := s.now + 30000000, parked := parked } }) ∧
              s.changesOnly t [.directive, .job]

/-- When the time counter has reached the deadline of a CLOSING job that has no side open, its sheets become ORPHAN in
their places, a CLOSE_TIMEOUT notice is asked for, and the close completes as timed out (R57, R58); before the deadline
nothing comes about. An open side of the job is abandoned first, as R92 gives. The model's choices in it: log 30 for
the order of what is handed over. -/
def Obligations.CloseTimesOutAtItsDeadline : Prop :=
  (∀ (s : State) (slot : Nat) (j : JobRecord) (c : Closing), s.jobAt slot = some j → j.phase = .closing c →
    c.deadline ≤ s.now → (∀ o, s.parser.openSide = some o → o.slot ≠ slot) →
    ∃ t, exec (.closeDeadline slot) s = .next t ∧
      let mine := s.charging.sheets.filter fun h => decide (h.owner = .job slot)
      let sides := (mine.map fun h => 1 + h.back.toList.length).sum
      t.directive =
          (s.directive.asked
            [noticeOf .closeTimeout [u8 slot, u16 j.number, u16 j.account, u8 mine.length, u8 sides]]).handed
            (j.closed slot c.summary c.parked .timeout mine.length sides s.now) ∧
        s.freesSlot t slot ∧
        t.charging =
          { s.charging with
            sheets := s.charging.sheets.map fun h => if h.owner = .job slot then { h with owner := .orphan } else h } ∧
        s.changesOnly t [.directive, .job, .cipher, .transaction, .charging]) ∧
  (∀ (s : State) (slot : Nat) (j : JobRecord) (c : Closing), s.jobAt slot = some j → j.phase = .closing c →
    s.now < c.deadline → exec (.closeDeadline slot) s = .next s) ∧
  (∀ (s : State) (slot : Nat) (j : JobRecord) (c : Closing) (o : OpenSide), s.jobAt slot = some j →
    j.phase = .closing c → c.deadline ≤ s.now → s.parser.openSide = some o → o.slot = slot →
    exec (.closeDeadline slot) s = exec (.closeDeadline slot) (s.abandon .closeTimeout))

/-! ## Accounts -/

/-- ACCOUNT_SET by the tests of R118 in order (a colour flag above 1 is refused as BAD_OPERAND: the model's choice, log
20): an UNUSED account becomes ACTIVE with balance 0 and fresh counters, another keeps what it holds. The model's
choices in it: log 20, and 34 for the floor shown of an UNMETERED account. -/
def Obligations.AccountIsSet : Prop :=
  ∀ (s : State) (d : Directive), s.takes .accountSet d →
    ∃ t, exec .accountSet s = .next t ∧
      let i := d.arg accountSetForm 0
      let a := s.accountAt i
      let g := a.generation
      let colour := d.arg accountSetForm 2
      let limit := d.arg accountSetForm 3
      match ofCode? AccountMode.all (d.arg accountSetForm 1) with
      | none => s.refuses t d .refusedRange .badOperand (if 2047 < i then 0 else g)
      | some mode =>
        if 2047 < i then s.refuses t d .refusedRange .badOperand 0
        else if 1 < colour ∨ 1000000 < limit then s.refuses t d .refusedRange .badOperand g
        else if d.flags.testBit 0 = true ∧ d.expectedGeneration ≠ g.toNat then s.refuses t d .stale .none g
        else if mode = .unmetered ∧ a.reserved ≠ 0 then s.refuses t d .refusedState .reserved g
        else if (mode = .prepaid ∧ a.balance - a.reserved < 0) ∨
            (mode = .credit ∧ a.balance - a.reserved < -(limit : Int)) then
          s.refuses t d .refusedRange .floor g
        else
          let kept := if a.state = .unused then { Account.unused g with state := .active } else a
          let now : Account := { kept with mode := mode, colour := colour == 1, creditLimit := limit }
          s.editsAccount t d i
            [u8 now.state.code, u8 mode.code, u8 colour, u32 limit, i32 now.balance, u32 now.reserved,
             i32 (if mode = .credit then -(limit : Int) else 0)]
            now

/-- ACCOUNT_ADJUST by the tests of R119 in order: the reply's results and flags describe the balance the adjustment
gives, and only an untried amount other than 0 is applied (R120). The model's choices in it: log 34 for the floor shown
of an UNMETERED account. -/
def Obligations.AccountIsAdjusted : Prop :=
  ∀ (s : State) (d : Directive), s.takes .accountAdjust d →
    ∃ t, exec .accountAdjust s = .next t ∧
      let i := d.arg accountAdjustForm 0
      let a := s.accountAt i
      let amount := signed32 (d.arg accountAdjustForm 1)
      let balance := a.balance + amount
      let floor : Int := if a.mode = .credit then -(a.creditLimit : Int) else 0
      let flags :=
        (if balance = 0 then 1 else 0) + (if balance < 0 then 2 else 0) +
          (if a.mode ≠ .unmetered ∧ balance - a.reserved = floor then 4 else 0)
      let results := [i32 a.balance, i64 balance, u32 a.reserved, i32 floor, u8 flags]
      if 2047 < i then s.refuses t d .refusedRange .badOperand 0
      else if d.flags.testBit 0 = true ∧ d.expectedGeneration ≠ a.generation.toNat then
        s.answers t d ⟨.stale, .none, layout results⟩ a.generation []
      else if a.state = .unused then s.answers t d ⟨.refusedState, .notInUse, layout results⟩ a.generation []
      else if balance < -1000000 ∨ 2000000000 < balance then
        s.answers t d ⟨.refusedRange, .balanceRange, layout results⟩ a.generation []
      else if a.mode ≠ .unmetered ∧ balance - a.reserved < floor then
        s.answers t d ⟨.refusedRange, .floor, layout results⟩ a.generation []
      else if d.flags.testBit 1 = true ∨ amount = 0 then s.completes t d results a.generation []
      else s.editsAccount t d i results { a with balance := balance }

/-- R121: ACCOUNT_SUSPEND and ACCOUNT_RESUME by their tests in order. R123: ACCOUNT_CLEAR by its tests in order: every
field of the record becomes zero, and the reply carries the account as it stood. -/
def Obligations.AccountIsSuspendedResumedAndCleared : Prop :=
  (∀ (s : State) (d : Directive), s.awaitsOwner .accountSuspend d →
    ∃ t, exec .accountSuspend s = .next t ∧ s.changesAccountState t d .suspended) ∧
  (∀ (s : State) (d : Directive), s.awaitsOwner .accountResume d →
    ∃ t, exec .accountResume s = .next t ∧ s.changesAccountState t d .active) ∧
  (∀ (s : State) (d : Directive), s.awaitsOwner .accountClear d →
    ∃ t, exec .accountClear s = .next t ∧
      let i := d.arg accountIndexForm 0
      s.namesAccount t d i fun a =>
        if a.state = .unused then s.refuses t d .refusedState .notInUse a.generation
        else if a.reserved ≠ 0 then s.refuses t d .refusedState .reserved a.generation
        else if 0 < s.slotsNaming i then s.refuses t d .refusedState .jobNames a.generation
        else if ∃ h ∈ s.charging.sheets, h.owner = .orphan ∧ h.account = i then
          s.refuses t d .refusedState .orphanSheet a.generation
        else
          s.editsAccount t d i
            [i32 a.balance, u32 a.lifeMono, u32 a.lifeColour, u32 a.lifeScan, u32 a.lifeJammed, u32 a.unpaid,
             u32 a.overdraft]
            (.unused a.generation))

/-- PERIOD_CLOSE (R124): the period counters of every account in use become 0 and its generation rises, the period
number rises by one and wraps, and the reply carries the totals of the period closed. -/
def Obligations.PeriodIsClosed : Prop :=
  ∀ (s : State) (d : Directive), s.takes .periodClose d →
    ∃ t, exec .periodClose s = .next t ∧
      s.completes t d
        [u32 (s.account.period + 1).toNat, u16 ((tlist s.account.accounts).countP fun a => a.state != .unused),
         u64 ((tlist s.account.accounts).map Account.periodMono).sum,
         u64 ((tlist s.account.accounts).map Account.periodColour).sum,
         u64 ((tlist s.account.accounts).map Account.periodScan).sum]
        0 [.account] ∧
      t.account.period = s.account.period + 1 ∧ t.account.pristine = false ∧
      ∀ i < 2048,
        t.accountAt i =
          if (s.accountAt i).state = .unused then s.accountAt i
          else
            { s.accountAt i with
              periodMono := 0, periodColour := 0, periodScan := 0, generation := (s.accountAt i).generation + 1 }

/-! ## Tariffs -/

/-- R109: SET_TARIFF by its tests in order: the class takes the three costs, and the reply carries the previous ones.
-/
def Obligations.TariffIsSet : Prop :=
  ∀ (s : State) (d : Directive), s.awaitsOwner .setTariff d →
    ∃ t, exec .setTariff s = .next t ∧
      let c := d.arg setTariffForm 0
      let mono := d.arg setTariffForm 1
      let colour := d.arg setTariffForm 2
      if s.lockdown.mode = .lockdown then s.refuses t d .locked .none 0
      else if 7 < c then s.refuses t d .refusedRange .tariffClass 0
      else if colour < mono then s.refuses t d .refusedRange .colourBelowMono 0
      else
        s.completes t d [u8 c, u16 (s.tariff c).mono, u16 (s.tariff c).colour, u16 (s.tariff c).scan] 0 [.charging] ∧
          t.charging =
            { s.charging with
              tariffs := tset s.charging.tariffs c { mono := mono, colour := colour, scan := d.arg setTariffForm 3 } }

/-! ## Band framing, sides and coverage -/

/-- The tests 2 to 5 of R79: a VIDEO read away from offset 0 is refused from its place alone, with a FRAMING notice,
and leaves everything else as it stood. A header is judged by the table of R82, in order. A header that fails its tests
refuses the read, breaks the region where the header stands and asks for a FRAMING notice; an open side of the region is
abandoned first (R83). A header that ends after the read refuses it with HEADER_SPLIT and breaks nothing, also at offset
0 (R84). A header met further on in a read is taken as in a read of its own that follows the shorter read before it, and
what came before it stands (R81). The model's choices in it: log 21 for the parser state in the notice of a header, 39
for the band number that R82 compares. -/
def Obligations.FramingIsJudgedByPlaceAndByHeader : Prop :=
  (∀ (t : Transaction) (s : State) (i : Nat) (r : Region) (j : JobRecord) (f : Framing) (cursor : Nat),
    s.readsPage t i r j f cursor → r.base < t.address →
    ∃ u, exec (.subordinateTransaction t) s = .next u ∧
      let first := t.address - r.base
      let last := t.address - r.base + 16 * t.beats
      match f with
      | .broken => s.refusesFraming u t i r .broken f cursor
      | .atHeader =>
        if first ≠ cursor then s.refusesFraming u t i r .framingGap f cursor
        else t.beats = 1 → s.refusesFraming u t i r .headerSplit f cursor
      | .inPayload remaining _ =>
        if first ≠ cursor then s.refusesFraming u t i r .framingGap f cursor
        else cursor + remaining < last → last < cursor + remaining + 32 →
          s.refusesFraming u t i r .headerSplit f cursor) ∧
  (∀ (h : BandHeader) (length offset : Nat) (open? : Option OpenSide),
    judgeHeader h length offset open? =
      if h.sync ≠ [0x5A, 0xA5, 0x3C, 0xC3] then .error .badSync
      else if h.sum % 256 ≠ 0 then .error .badCheck
      else
        match [Plane.k, .c, .m, .y][h.plane]? with
        | none => .error .badField
        | some plane =>
          if h.units = 0 ∨ 4096 < h.units then .error .badField
          else if h.sideStart = true then
            match [SideKind.simplex, .front, .back][h.kind]? with
            | none => .error .badField
            | some kind =>
              if h.mask = 0 then .error .badField
              else if length < offset + 32 + h.units * 32 then .error .length
              else if hasPlane h.mask plane = false then .error .plane
              else if h.number ≠ 0 then .error .sequence
              else .starts kind plane
          else if length < offset + 32 + h.units * 32 then .error .length
          else
            match open? with
            | none => .error .noSide
            | some o =>
              if hasPlane o.mask plane = false then .error .plane
              else if h.number ≠ o.nextBand - 1 then .error .sequence
              else .continues plane) ∧
  (∀ (t : Transaction) (s : State) (i : Nat) (r : Region) (j : JobRecord) (cursor : Nat) (key : JobKey)
    (plain : List Byte) (reason : FramingReason), s.meetsHeader t i r j cursor key plain →
    (cursor = 0 → s.openSideIn i = none) →
    judgeHeader (.ofBytes (plain.take 32)) r.length cursor (s.openSideIn i) = .error reason →
    ∃ u, exec (.subordinateTransaction t) s = .next u ∧ s.breaksAtHeader u t i r reason cursor) ∧
  (∀ (t : Transaction) (s : State) (i : Nat) (r : Region) (j : JobRecord) (f : Framing) (cursor : Nat) (key : JobKey),
    s.readsPage t i r j f cursor → t.address = r.base → t.beats = 1 → s.holdsKey r.slot key →
    ∃ u, exec (.subordinateTransaction t) s = .next u ∧ (s.restarted i).splitsHeader u t i r 0) ∧
  (∀ (t : Transaction) (s w : State) (i : Nat) (r : Region) (j : JobRecord) (key : JobKey) (n : Nat),
    s.passesTo w t i r j key n →
    let c := t.address - r.base + 16 * n
    let plain :=
      decipherBeats key r.segment (c / 16) (t.beats - n)
        (Memory.readBytes s.memory (t.address + 16 * n) (16 * (t.beats - n)))
    (t.beats = n + 1 → (∀ remaining plane, r.body = .page (.inPayload remaining plane) (t.address - r.base) →
        t.address = r.base ∨ remaining ≠ 16 * n) →
      ∃ u, exec (.subordinateTransaction t) s = .next u ∧ w.splitsHeader u t i r c) ∧
    (n + 2 ≤ t.beats → ∀ reason,
      judgeHeader (.ofBytes (plain.take 32)) r.length c (w.openSideIn i) = .error reason →
      ∃ u, exec (.subordinateTransaction t) s = .next u ∧ w.breaksAtHeader u t i r reason c) ∧
    (t.beats = n + 2 → (∀ reason, judgeHeader (.ofBytes plain) r.length c (w.openSideIn i) ≠ .error reason) →
      ∀ x y, exec (.subordinateTransaction (partOf t n 2)) w = .next x → x.transaction.response = some y →
        exec (.subordinateTransaction t) s =
          .next
            { x with
              transaction :=
                x.transaction.responding t.requester y.okay
                  (if y.okay = true then (w.transaction.response.map Response.data).getD [] ++ y.data else []) }))

/-- R80: a VIDEO read at offset 0 acts as it does after the open side, if the region holds it, has been abandoned with
cause RESTART and the region stands at a header with cursor 0. R86: a header that starts a side abandons the open side
first, wherever it is. The model's choices in it: log 21 for a read at offset 0 whose key fails its check, which has
restarted its region too. -/
def Obligations.RestartAndSideStartAbandonTheOpenSide : Prop :=
  (∀ (t : Transaction) (s : State) (i : Nat) (r : Region) (j : JobRecord) (f : Framing) (cursor : Nat),
    s.readsPage t i r j f cursor → t.address = r.base →
    exec (.subordinateTransaction t) s = exec (.subordinateTransaction t) (s.restarted i)) ∧
  (∀ (t : Transaction) (s : State) (i : Nat) (r : Region) (j : JobRecord) (cursor : Nat) (key : JobKey)
    (plain : List Byte) (kind : SideKind) (plane : Plane) (o : OpenSide), s.meetsHeader t i r j cursor key plain →
    s.parser.openSide = some o → (cursor = 0 → o.region ≠ i) →
    judgeHeader (.ofBytes (plain.take 32)) r.length cursor (s.openSideIn i) = .starts kind plane →
    exec (.subordinateTransaction t) s =
      exec (.subordinateTransaction t)
        (s.abandon (if o.region = i then .newSideSameRegion else .newSideOtherRegion)))

/-- The side-start checks of R87 in order, and what follows: the first that fails refuses the read with a SIDE notice
and nothing else (R88), which for CONSUMABLE carries the position with its state (R138); where all pass, the side is
made (R89, R96, R97). The read holds the header alone. The model's choices in it: log 26 for the name of a sheet, 27 for
the SIDE_END kept with the open side, 31 for the values a SIDE notice leaves absent, 38 for the place of the state in
it. -/
def Obligations.SideStartsWhereEveryCheckPasses : Prop :=
  ∀ (t : Transaction) (s : State) (i : Nat) (r : Region) (j : JobRecord) (cursor : Nat) (key : JobKey)
    (plain : List Byte) (kind : SideKind) (plane : Plane), s.meetsHeader t i r j cursor key plain → t.beats = 2 →
    s.parser.openSide = none →
    judgeHeader (.ofBytes plain) r.length cursor none = .starts kind plane →
    ∃ u, exec (.subordinateTransaction t) s = .next u ∧
      let h := BandHeader.ofBytes plain
      let a := s.accountAt j.account
      let costs := if a.mode = .unmetered then (0, 0) else ((s.tariff j.tariff).mono, (s.tariff j.tariff).colour)
      let reservation := if hasColour h.mask = true then costs.2 else costs.1
      let floor : Int := if a.mode = .credit then -(a.creditLimit : Int) else 0
      let held := s.charging.sheets.filter fun x => x.awaits r.slot
      let needed := (Plane.all.filter (hasPlane h.mask)).map Plane.code ++ [4]
      let failed := needed.find? fun p => (s.consumableAt p).state != .genuine
      let refuses := fun (reason : SideReason) (position length : Option Nat) =>
        u.transaction = s.transaction.responding t.requester false [] ∧
          u.directive =
            s.directive.asked
              [noticeOf (.sideRefused reason)
                [u8 i, u8 r.slot, u16 j.number, u16 j.account, u8 kind.code, u8 h.mask.toNat, u32 cursor,
                 opt 1 position, opt 1 length, opt 1 (position.map fun p => (s.consumableAt p).state.code)]] ∧
          s.changesOnly u [.transaction, .directive]
      if j.limit ≠ 0 ∧ j.limit ≤ j.mono + j.colour + j.inQueue then refuses .limit none none
      else if a.state ≠ .active then refuses .account none none
      else if hasColour h.mask = true ∧ a.colour = false then refuses .colourDenied none none
      else if reservation ≠ 0 ∧ a.mode ≠ .unmetered ∧ a.balance - a.reserved - reservation < floor then
        refuses .funds none none
      else if failed ≠ none then refuses .consumable failed none
      else if (kind ≠ .back ∧ 8 ≤ s.charging.sheets.length) ∨ (kind = .back ∧ held = []) then
        refuses .sheetQueue none (some s.charging.sheets.length)
      else
        let side : SideRecord :=
          { kind := kind, mask := h.mask, monoCost := costs.1, colourCost := costs.2, reservation := reservation
            dots := { k := 0, c := 0, m := 0, y := 0 }, complete := false }
        let name := if kind = .back then (held.head?.map Sheet.name).getD 0 else s.charging.nextSheet
        u.transaction =
            (s.transaction.responding t.requester true plain).framed i r (.inPayload (32 * h.units) plane)
              (cursor + 32) ∧
          u.parser.openSide =
            some
              { region := i, slot := r.slot, sheet := name, kind := kind, mask := h.mask, nextBand := 1
                dots := { k := 0, c := 0, m := 0, y := 0 }, bandDots := 0, reservation := reservation
                lastBand := h.sideEnd } ∧
          u.account =
            { s.account with
              accounts := tset s.account.accounts j.account { a with reserved := a.reserved + reservation }
              pristine := false } ∧
          u.charging.sheets =
            (if kind = .back then
              s.charging.sheets.map fun x =>
                if x.name = name then { x with state := .fillingBack, back := some side } else x
             else
              s.charging.sheets ++
                [{ name := name, owner := .job r.slot, account := j.account, state := .fillingFront, front := side
                   back := none }]) ∧
          u.charging.tariffs = s.charging.tariffs ∧
          u.job.slots = tset s.job.slots r.slot (some { j with inQueue := j.inQueue + 1 }) ∧
          s.changesOnly u [.transaction, .parser, .account, .charging, .job]

/-- A VIDEO read of payload only, at the cursor of a band of the open side (R90, R91): its dot-levels are counted for
the band's plane; where it ends the band, the band's dot-levels are handed to the plane's position and the next band
number rises; where the band carried SIDE_END, the side's dot-levels go to its sheet, which advances, the imaging unit
is drawn one side, and no side is open. The model's choices in it: log 27 for the SIDE_END kept with the open side. -/
def Obligations.PayloadIsCountedAndEndsBandAndSide : Prop :=
  ∀ (t : Transaction) (s : State) (i : Nat) (r : Region) (j : JobRecord) (remaining : Nat) (plane : Plane)
    (cursor : Nat) (key : JobKey) (o : OpenSide), s.readsPage t i r j (.inPayload remaining plane) cursor →
    t.address - r.base = cursor → cursor ≠ 0 → 16 * t.beats ≤ remaining → s.holdsKey r.slot key →
    s.parser.openSide = some o → o.region = i →
    ∃ u, exec (.subordinateTransaction t) s = .next u ∧
      let plain := decipherBeats key r.segment (cursor / 16) t.beats (s.stored t)
      let n := (plain.map dotLevels).sum
      let dots := o.dots.add plane n
      let next := cursor + 16 * t.beats
      let answered := s.transaction.responding t.requester true plain
      if 16 * t.beats < remaining then
        u.transaction = answered.framed i r (.inPayload (remaining - 16 * t.beats) plane) next ∧
          u.parser.openSide = some { o with dots := dots, bandDots := o.bandDots + n } ∧
          s.changesOnly u [.transaction, .parser]
      else
        let handed := if 0 < o.bandDots + n then s.handDots plane (o.bandDots + n) else s
        u.transaction = answered.framed i r .atHeader next ∧
          if o.lastBand = true then
            u.parser.openSide = none ∧
              u.charging.sheets =
                (s.charging.sheets.map fun x =>
                  if x.name = o.sheet then
                    match o.kind with
                    | .simplex => { x with state := .complete, front := { x.front with dots := dots, complete := true } }
                    | .front =>
                      { x with state := .awaitingBack, front := { x.front with dots := dots, complete := true } }
                    | .back =>
                      { x with
                        state := .complete
                        back := x.back.map fun b => { b with dots := dots, complete := true } }
                  else x) ∧
              u.consumable = (handed.drawUnit 4).consumable ∧ u.link = (handed.drawUnit 4).link ∧
              u.directive = (handed.drawUnit 4).directive ∧
              s.changesOnly u [.transaction, .parser, .charging, .consumable, .link, .directive]
          else
            u.parser.openSide = some { o with dots := dots, bandDots := 0, nextBand := o.nextBand + 1 } ∧
              u.consumable = handed.consumable ∧ u.link = handed.link ∧ u.directive = handed.directive ∧
              s.changesOnly u [.transaction, .parser, .consumable, .link, .directive]

/-- The steps of R92 on the open side, with the region left as R93 gives by cause. Where its job is CLOSING and this
was its last side in the queue, the drain test completes the close as drained (R55), but for an abandonment by a close
deadline or by lockdown, which makes no drain test. The model's choices in it: log 30 for the order of what is handed
over. -/
def Obligations.OpenSideIsAbandoned : Prop :=
  ∀ (s : State) (cause : AbandonCause) (o : OpenSide) (h : Sheet) (j : JobRecord) (r : Region) (f : Framing)
    (cursor : Nat), s.parser.openSide = some o → s.sheetNamed o.sheet = some h → s.jobAt o.slot = some j →
    s.region o.region = some r → r.body = .page f cursor →
    let u := s.abandon cause
    let a := s.accountAt h.account
    let handed :=
      match f with
      | .inPayload _ plane => if 0 < o.bandDots then s.handDots plane o.bandDots else s
      | _ => s
    let left : JobRecord := { j with inQueue := j.inQueue - 1, abandoned := min top32 (j.abandoned + 1) }
    let framed :=
      if cause = .restart then s.transaction.framed o.region r .atHeader 0
      else if cause = .framing ∨ cause = .newSideOtherRegion ∨ cause = .earlySheet ∨ cause = .jam then
        s.transaction.framed o.region r .broken cursor
      else s.transaction
    let told :=
      handed.directive.asked
        [noticeOf .sideAbandoned
          [u8 cause.code, u8 o.region, u8 o.slot, u8 o.kind.code, u16 j.number, u16 (o.nextBand - 1),
           u32 (min top32 o.dots.k), u32 (min top32 (o.dots.c + o.dots.m + o.dots.y))]]
    let stays :=
      u.job.slots = tset s.job.slots o.slot (some left) ∧ u.transaction = framed ∧ u.directive = told ∧
        u.cipher = s.cipher
    u.parser.openSide = none ∧
      u.account =
        { s.account with
          accounts := tset s.account.accounts h.account { a with reserved := a.reserved - o.reservation }
          pristine := false } ∧
      u.charging.sheets =
        (if o.kind = .back then
          s.charging.sheets.map fun x =>
            if x.name = o.sheet then { x with state := .awaitingBack, back := none } else x
         else s.charging.sheets.filter fun x => x.name != o.sheet) ∧
      u.consumable = handed.consumable ∧ u.link = handed.link ∧
      (match j.phase with
       | .closing c =>
         if cause ≠ .closeTimeout ∧ cause ≠ .lockdown ∧ left.inQueue = 0 then
           { s with transaction := framed }.freesSlot u o.slot ∧
             u.directive = told.handed (left.closed o.slot c.summary c.parked .drained 0 0 s.now)
         else stays
       | _ => stays) ∧
      s.changesOnly u [.parser, .account, .charging, .job, .transaction, .consumable, .link, .directive, .cipher]

/-- Dot-levels handed to a record join its partial accumulator, which gives up one unit drawn for each whole 65,536; a
record that holds no yield discards them (R134). A unit drawn from a record (R135): its remaining yield falls and its
unsynced consumption rises, or, with nothing left, its overrun count rises; a GENUINE record drawn to 0 is EXHAUSTED
with no recheck due and requests a SYNC, a GENUINE one at 1,024 units unsynced requests one unless it holds one, and a
SYNC that was refused is requested again. The end of a SYNC whose write completed (R136): the yield is the value written
less the units drawn since the capture, what neither the chip nor the value written could cover is counted as overrun,
and a SYNC that is still necessary is requested. A SYNC reported LINK_FAILED keeps yield and consumption, and takes a
GENUINE record to LINK_FAULT (R136). The model's choices in it: log 15 and 30 for the order of the notices, 40 for a
refused SYNC. -/
def Obligations.YieldIsDrawnAndSettled : Prop :=
  (∀ (s : State) (plane : Plane) (dots : Nat),
    let p := plane.code
    let r := s.consumableAt p
    s.handDots plane dots =
      if r.chip = none then s
      else
        (fun x : State => x.drawUnit p)^[(r.partialDots + dots) / 65536]
          { s with
            consumable :=
              { s.consumable with
                records :=
                  tset s.consumable.records p { r with partialDots := (r.partialDots + dots) % 65536 } } }) ∧
  (∀ (s : State) (p : Nat), (s.consumableAt p).chip = none → s.drawUnit p = s) ∧
  (∀ (s : State) (p : Nat) (c : Chip), p < 5 → (s.consumableAt p).chip = some c →
    let r := s.consumableAt p
    let u := s.drawUnit p
    let out := c.remaining = 1 ∧ r.state = .genuine
    let drawn : Consumable :=
      if c.remaining = 0 then { r with overrun := min top32 (r.overrun + 1) }
      else
        { r with
          chip := some { c with remaining := c.remaining - 1 }
          unsynced := r.unsynced + 1
          state := if out then .exhausted else r.state
          recheckDue := if out then none else r.recheckDue }
    s.becomes u p drawn
        (decide
          (out ∨ (r.syncRefused = true ∧ drawn.wantsSync) ∨
            (drawn.state = .genuine ∧ 1024 ≤ drawn.unsynced ∧
              { position := p, kind := .sync } ∉ s.link.queue))) ∧
      u.directive =
        s.directive.asked
          ((if out then [noticeOf .exhausted [u8 p, u32 (r.unsynced + 1), u64 c.serial]] else []) ++
            if c.remaining ≠ 0 ∧ r.lowMark ≤ c.remaining ∧ c.remaining - 1 < r.lowMark then
              [noticeOf .low [u8 p, u32 (c.remaining - 1), u64 c.serial]]
            else []) ∧
      s.changesOnly u [.consumable, .link, .directive]) ∧
  (∀ (s : State) (p : Nat) (r : Consumable) (c : Chip) (chipYield capture : Nat), p < 5 → s.consumableAt p = r →
    r.chip = some c → r.syncCapture = some capture →
    let written := chipYield - capture
    let since := r.unsynced - capture
    let excess := (capture - chipYield) + (since - written)
    let u := s.syncEnd p chipYield written
    let out := r.state = .genuine ∧ written - since = 0
    let settled : Consumable :=
      { r with
        chip := some { c with remaining := written - since }
        overrun := min top32 (r.overrun + excess)
        unsynced := since
        syncCapture := none
        state := if out then .exhausted else r.state
        recheckDue := if out then none else r.recheckDue }
    s.becomes u p settled (decide settled.wantsSync) ∧
      u.directive =
        s.directive.asked
          ((if 0 < excess then [noticeOf .syncShort [u8 p, u32 chipYield, u32 capture, u32 excess]] else []) ++
            (if out then [noticeOf .exhausted [u8 p, u32 since, u64 c.serial]] else []) ++
            if r.lowMark ≤ c.remaining ∧ written - since < r.lowMark then
              [noticeOf .low [u8 p, u32 (written - since), u64 c.serial]]
            else []) ∧
      s.changesOnly u [.consumable, .link, .directive]) ∧
  (∀ (s : State) (p : Nat) (r : Consumable), p < 5 → s.consumableAt p = r →
    let u := s.syncFailed p
    s.becomes u p
        { (if r.state = .genuine then r.failed .linkFailed else r) with syncCapture := none } false ∧
      u.directive =
        s.directive.asked
          [if r.state = .genuine then failNotice p .sync .linkFailed none
           else noticeOf .syncFailed [u8 p, u8 r.state.code, u32 r.unsynced, opt 4 r.syncCapture]] ∧
      s.changesOnly u [.consumable, .directive])

/-! ## Engine lines -/

/-- ENG_SHEET by the state of the oldest sheet (R99 to R101); with an empty queue it asks for SHEET_UNEXPECTED only.
The model's choices in it: log 13 for the owner byte of an ORPHAN sheet, 15 and 30 for the order of the notices. -/
def Obligations.EngineSheetCommitsTheOldestSheet : Prop :=
  (∀ (s : State) (h : Sheet) (rest : List Sheet), s.charging.sheets = h :: rest → h.account < 2048 →
    h.state = .complete →
    ∃ u, exec .engSheet s = .next u ∧ s.delivers u h rest (h.front :: h.back.toList) []) ∧
  (∀ (s : State) (h : Sheet) (rest : List Sheet), s.charging.sheets = h :: rest → h.account < 2048 →
    h.state = .awaitingBack →
    ∃ u, exec .engSheet s = .next u ∧ s.delivers u h rest [h.front] [s.early h 1 h.front.charge]) ∧
  (∀ (s : State) (h g : Sheet) (rest : List Sheet), s.charging.sheets = h :: rest → h.account < 2048 →
    h.state = .fillingBack → (s.abandon .earlySheet).charging.sheets = g :: rest → g.front = h.front →
    g.owner = h.owner → g.account = h.account →
    ∃ u, exec .engSheet s = .next u ∧
      (s.abandon .earlySheet).delivers u g rest [h.front] [s.early h 1 h.front.charge]) ∧
  (∀ (s : State) (h : Sheet) (rest : List Sheet), s.charging.sheets = h :: rest → h.state = .fillingFront →
    ∃ u, exec .engSheet s = .next u ∧
      u.directive = (s.abandon .earlySheet).directive.asked [s.early h 0 0] ∧
      (s.abandon .earlySheet).changesOnly u [.directive]) ∧
  (∀ s : State, s.charging.sheets = [] →
    ∃ u, exec .engSheet s = .next u ∧ u.directive = s.directive.asked [noticeOf .sheetUnexpected []] ∧
      s.changesOnly u [.directive])

/-- ENG_JAM drops every sheet (R103, R104): each account's reserved amount falls by what its sheets reserve and its
jammed sheets count rises, each owning job's counts move and a CLOSING one that empties is closed, one JAM notice is
asked for, and no balance and no meter total moves. An open side is abandoned first. -/
def Obligations.EngineJamDropsEverySheet : Prop :=
  (∀ s : State, s.parser.openSide = none →
    ∃ u, exec .engJam s = .next u ∧
      let sheets := s.charging.sheets
      u.charging = { s.charging with sheets := [] } ∧
        (∀ i < 2048,
          let mine := sheets.filter fun h => h.account == i
          u.accountAt i =
            if mine = [] then s.accountAt i
            else
              { s.accountAt i with
                reserved := (s.accountAt i).reserved - (mine.map Sheet.reserved).sum
                lifeJammed := min top32 ((s.accountAt i).lifeJammed + mine.length) }) ∧
        (∀ slot < 32, ∀ j, s.jobAt slot = some j →
          let mine := sheets.filter fun h => decide (h.owner = .job slot)
          let left := j.inQueue - (mine.map fun h => 1 + h.back.toList.length).sum
          if mine = [] then u.jobAt slot = some j
          else if j.phase.state = .closing ∧ left = 0 then
            u.jobAt slot = none ∧ (tget u.cipher.keys slot : Option KeyEntry) = none
          else
            u.jobAt slot =
              some { j with inQueue := left, jammed := min top32 (j.jammed + mine.length) }) ∧
        u.directive =
          { s.directive with
            writes := u.directive.writes
            notices := s.directive.notices ++
              [noticeOf .jam
                [u8 sheets.length, u8 (sheets.map fun h => 1 + h.back.toList.length).sum,
                 u8 (sheets.countP fun h => h.owner == .orphan), u32 (sheets.map Sheet.reserved).sum]] } ∧
        s.changesOnly u [.charging, .account, .job, .cipher, .transaction, .directive]) ∧
  (∀ (s : State) (o : OpenSide), s.parser.openSide = some o → exec .engJam s = exec .engJam (s.abandon .jam))

/-- SCN_PAGE takes the last scan write record (R106): a page of no job is counted unattributed; a page of a job is
paid, counted only for an UNMETERED account, or counted unpaid with SCAN_STOP set where the account's floor does not
allow its cost (R107). -/
def Obligations.ScanPageIsChargedToItsJob : Prop :=
  (∀ s : State, s.transaction.lastScanWrite = none →
    ∃ u, exec .scnPage s = .next u ∧
      u.meter.working = { s.meter.working with scans := min (2 ^ 64 - 1) (s.meter.working.scans + 1) } ∧
      u.meter = { s.meter with working := u.meter.working } ∧
      u.directive = s.directive.asked [noticeOf .scanUnattributed []] ∧ s.changesOnly u [.meter, .directive]) ∧
  (∀ (s : State) (slot : Nat) (j : JobRecord), s.transaction.lastScanWrite = some slot → s.jobAt slot = some j →
    j.account < 2048 →
    ∃ u, exec .scnPage s = .next u ∧
      let a := s.accountAt j.account
      let cost := (s.tariff j.tariff).scan
      let floor : Int := if a.mode = .credit then -(a.creditLimit : Int) else 0
      let counted : Account :=
        { a with periodScan := min top32 (a.periodScan + 1), lifeScan := min top32 (a.lifeScan + 1) }
      let paid := a.mode = .unmetered ∨ cost = 0 ∨ floor ≤ a.balance - a.reserved - cost
      u.transaction = { s.transaction with lastScanWrite := none } ∧
        u.meter.working = { s.meter.working with scans := min (2 ^ 64 - 1) (s.meter.working.scans + 1) } ∧
        u.meter = { s.meter with working := u.meter.working } ∧
        u.account =
          { s.account with
            pristine := false
            accounts :=
              tset s.account.accounts j.account
                (if a.mode = .unmetered then counted
                 else if paid then { counted with balance := a.balance - cost }
                 else { a with unpaid := min top32 (a.unpaid + 1) }) } ∧
        u.job.slots =
          tset s.job.slots slot
            (some
              { j with
                scanPages := min top32 (j.scanPages + 1)
                unpaidPages := if paid then j.unpaidPages else min top32 (j.unpaidPages + 1)
                scanStop := if paid then j.scanStop else true }) ∧
        u.directive =
          s.directive.asked
            (if paid then []
             else
              [noticeOf .scanUnpaid
                [u8 slot, u16 j.number, u16 j.account, u16 cost, i32 a.balance, u32 a.reserved]]) ∧
        s.changesOnly u [.transaction, .meter, .account, .job, .directive])

/-! ## Consumables -/

/-- A presence line's change starts its settling time (R128); a rise that has settled clears the record into
AUTHENTICATING and requests an AUTHENTICATE, which is left pending where the link queue is full (R129); a fall that has
settled ends the position's link entries, answers a parked CHECK_NOW and clears the record into ABSENT (R130). The
model's choices in it: log 36 for a change back before the line has settled. -/
def Obligations.PresenceIsTakenWhenSettled : Prop :=
  (∀ (s : State) (p : Nat) (level : Bool), p < 5 →
    ∃ t, exec (.presenceLineChange p level) s = .next t ∧ s.changesOnly t [.consumable] ∧
      let line := tget s.consumable.presence p
      t.consumable =
        if line.level = level then s.consumable
        else
          { s.consumable with presence := tset s.consumable.presence p { line with level := level, since := s.now } }) ∧
  (∀ (s : State) (p : Nat), s.settles p true →
    ∃ t, exec (.presenceRise p) s = .next t ∧ s.changesOnly t [.consumable, .link, .directive] ∧
      t.consumable =
        s.consumable.changed p
          (clearedRecord .authenticating (s.consumableAt p).lowMark (decide (8 ≤ s.link.queue.length)))
          { tget s.consumable.presence p with settled := true } ∧
      t.link = { s.link with queue := admitted s.link.queue { position := p, kind := .authenticate } } ∧
      t.directive = s.directive.asked [noticeOf .inserted [u8 p]]) ∧
  (∀ (s : State) (p : Nat), s.settles p false →
    ∃ t, exec (.presenceFall p) s = .next t ∧ s.changesOnly t [.consumable, .link, .directive] ∧
      let r := s.consumableAt p
      let kept := s.link.queue.filter fun e => e.position != p
      t.consumable =
          s.consumable.changed p (clearedRecord .absent r.lowMark false)
            { tget s.consumable.presence p with settled := false } ∧
        t.link =
          (if s.link.running ≠ none ∧ s.link.queue.head?.map LinkEntry.position = some p then
            { queue := kept, running := none, quietSince := some s.now }
          else { s.link with queue := kept }) ∧
        t.directive =
          (s.directive.asked
            [noticeOf .removed
              [u8 p, u8 r.state.code, u16 r.partialDots, opt 4 (r.chip.map Chip.remaining), u32 r.unsynced,
               u32 r.overrun]]).handed
            (r.parkedCheck.toList.map fun parked =>
              parked.reply
                (.done
                  [u8 p, u8 CheckResult.removed.code, u8 ConsumableState.absent.code, opt 8 none, opt 4 none])
                s.now)) ∧
  (∀ (s : State) (p : Nat), ¬s.settles p true → exec (.presenceRise p) s = .next s) ∧
  (∀ (s : State) (p : Nat), ¬s.settles p false → exec (.presenceFall p) s = .next s)

/-- An epoch boundary (R139): pending intervals take effect; then each position in order makes the first request that
applies to it. With room for five entries every request is admitted; with a full queue none is. A boundary that has
been taken does not come again. The model's choices in it: log 3 for the boundary last taken, 40 for a
refused SYNC. -/
def Obligations.EpochBoundaryRunsTheSchedule : Prop :=
  (∀ s : State, s.consumable.lastEpoch < s.now / 1000000 →
    ∃ t, exec .epochBoundary s = .next t ∧ s.changesOnly t [.consumable, .link] ∧
      t.consumable.lastEpoch = s.now / 1000000 ∧ t.consumable.presence = s.consumable.presence ∧
      (∀ p < 5, tget t.consumable.schedule p = { interval := s.intervalAfter p, pending := none }) ∧
      t.link.running = s.link.running ∧ t.link.quietSince = s.link.quietSince ∧
      (s.link.queue.length ≤ 3 →
        t.link.queue =
            [0, 1, 2, 3, 4].foldl
              (fun queue p =>
                match s.boundaryRequest p with
                | some kind => admitted queue { position := p, kind := kind }
                | none => queue)
              s.link.queue ∧
          ∀ p < 5,
            t.consumableAt p =
              match s.boundaryRequest p, (s.scheduled p).recheckDue with
              | some .recheck, some due => { s.scheduled p with recheckDue := some (due + s.intervalAfter p) }
              | some .authenticate, _ => { s.scheduled p with authPending := false }
              | some .sync, _ => { s.scheduled p with syncRefused := false }
              | _, _ => s.scheduled p) ∧
      (8 ≤ s.link.queue.length →
        t.link = s.link ∧
          ∀ p < 5,
            t.consumableAt p =
              if s.boundaryRequest p = some .sync then { s.scheduled p with syncRefused := true } else s.scheduled p)) ∧
  (∀ s : State, s.now / 1000000 ≤ s.consumable.lastEpoch → exec .epochBoundary s = .next s)

/-- R141: CHECK_NOW by its tests in order; accepted, its reply is parked with the record, which loses a REJECTED or
LINK_FAULT state to AUTHENTICATING, and an AUTHENTICATE of the position is queued or joined. -/
def Obligations.CheckIsRequested : Prop :=
  ∀ (s : State) (d : Directive), s.awaitsOwner .checkNow d →
    ∃ t, exec .checkNow s = .next t ∧
      let p := d.arg checkNowForm 0
      let r := s.consumableAt p
      let parked : Parked := { code := d.code, hostReference := d.hostReference, location := d.location }
      if s.lockdown.mode = .lockdown then s.refuses t d .locked .none 0
      else if 4 < p then s.refuses t d .refusedRange .badOperand 0
      else if r.state = .absent then s.refuses t d .refusedState .absent 0
      else if r.parkedCheck ≠ none then s.refuses t d .refusedState .checkPending 0
      else if 8 ≤ s.link.queue.length then s.refuses t d .busy .none 0
      else
        t.directive = s.movesOn s.directive ∧
          t.link = { s.link with queue := admitted s.link.queue { position := p, kind := .authenticate } } ∧
          t.consumable =
            { s.consumable with
              records :=
                tset s.consumable.records p
                  (if r.state = .rejected ∨ r.state = .linkFault then
                    { r with state := .authenticating, rejectReason := none, parkedCheck := some parked }
                   else if r.state = .authenticating then { r with authPending := false, parkedCheck := some parked }
                   else { r with parkedCheck := some parked }) } ∧
          s.changesOnly t [.directive, .link, .consumable]

/-- SET_LOW_MARK changes a record's low mark and asks for LOW where the yield falls below the new mark from at or above
the old one (R137); SET_SCHEDULE replaces the position's pending interval (R140). -/
def Obligations.LowMarkAndScheduleAreSet : Prop :=
  (∀ (s : State) (d : Directive), s.awaitsOwner .setLowMark d →
    ∃ t, exec .setLowMark s = .next t ∧
      let p := d.arg setLowMarkForm 0
      let mark := d.arg setLowMarkForm 1
      let r := s.consumableAt p
      if s.lockdown.mode = .lockdown then s.refuses t d .locked .none 0
      else if 4 < p then s.refuses t d .refusedRange .badOperand 0
      else
        t.consumable =
            { s.consumable with records := tset s.consumable.records p { r with lowMark := mark } } ∧
          t.directive =
            (s.directive.asked
              (match r.chip with
               | some c =>
                 if r.lowMark ≤ c.remaining ∧ c.remaining < mark then
                   [noticeOf .low [u8 p, u32 c.remaining, u64 c.serial]]
                 else []
               | none => [])).answered d (.done [u32 r.lowMark, opt 4 (r.chip.map Chip.remaining)]) 0 ∧
          s.changesOnly t [.consumable, .directive]) ∧
  (∀ (s : State) (d : Directive), s.awaitsOwner .setSchedule d →
    ∃ t, exec .setSchedule s = .next t ∧
      let p := d.arg setScheduleForm 0
      let e := tget s.consumable.schedule p
      if s.lockdown.mode = .lockdown then s.refuses t d .locked .none 0
      else if 4 < p then s.refuses t d .refusedRange .badOperand 0
      else
        s.completes t d [u16 e.interval, opt 2 e.pending] 0 [.consumable] ∧
          t.consumable =
            { s.consumable with
              schedule := tset s.consumable.schedule p { e with pending := some (d.arg setScheduleForm 1) } })

/-- A chip's identity is judged by position, response and serial, in that order (R132). The end of an AUTHENTICATE by
the state of the record, for every result and for LINK_FAILED (R132): a record without a serial is loaded from the chip,
a SYNC that is necessary then is requested, a load below the low mark asks for LOW (R137), and the parked CHECK_NOW is
answered with the position, the result, the state, the serial and the yield after (R141). The end of a RECHECK acts on a
GENUINE record only (R133). The model's choices in it: log 15 and 30 for the order of the notices, 40 for a refused
SYNC. -/
def Obligations.AuthenticationIsJudged : Prop :=
  (∀ (r : Consumable) (p : Nat) (i : Identity) (passes : Bool),
    r.judge p i passes =
      if i.modelCode % 8 ≠ p then .wrongPosition
      else if passes = false then .badResponse
      else if r.chip ≠ none ∧ r.chip.map Chip.serial ≠ some i.serial then .serialChanged
      else .passed) ∧
  (∀ (s : State) (p : Nat) (r : Consumable) (result : CheckResult) (identity : Option Identity), p < 5 →
    s.consumableAt p = r → (result = .passed → identity ≠ none) → result ≠ .removed →
    let u := s.authenticateEnd p result identity
    let i := identity.getD default
    let taken : Chip := r.chip.getD { serial := i.serial, modelCode := i.modelCode, remaining := i.storedYield }
    let interval := (tget s.consumable.schedule p).interval
    let returns := r.state = .authenticating ∨ r.state = .rejected ∨ r.state = .linkFault
    let after : Consumable :=
      if returns ∧ result = .passed then
        { r with
          chip := some taken
          partialDots := if r.chip = none then 0 else r.partialDots
          unsynced := if r.chip = none then 0 else r.unsynced
          overrun := if r.chip = none then 0 else r.overrun
          state := if 0 < taken.remaining then .genuine else .exhausted
          recheckDue := if 0 < taken.remaining ∧ interval ≠ 0 then some (s.now / 1000000 + interval) else none
          rejectReason := none, authPending := false }
      else if (returns ∨ r.state = .genuine) ∧ result ≠ .passed then r.failed result
      else r
    let told :=
      if returns ∧ result = .passed then [checkNotice .accepted p .authenticate result after.state identity]
      else if (returns ∨ r.state = .genuine) ∧ result ≠ .passed then [failNotice p .authenticate result identity]
      else if r.state = .exhausted ∧ result ≠ .passed then
        [checkNotice .checkFailed p .authenticate result .exhausted identity]
      else []
    let low :=
      if returns ∧ result = .passed ∧ r.chip = none ∧ taken.remaining < r.lowMark then
        [noticeOf .low [u8 p, u32 taken.remaining, u64 taken.serial]]
      else []
    s.becomes u p { after with parkedCheck := none } (decide after.wantsSync) ∧
      u.directive =
        (s.directive.asked (told ++ low)).handed
          (r.parkedCheck.toList.map fun parked =>
            parked.reply
              (.done
                [u8 p, u8 result.code, u8 after.state.code, opt 8 (after.chip.map Chip.serial),
                 opt 4 (after.chip.map Chip.remaining)])
              s.now) ∧
      s.changesOnly u [.consumable, .link, .directive]) ∧
  (∀ (s : State) (p : Nat) (r : Consumable) (result : CheckResult) (identity : Option Identity), p < 5 →
    s.consumableAt p = r → result ≠ .removed →
    let u := s.recheckEnd p result identity
    s.becomes u p (if r.state = .genuine ∧ result ≠ .passed then r.failed result else r) false ∧
      u.directive =
        s.directive.asked
          (if result = .passed then []
           else if r.state = .genuine then [failNotice p .recheck result identity]
           else [checkNotice .checkFailed p .recheck result r.state identity]) ∧
      s.changesOnly u [.consumable, .directive])

/-! ## The cartridge bus -/

/-- On an IDLE line the oldest entry begins (R146); when its request frame has been sent the reply is awaited (R150);
with a running entry, a QUIET line or an empty queue nothing begins. A request frame is the position, the command, the
length and the data, then the sum of these bytes in two bytes, and every byte of it carries odd parity (R147). The
model's choices in it: log 29 for the moment of the start. -/
def Obligations.OldestLinkEntryBeginsWithARequestFrame : Prop :=
  (∀ (s : State) (e : LinkEntry) (rest : List LinkEntry), s.link.queue = e :: rest → s.link.running = none →
    s.link.quietSince = none →
    ∃ t, exec .linkEntryStart s = .next t ∧ s.begins t e ∧ t.link.queue = e :: rest ∧ t.link.quietSince = none ∧
      s.changesOnly t [.link, .consumable]) ∧
  (∀ s : State, (s.link.queue = [] ∨ s.link.running ≠ none ∨ s.link.quietSince ≠ none) →
    exec .linkEntryStart s = .next s) ∧
  (∀ (s : State) (r : Running) (frame : List LinkByte), s.link.running = some r → r.phase = .sending frame →
    ∃ t, exec .requestFrameSent s = .next t ∧ t.link = s.link.nowRunning { r with phase := .awaitingReply s.now } ∧
      s.changesOnly t [.link]) ∧
  (∀ (position : Nat) (command : LinkCommand) (data : List Byte),
    let frame := (requestFrame position command data).map LinkByte.value
    frame.take (3 + data.length) =
        BitVec.ofNat 8 position :: BitVec.ofNat 8 command.code :: BitVec.ofNat 8 data.length :: data ∧
      frame.length = 5 + data.length ∧
      fieldAt frame (3 + data.length) 2 = ((frame.take (3 + data.length)).map BitVec.toNat).sum % 65536 ∧
      ∀ b ∈ requestFrame position command data,
        (((List.range 8).countP fun i => b.value.getLsbD i) + b.parity.toNat) % 2 = 1)

/-- A reply frame that meets every test of R148, in one run of bytes or in several, completes its exchange (R151):
IDENTIFY is followed by a CHALLENGE with a freshly drawn nonce (R149), READ_YIELD by the WRITE_YIELD of the new yield; a
CHALLENGE, and a WRITE_YIELD whose reply, OK or MISMATCH, carries the new yield, end the entry with results (R146,
R153); a WRITE_YIELD that carries another value has failed. Bytes short of a whole frame are kept (R150). The model's
choices in it: log 9 for the verdict on a challenge and the nonce, 22 for bytes that come together. -/
def Obligations.AcceptedReplyCompletesTheExchange : Prop :=
  (∀ (s : State) (e : LinkEntry) (rest : List LinkEntry) (r : Running) (status : Nat) (data : List Byte) (m : Nat)
    (passes : Bool), s.runs e rest r → e.position < 5 →
    (status = 0 ∨ (status = 2 ∧ e.kind.command r.secondExchange = .writeYield)) →
    data.length = (e.kind.command r.secondExchange).replyLength status →
    let reply := chipReply e.position status data
    m < reply.length → r.received (reply.take m) →
    ∃ t, exec (.replyFrame (reply.drop m) passes) s = .next t ∧
      if r.secondExchange = false then
        if e.kind = .sync then
          let read := fieldAt data 0 4
          let new := read - r.capture.getD 0
          t.link =
              s.link.nowRunning
                { r with
                  secondExchange := true, secondAttempt := false, chipYield := some read
                  phase := .sending (requestFrame e.position .writeYield (leBytes 4 read ++ leBytes 4 new)) } ∧
            s.changesOnly t [.link]
        else
          let nonce := Config.nonce s.cipher.draws
          t.link =
              s.link.nowRunning
                { r with
                  secondExchange := true, secondAttempt := false
                  identity :=
                    some { serial := fieldAt data 0 8, modelCode := fieldAt data 8 2, storedYield := fieldAt data 10 4 }
                  nonce := some nonce
                  phase := .sending (requestFrame e.position .challenge (bytesOfBeat nonce)) } ∧
            t.cipher = { s.cipher with draws := s.cipher.draws + 1 } ∧ s.changesOnly t [.link, .cipher]
      else
        let left := s.setLink (s.link.ended none)
        match e.kind with
        | .sync =>
          let new := r.chipYield.getD 0 - r.capture.getD 0
          if fieldAt data 0 4 = new then t = left.syncEnd e.position (r.chipYield.getD 0) new
          else s.failsAttempt t e r
        | .authenticate =>
          let i := r.identity.getD default
          t = left.authenticateEnd e.position ((s.consumableAt e.position).judge e.position i passes) (some i)
        | .recheck =>
          let i := r.identity.getD default
          t = left.recheckEnd e.position ((s.consumableAt e.position).judge e.position i passes) (some i)) ∧
  (∀ (s : State) (e : LinkEntry) (rest : List LinkEntry) (r : Running) (status : Nat) (data : List Byte) (m k : Nat)
    (passes : Bool), s.runs e rest r → e.position < 5 →
    (status < 2 ∨ (status = 2 ∧ e.kind.command r.secondExchange = .writeYield)) →
    data.length = (e.kind.command r.secondExchange).replyLength status →
    let reply := chipReply e.position status data
    0 < k → m + k < reply.length → r.received (reply.take m) →
    ∃ t, exec (.replyFrame ((reply.drop m).take k) passes) s = .next t ∧
      t.link =
        s.link.nowRunning { r with phase := .receiving ((reply.take (m + k)).map LinkByte.value) s.now } ∧
      s.changesOnly t [.link])

/-- An attempt, the first or the second, fails at a reply's first byte that fails a test of R148, wherever it stands, at
a frame with status REFUSED, or when 20 ms pass without a byte; the line goes to QUIET, after which the second attempt
sends the request again; after a failed second attempt the entry ends with LINK_FAILED (R148, R150, R146). The model's
choices in it: log 9 for the nonce, 22 for bytes that come together. -/
def Obligations.FailedAttemptIsMadeAgainOnce : Prop :=
  (∀ (s : State) (e : LinkEntry) (rest : List LinkEntry) (r : Running) (status : Nat) (data : List Byte) (m n : Nat)
    (b : LinkByte) (more : List LinkByte) (passes : Bool), s.runs e rest r → e.position < 5 →
    (status < 2 ∨ (status = 2 ∧ e.kind.command r.secondExchange = .writeYield)) →
    data.length = (e.kind.command r.secondExchange).replyLength status →
    let reply := chipReply e.position status data
    m ≤ n → n < reply.length → r.received (reply.take m) → failsTest (e.kind.command r.secondExchange) reply n b →
    ∃ t, exec (.replyFrame ((reply.take n).drop m ++ b :: more) passes) s = .next t ∧ s.failsAttempt t e r) ∧
  (∀ (s : State) (e : LinkEntry) (rest : List LinkEntry) (r : Running) (m : Nat) (more : List LinkByte)
    (passes : Bool), s.runs e rest r → e.position < 5 →
    let reply := chipReply e.position 1 []
    m < reply.length → r.received (reply.take m) →
    ∃ t, exec (.replyFrame (reply.drop m ++ more) passes) s = .next t ∧ s.failsAttempt t e r) ∧
  (∀ (s : State) (e : LinkEntry) (rest : List LinkEntry) (r : Running) (since : Nat), s.runs e rest r →
    (r.phase = .awaitingReply since ∨ ∃ got, r.phase = .receiving got since) → since + 20000 ≤ s.now →
    ∃ t, exec .replyTimeout s = .next t ∧ s.failsAttempt t e r) ∧
  (∀ (s : State) (e : LinkEntry) (rest : List LinkEntry) (r : Running) (since : Nat), s.runs e rest r →
    r.phase = .quiet since → since + 20000 ≤ s.now → e.kind.command r.secondExchange ≠ .challenge →
    ∃ t, exec .quietEnd s = .next t ∧
      t.link =
        s.link.nowRunning
          { r with
            secondAttempt := true
            phase :=
              .sending
                (requestFrame e.position (e.kind.command r.secondExchange)
                  (if e.kind.command r.secondExchange = .writeYield then
                    leBytes 4 (r.chipYield.getD 0) ++ leBytes 4 (r.chipYield.getD 0 - r.capture.getD 0)
                  else [])) } ∧
      s.changesOnly t [.link]) ∧
  (∀ (s : State) (e : LinkEntry) (rest : List LinkEntry) (r : Running) (since : Nat), s.runs e rest r →
    r.phase = .quiet since → since + 20000 ≤ s.now → e.kind.command r.secondExchange = .challenge →
    ∃ t, exec .quietEnd s = .next t ∧
      let nonce := Config.nonce s.cipher.draws
      t.link =
          s.link.nowRunning
            { r with
              secondAttempt := true, nonce := some nonce
              phase := .sending (requestFrame e.position .challenge (bytesOfBeat nonce)) } ∧
        t.cipher = { s.cipher with draws := s.cipher.draws + 1 } ∧ s.changesOnly t [.link, .cipher]) ∧
  (∀ (s : State) (e : LinkEntry) (rest : List LinkEntry) (since : Nat), s.link.queue = e :: rest →
    s.link.running = none → s.link.quietSince = some since → since + 20000 ≤ s.now →
    ∃ t, exec .quietEnd s = .next t ∧ s.begins t e ∧ t.link.quietSince = none ∧ t.link.queue = e :: rest ∧
      s.changesOnly t [.link, .consumable]) ∧
  (∀ (s : State) (since : Nat), s.link.queue = [] → s.link.running = none → s.link.quietSince = some since →
    since + 20000 ≤ s.now →
    ∃ t, exec .quietEnd s = .next t ∧ t.link = { s.link with quietSince := none } ∧ s.changesOnly t [.link])

/-! ## The meter unit -/

/-- An assertion of PWR_WARN triggers a bank that carries no serial and asks for POWER_WARNING with what it found;
while the line stays asserted nothing further happens, and a release arms it again (R157, R159). A bank's completion
(R158): the banked totals take the captured values, with the serial and tag where it carried them; with BANK_AGAIN set
the next bank begins at once with the pending serial; a completed serial answers the parked SNAPSHOT (R162). The
model's choices in it: log 35 for the moment of completion. -/
def Obligations.BanksBeginAndComplete : Prop :=
  (∀ s : State, s.meter.pwrWarn = false →
    ∃ t, exec .pwrWarn s = .next t ∧
      t.meter = MeterUnit.triggered { s.meter with pwrWarn := true } none s.now ∧
      t.directive =
        s.directive.asked
          [noticeOf .powerWarning
            [u8 (if s.meter.bank = none then 0 else 1), flag8 s.meter.bankAgain, u16 s.meter.sinceBank,
             u64 s.meter.working.sheets]] ∧
      s.changesOnly t [.meter, .directive]) ∧
  (∀ s : State, s.meter.pwrWarn = true → exec .pwrWarn s = .next s) ∧
  (∀ s : State,
    ∃ t, exec .pwrWarnRelease s = .next t ∧ t.meter = { s.meter with pwrWarn := false } ∧ s.changesOnly t [.meter]) ∧
  (∀ (s : State) (b : Bank), s.meter.bank = some b →
    ∃ t, exec .bankComplete s = .next t ∧
      let cells : MeterCells :=
        match b.serial with
        | some x => { s.meter.cells with banked := b.captured, serial := x.serial, tag := x.tag }
        | none => { s.meter.cells with banked := b.captured }
      let answers := b.serial ≠ none ∧ s.meter.work.code = 2
      t.meter.cells = cells ∧ t.meter.working = s.meter.working ∧ t.meter.pwrWarn = s.meter.pwrWarn ∧
        t.meter.work = (if answers then .none else s.meter.work) ∧
        (if s.meter.bankAgain = true then
          t.meter.bank = some { captured := s.meter.working, serial := s.meter.pending, began := s.now } ∧
            t.meter.bankAgain = false ∧ t.meter.pending = none ∧ t.meter.sinceBank = 0
         else
          t.meter.bank = none ∧ t.meter.bankAgain = false ∧ t.meter.pending = s.meter.pending ∧
            t.meter.sinceBank = s.meter.sinceBank) ∧
        t.directive =
          (match b.serial, s.meter.work with
           | some _, .banking base serial parked =>
             { s.directive with
               owned := s.directive.owned.filter fun a => !(a.base == base && a.source == .snapshotArea)
               writes := s.directive.writes ++ [parked.reply (.done [u32 serial]) s.now] }
           | _, _ => s.directive) ∧
        s.changesOnly t [.meter, .directive])

/-- SNAPSHOT (R160) and RESTORE (R163) by their tests in order: accepted, the area is owned, the reply is parked and
the work is in progress. -/
def Obligations.SnapshotAndRestoreAreAccepted : Prop :=
  (∀ (s : State) (d : Directive), s.awaitsOwner .snapshot d →
    ∃ t, exec .snapshot s = .next t ∧
      let base := d.arg areaForm 0
      let parked : Parked := { code := d.code, hostReference := d.hostReference, location := d.location }
      if s.lockdown.mode = .lockdown then s.refuses t d .locked .none 0
      else if base % 64 ≠ 0 then s.refuses t d .refusedRange .badOperand 0
      else if 2 ^ 40 < base + 131264 then s.refuses t d .refusedRange .badRange 0
      else if s.meter.work ≠ .none then s.refuses t d .busy .meterBusy 0
      else if s.meter.cells.serial = 2 ^ 32 - 1 then s.refuses t d .refusedRange .serialEnd 0
      else if s.overlapsRegion base 131264 = true then s.refuses t d .refusedRange .overlapRegion 0
      else if s.overlapsOwned base 131264 = true then s.refuses t d .refusedRange .overlapOwned 0
      else
        t.directive =
            s.movesOn
              { s.directive with
                owned := s.directive.owned ++ [{ base := base, length := 131264, source := .snapshotArea }] } ∧
          t.meter =
            { s.meter with
              work :=
                .composing
                  { base := base, serial := s.meter.cells.serial + 1, parked := parked, accepted := s.now
                    totals := s.meter.working, next := .header, written := [] } } ∧
          s.changesOnly t [.directive, .meter]) ∧
  (∀ (s : State) (d : Directive), s.awaitsOwner .restore d →
    ∃ t, exec .restore s = .next t ∧
      let base := d.arg areaForm 0
      let parked : Parked := { code := d.code, hostReference := d.hostReference, location := d.location }
      if s.lockdown.mode = .lockdown then s.refuses t d .locked .none 0
      else if base % 64 ≠ 0 then s.refuses t d .refusedRange .badOperand 0
      else if 2 ^ 40 < base + 131264 then s.refuses t d .refusedRange .badRange 0
      else if s.meter.work ≠ .none then s.refuses t d .busy .meterBusy 0
      else if s.account.pristine = false then s.refuses t d .refusedState .notPristine 0
      else if s.allSlotsFree = false then s.refuses t d .refusedState .jobsOpen 0
      else if s.overlapsRegion base 131264 = true then s.refuses t d .refusedRange .overlapRegion 0
      else if s.overlapsOwned base 131264 = true then s.refuses t d .refusedRange .overlapOwned 0
      else
        t.directive =
            s.movesOn
              { s.directive with
                owned := s.directive.owned ++ [{ base := base, length := 131264, source := .restoreArea }] } ∧
          t.meter = { s.meter with work := .restoring base parked [] } ∧ s.changesOnly t [.directive, .meter])

/-- The meter unit writes a snapshot part by part in 64 bytes each, every account image as the account stands when it is
copied (R161), and the write of the trailer ends the composition with its tag over every earlier byte and triggers a
bank that carries the serial and the tag (R157, R162). The header, the tariff block, an account image and the trailer
hold their fields at the places of section 13.7 and zeros elsewhere. The model's choices in it: log 10 for the tag, 24
for the trailer. -/
def Obligations.SnapshotIsComposed : Prop :=
  (∀ (serial accepted : Nat) (n : Totals),
    let b := snapshotHeader serial accepted n
    b.take 8 = [0xA7, 0x3E, 0x11, 0xC9, 0x52, 0x0D, 0x8B, 0x64] ∧ fieldAt b 8 4 = serial % 2 ^ 32 ∧
      fieldAt b 12 4 = 0 ∧ fieldAt b 16 8 = accepted % 2 ^ 64 ∧ fieldAt b 24 8 = n.mono % 2 ^ 64 ∧
      fieldAt b 32 8 = n.colour % 2 ^ 64 ∧ fieldAt b 40 8 = n.sheets % 2 ^ 64 ∧ fieldAt b 48 8 = n.scans % 2 ^ 64 ∧
      b.drop 56 = .replicate 8 0) ∧
  (∀ tariffs : Vector Tariff 8,
    let b := tariffBlock (tlist tariffs)
    (∀ c < 8,
      fieldAt b (6 * c) 2 = (tget tariffs c).mono % 2 ^ 16 ∧
        fieldAt b (6 * c + 2) 2 = (tget tariffs c).colour % 2 ^ 16 ∧
        fieldAt b (6 * c + 4) 2 = (tget tariffs c).scan % 2 ^ 16) ∧
      b.drop 48 = .replicate 16 0) ∧
  (∀ (a : Account) (period : BitVec 32),
    let b := a.image period
    fieldAt b 0 1 = a.state.code ∧ fieldAt b 1 1 = a.mode.code ∧ fieldAt b 2 1 = (if a.colour = true then 1 else 0) ∧
      fieldAt b 3 1 = 0 ∧ fieldAt b 4 4 = a.creditLimit % 2 ^ 32 ∧ fieldAt b 8 4 = (a.balance % 2 ^ 32).toNat ∧
      fieldAt b 12 4 = a.reserved % 2 ^ 32 ∧ fieldAt b 16 4 = a.periodMono % 2 ^ 32 ∧
      fieldAt b 20 4 = a.periodColour % 2 ^ 32 ∧ fieldAt b 24 4 = a.periodScan % 2 ^ 32 ∧
      fieldAt b 28 4 = a.lifeMono % 2 ^ 32 ∧ fieldAt b 32 4 = a.lifeColour % 2 ^ 32 ∧
      fieldAt b 36 4 = a.lifeScan % 2 ^ 32 ∧ fieldAt b 40 4 = a.lifeJammed % 2 ^ 32 ∧
      fieldAt b 44 4 = a.unpaid % 2 ^ 32 ∧ fieldAt b 48 4 = a.overdraft % 2 ^ 32 ∧
      fieldAt b 52 4 = a.generation.toNat ∧ fieldAt b 56 4 = period.toNat ∧ b.drop 60 = .replicate 4 0) ∧
  (∀ (serial : Nat) (period : BitVec 32) (time : Nat),
    let b := trailerBody serial period time
    b.take 8 = [0x3B, 0xD8, 0x66, 0xA0, 0xE4, 0x19, 0x7F, 0x25] ∧ fieldAt b 8 4 = serial % 2 ^ 32 ∧
      fieldAt b 12 4 = period.toNat ∧ fieldAt b 16 8 = time % 2 ^ 64 ∧ b.drop 24 = .replicate 24 0) ∧
  (∀ (s : State) (c : Composing), s.meter.work = .composing c → c.next ≠ .trailer → s.memoryCanonical →
    ∃ t, exec .snapshotImageCopy s = .next t ∧
      let part : List Byte × Nat × SnapshotPart :=
        match c.next with
        | .header => (snapshotHeader c.serial c.accepted c.totals, 0, .tariffBlock)
        | .tariffBlock => (tariffBlock (tlist s.charging.tariffs), 64, .image 0)
        | .image i =>
          ((s.accountAt i).image s.account.period, 128 + 64 * i, if i < 2047 then .image (i + 1) else .trailer)
        | .trailer => ([], 0, .trailer)
      part.1.length = 64 ∧ s.storesOnly t (c.base + part.2.1) part.1 ∧
        t.meter = { s.meter with work := .composing { c with next := part.2.2, written := c.written ++ part.1 } } ∧
        s.changesOnly t [.memory, .meter]) ∧
  (∀ (s : State) (c : Composing), s.meter.work = .composing c → c.next = .trailer → s.memoryCanonical →
    ∃ t, exec .snapshotCompositionEnd s = .next t ∧
      let body := trailerBody c.serial s.account.period s.now
      let tag := Config.snapshotTag s.meter.cells.directiveKey (c.written ++ body)
      (body ++ bytesOfBeat tag).length = 64 ∧
        s.storesOnly t (c.base + 131200) (body ++ bytesOfBeat tag) ∧
        t.meter =
          MeterUnit.triggered { s.meter with work := .banking c.base c.serial c.parked }
            (some { serial := c.serial, tag := tag }) s.now ∧
        s.changesOnly t [.memory, .meter])

/-- A restore reads its area in address order (R163); at the end of the reading the tests of R164 decide in order, and
a snapshot that passes them all is loaded: accounts with nothing reserved, period number and tariffs, with the pristine
flag clear. The model's choices in it: log 10 for the tag, 23 for the number of beats of a read. -/
def Obligations.RestoreLoadsWhatPassesEveryTest : Prop :=
  (∀ (s : State) (base beats : Nat) (parked : Parked) (got : List Byte), s.meter.work = .restoring base parked got →
    ∃ t, exec (.restoreAreaRead beats) s = .next t ∧
      t.meter =
        { s.meter with
          work :=
            .restoring base parked
              (got ++ Memory.readBytes s.memory (base + got.length) (min (16 * beats) (131264 - got.length))) } ∧
      s.changesOnly t [.meter]) ∧
  (∀ (s : State) (base : Nat) (parked : Parked) (area : List Byte), s.meter.work = .restoring base parked area →
    area.length = 131264 →
    ∃ t, exec .restoreReadEnd s = .next t ∧
      let ends := fun (a : Answer) (parts : List Part) =>
        t.meter = { s.meter with work := .none } ∧
          t.directive =
            { s.directive with
              owned := s.directive.owned.filter fun x => !(x.base == base && x.source == .restoreArea)
              writes := s.directive.writes ++ [parked.reply a s.now] } ∧
          s.changesOnly t ([.meter, .directive] ++ parts)
      if Config.snapshotTag s.meter.cells.directiveKey (area.take 131248) ≠ beatOfBytes (area.drop 131248) then
        ends (.refuse .refusedRange .badTag) []
      else if contentOk area = false then ends (.refuse .refusedRange .badContent) []
      else if fieldAt area 131208 4 ≠ s.meter.cells.serial ∨ beatOfBytes (area.drop 131248) ≠ s.meter.cells.tag then
        ends (.refuse .refusedState .oldSerial) []
      else if s.account.pristine = false then ends (.refuse .refusedState .notPristine) []
      else
        ends
            (.done
              [u32 (fieldAt area 131208 4), u16 ((tlist t.account.accounts).countP fun a => a.state != .unused),
               u32 t.account.period.toNat])
            [.account, .charging] ∧
          t.account.pristine = false ∧ t.account.period = BitVec.ofNat 32 (fieldAt area 131212 4) ∧
          (∀ i < 2048, ∀ a, accountOfImage ((area.drop (128 + 64 * i)).take 64) = some a →
            let same := fieldAt area (128 + 64 * i + 56) 4 = fieldAt area 131212 4
            t.accountAt i =
              { a with
                reserved := 0
                periodMono := if same then a.periodMono else 0
                periodColour := if same then a.periodColour else 0
                periodScan := if same then a.periodScan else 0 }) ∧
          (∀ c < 8,
            t.tariff c =
              { mono := fieldAt area (64 + 6 * c) 2, colour := fieldAt area (64 + 6 * c + 2) 2
                scan := fieldAt area (64 + 6 * c + 4) 2 }) ∧
          t.charging.sheets = s.charging.sheets)

/-! ## Reset -/

/-- POWER_ON and RESET_N give every unit its reset values (R3, R21, R33, R61, R63, R68, R85, R94, R108, R112, R127,
R143, R144, R156, R157, R172): the accounts are UNUSED and the pristine flag set, the working totals take the banked
ones, a cartridge that is fitted is AUTHENTICATING with authentication pending, and the part starts in LOCKDOWN with
ATTN high exactly where TAMPER_N is low. The meter cells and page memory are kept. The model's choices in it: log 5 for
page memory, 28 for the list of key fault reports, which is empty. -/
def Obligations.ResetGivesEveryUnitItsResetValues : Prop :=
  ∀ s : State, ∃ t u, exec .powerOn s = .next t ∧ exec .resetN s = .next u ∧
    t.lockdown.resetCause = .powerOn ∧ u = { t with lockdown := { t.lockdown with resetCause := .resetLine } } ∧
    t.lockdown.mode = (if s.lockdown.tamperHigh = true then .normal else .lockdown) ∧
    t.lockdown.cause = (if s.lockdown.tamperHigh = true then none else some .tamperAtReset) ∧
    t.lockdown.tamperHigh = s.lockdown.tamperHigh ∧
    (∀ n < 16, (tget t.transaction.roles n : Role) = if n = 0 then .control else .other) ∧
    (∀ i, t.region i = none) ∧ t.transaction.lastScanWrite = none ∧
    (∀ slot, (tget t.cipher.keys slot : Option KeyEntry) = none) ∧ t.cipher.reports = [] ∧
    t.directive =
      { recognised := [], queue := [], executing := none, writes := [], notices := [], owned := [], ring := none
        mask := 0, attn := !s.lockdown.tamperHigh, time := 0 } ∧
    (∀ slot, t.jobAt slot = none) ∧ t.parser.openSide = none ∧ t.charging.sheets = [] ∧
    (∀ c, t.tariff c = { mono := 0, colour := 0, scan := 0 }) ∧
    (∀ i < 2048, t.accountAt i = .unused 0) ∧ t.account.period = 0 ∧ t.account.pristine = true ∧
    (∀ p < 5,
      let level := (tget s.consumable.presence p).level
      t.consumableAt p =
          (if level = true then clearedRecord .authenticating 0 true else clearedRecord .absent 0 false) ∧
        tget t.consumable.presence p = { level := level, settled := level, since := 0 } ∧
        tget t.consumable.schedule p = { interval := 3600, pending := none }) ∧
    t.link = { queue := [], running := none, quietSince := none } ∧
    t.meter =
      { working := s.meter.cells.banked, cells := s.meter.cells, bank := none, bankAgain := false, pending := none
        sinceBank := 0, work := .none, pwrWarn := s.meter.pwrWarn } ∧
    t.memory = s.memory

/-! ## What every step keeps -/

/-- The state after reset meets every law below (R21, R33, R63, R94, R112, R144, R157, R167; page memory lists nothing,
log 4). -/
def Obligations.ResetStateMeetsEveryLaw : Prop :=
  State.reset.memoryCanonical ∧ State.reset.tablesAgree ∧ State.reset.lockdownHoldsNoJob ∧ State.reset.areasLawful ∧
    State.reset.queuesWithinCapacity ∧ State.reset.metersOrdered ∧ State.reset.serialInFlight ∧
    State.reset.ledgerBalanced

/-- Page memory keeps its canonical form, so that equal memories are equal data. The form is the model's own way to hold
the memory behind the manager port, and no rule speaks of it (log 4). -/
def Obligations.MemoryKeepsItsCanonicalForm : Prop :=
  ∀ s t : State, s.memoryCanonical → step s = .next t → t.memoryCanonical

/-- A key is PRESENT exactly where its slot is not FREE (R63), every bound region and the last scan write record belong
to a slot that is not FREE (R6, R16), job numbers are unique (R41), and in LOCKDOWN no job, key, region, last scan
write record or open side remains (R168). -/
def Obligations.TablesThatNameAJobStayInStep : Prop :=
  ∀ s t : State, s.tablesAgree → s.lockdownHoldsNoJob → step s = .next t → t.tablesAgree ∧ t.lockdownHoldsNoJob

/-- No two bound regions overlap, no two owned areas do, no bound region overlaps an owned area, and no two regions of
a job have one segment number (R6, R31). -/
def Obligations.RegionsAndOwnedAreasNeverOverlap : Prop :=
  ∀ s t : State, s.areasLawful → s.lockdownHoldsNoJob → step s = .next t → t.areasLawful

/-- The directive queue, the sheet queue and the link queue keep their capacities (R24, R94, R144, R145). -/
def Obligations.QueuesStayWithinTheirCapacity : Prop :=
  ∀ s t : State, s.queuesWithinCapacity → step s = .next t → t.queuesWithinCapacity

/-- Each working total is never below its banked value and, from one reset to the next, never decreases (R156); the
banked snapshot serial never decreases (R164). -/
def Obligations.WorkingTotalsAndSerialNeverFall : Prop :=
  ∀ s t : State, s.metersOrdered → s.serialInFlight → step s = .next t →
    t.metersOrdered ∧ t.serialInFlight ∧ s.meter.cells.serial ≤ t.meter.cells.serial ∧
      (s.pending.head? ≠ some .powerOn → s.pending.head? ≠ some .resetN → s.meter.working.le t.meter.working)

/-- The law of R114, with what it rests on: each account's balance minus its reserved amount is never below its floor,
an UNMETERED account's reserved amount is zero, and the reserved amount is the sum over the sheet queue (R115). -/
def Obligations.NoAccountFallsBelowItsFloor : Prop :=
  ∀ s t : State, s.ledgerBalanced → step s = .next t → t.ledgerBalanced
end

