-- ==== Sys2Proof/Laws/Bytes.lean ====
section
/-! SUPPORT. Bytes and numbers: lengths of records, little-endian fields and beats turned back, and enciphering turned
back by deciphering. -/

namespace Sys2Proof.Machine

/-! ### Lengths -/

/-- A little-endian field has its width in bytes. -/
@[simp] theorem length_leBytes (w v : Nat) : (leBytes w v).length = w := by
  induction w generalizing v with
  | zero => rfl
  | succ n ih => simp [leBytes, ih]

/-- A padded record has its size in bytes. -/
@[simp] theorem length_padTo (size : Nat) (bytes : List Byte) : (padTo size bytes).length = size := by
  simp [padTo]; omega

/-- A beat has 16 bytes. -/
@[simp] theorem length_bytesOfBeat (b : Beat) : (bytesOfBeat b).length = 16 := by
  rw [bytesOfBeat, length_leBytes]

/-- A reply has 64 bytes (13.1). -/
@[simp] theorem length_replyBytes (r : Reply) : r.bytes.length = 64 := by
  unfold Reply.bytes
  simp only [List.length_append, length_leBytes, length_padTo]
  rfl

/-- A job summary has 64 bytes (13.6). -/
@[simp] theorem length_summaryBytes (m : JobSummary) : m.bytes.length = 64 := by
  unfold JobSummary.bytes
  simp only [List.length_append, length_leBytes]
  rfl

/-- A notice has 32 bytes (13.4). -/
@[simp] theorem length_noticeBytes (q : NoticeRequest) (time : Nat) : (q.bytes time).length = 32 := by
  unfold NoticeRequest.bytes
  simp only [List.length_append, length_leBytes, length_padTo]
  rfl

/-! ### Numbers and beats -/

/-- The number that bytes spell is below the power of their length. -/
theorem leNat_lt (bytes : List Byte) : leNat bytes < 256 ^ bytes.length := by
  induction bytes with
  | nil => simp [leNat]
  | cons b bs ih =>
    have := b.isLt
    simp only [leNat, List.length_cons, pow_succ]
    omega

/-- Bytes are the little-endian field of the number they spell. -/
theorem leBytes_leNat (bytes : List Byte) : leBytes bytes.length (leNat bytes) = bytes := by
  induction bytes with
  | nil => rfl
  | cons b bs ih =>
    have := b.isLt
    simp only [List.length_cons, leNat, leBytes]
    have quotient : (b.toNat + 256 * leNat bs) / 256 = leNat bs := by omega
    rw [quotient, ih]
    congr 1
    apply BitVec.eq_of_toNat_eq
    simp
    omega

/-- A number that fits a field is the number its bytes spell. -/
theorem leNat_leBytes (w v : Nat) (h : v < 256 ^ w) : leNat (leBytes w v) = v := by
  induction w generalizing v with
  | zero => simp at h; simp [leBytes, leNat, h]
  | succ n ih =>
    simp only [leBytes, leNat]
    rw [ih _ (by rw [pow_succ] at h; omega)]
    simp; omega

/-- A field of some bytes is below the power of its width. -/
theorem fieldAt_lt (bytes : List Byte) (offset width : Nat) : fieldAt bytes offset width < 256 ^ width := by
  unfold fieldAt
  refine lt_of_lt_of_le (leNat_lt _) (Nat.pow_le_pow_right (by norm_num) ?_)
  simp

/-- Sixteen bytes are the bytes of the beat they make. -/
theorem bytesOfBeat_beatOfBytes {bytes : List Byte} (h : bytes.length = 16) :
    bytesOfBeat (beatOfBytes bytes) = bytes := by
  have bound := leNat_lt bytes
  rw [h] at bound
  simp only [bytesOfBeat, beatOfBytes, BitVec.toNat_ofNat]
  rw [Nat.mod_eq_of_lt (by norm_num at bound ⊢; exact bound), ← h, leBytes_leNat]

/-- A beat is the one its bytes make. -/
@[simp] theorem beatOfBytes_bytesOfBeat (b : Beat) : beatOfBytes (bytesOfBeat b) = b := by
  simp only [bytesOfBeat, beatOfBytes]
  rw [leNat_leBytes _ _ (by have := b.isLt; norm_num at this ⊢; exact this)]
  simp

/-! ### Beats in a row -/

/-- As many beats in a row have sixteen times as many bytes. -/
theorem length_flatMap_beats (f : Nat → List Byte) (hf : ∀ k, (f k).length = 16) (n : Nat) :
    ((List.range n).flatMap f).length = 16 * n := by
  induction n with
  | zero => rfl
  | succ n ih =>
    rw [List.range_succ, List.flatMap_append, List.length_append, ih]
    simp [hf]; omega

/-- Beat number `k` of beats in a row. -/
theorem flatMap_beat (f : Nat → List Byte) (hf : ∀ k, (f k).length = 16) (n k : Nat) (hk : k < n) :
    (((List.range n).flatMap f).drop (16 * k)).take 16 = f k := by
  induction n with
  | zero => omega
  | succ n ih =>
    rw [List.range_succ, List.flatMap_append]
    by_cases h : k < n
    · rw [List.drop_append_of_le_length (by rw [length_flatMap_beats f hf]; omega),
        List.take_append_of_le_length (by simp [length_flatMap_beats f hf]; omega), ih h]
    · have : k = n := by omega
      subst this
      rw [List.drop_append]
      simp [length_flatMap_beats f hf, List.drop_eq_nil_of_le, hf]

/-- Bytes are their beats in a row. -/
theorem beats_join (d : List Byte) (n : Nat) (h : d.length = 16 * n) :
    (List.range n).flatMap (fun k => (d.drop (16 * k)).take 16) = d := by
  induction n generalizing d with
  | zero => simp at h; simp [h]
  | succ n ih =>
    rw [List.range_succ_eq_map, List.flatMap_cons, List.flatMap_map]
    have tail := ih (d.drop 16) (by simp; omega)
    conv_rhs => rw [← List.take_append_drop 16 d]
    congr 1
    conv_rhs => rw [← tail]
    apply congrArg (fun f => List.flatMap f (List.range n))
    funext k
    rw [List.drop_drop]
    congr 2; omega

/-- Enciphered beats have sixteen bytes each. -/
@[simp] theorem length_encipherBeats (key : JobKey) (segment first beats : Nat) (data : List Byte) :
    (encipherBeats key segment first beats data).length = 16 * beats :=
  length_flatMap_beats _ (fun _ => length_bytesOfBeat _) beats

/-- Deciphered beats have sixteen bytes each. -/
@[simp] theorem length_decipherBeats (key : JobKey) (segment first beats : Nat) (data : List Byte) :
    (decipherBeats key segment first beats data).length = 16 * beats :=
  length_flatMap_beats _ (fun _ => length_bytesOfBeat _) beats

/-- Deciphering under the same key and tweak turns enciphering back (R66). -/
theorem decipher_encipher (key : JobKey) (segment first n : Nat) (d : List Byte) (h : d.length = 16 * n) :
    decipherBeats key segment first n (encipherBeats key segment first n d) = d := by
  conv_rhs => rw [← beats_join d n h]
  unfold decipherBeats
  rw [List.flatMap_def, List.flatMap_def]
  congr 1
  apply List.map_congr_left
  intro k hk
  rw [List.mem_range] at hk
  let f := fun k => bytesOfBeat (Config.cipher key { segment := segment, beat := first + k } (beatAt d k))
  have beat : beatAt (encipherBeats key segment first n d) k =
      Config.cipher key { segment := segment, beat := first + k } (beatAt d k) := by
    show beatOfBytes ((((List.range n).flatMap f).drop (16 * k)).take 16) = _
    rw [flatMap_beat f (fun _ => length_bytesOfBeat _) n k hk, beatOfBytes_bytesOfBeat]
  rw [beat, Equiv.symm_apply_apply, beatAt, bytesOfBeat_beatOfBytes]
  simp; omega

/-- Deciphering some of the beats turns their enciphering back (R66). -/
theorem decipher_encipher_part (key : JobKey) (segment first : Nat) {k n l : Nat} (d : List Byte)
    (h : d.length = 16 * l) (hk : k + n ≤ l) :
    decipherBeats key segment (first + k) n
        (((encipherBeats key segment first l d).drop (16 * k)).take (16 * n)) =
      (d.drop (16 * k)).take (16 * n) := by
  have hd : ((d.drop (16 * k)).take (16 * n)).length = 16 * n := by simp; omega
  conv_rhs => rw [← beats_join _ n hd]
  unfold decipherBeats
  rw [List.flatMap_def, List.flatMap_def]
  congr 1
  apply List.map_congr_left
  intro i hi
  rw [List.mem_range] at hi
  let f := fun k => bytesOfBeat (Config.cipher key { segment := segment, beat := first + k } (beatAt d k))
  have cut : ∀ x : List Byte, ((((x.drop (16 * k)).take (16 * n)).drop (16 * i)).take 16) =
      (x.drop (16 * (k + i))).take 16 := by
    intro x
    rw [List.drop_take, List.take_take, List.drop_drop, Nat.mul_add, min_eq_left (by omega)]
  have beat : beatAt (((encipherBeats key segment first l d).drop (16 * k)).take (16 * n)) i =
      Config.cipher key { segment := segment, beat := first + (k + i) } (beatAt d (k + i)) := by
    unfold beatAt
    rw [cut]
    show beatOfBytes ((((List.range l).flatMap f).drop (16 * (k + i))).take 16) = _
    rw [flatMap_beat f (fun _ => length_bytesOfBeat _) l (k + i) (by omega), beatOfBytes_bytesOfBeat]
    rfl
  rw [beat, cut, ← Nat.add_assoc, Equiv.symm_apply_apply, beatAt, bytesOfBeat_beatOfBytes]
  simp; omega

end Sys2Proof.Machine
end

