-- ==== Sys2Proof/Laws/State.lean ====
section
/-! SUPPORT. One lemma for each field after each update of the state, true by computation, so that no proof unfolds
an update. -/

namespace Sys2Proof.Machine

/-! ### setMemory -/

@[simp] theorem setMemory_transaction (s : State) (m : List Host.Cell) :
    (s.setMemory m).transaction =
      s.transaction := rfl
@[simp] theorem setMemory_cipher (s : State) (m : List Host.Cell) : (s.setMemory m).cipher = s.cipher := rfl
@[simp] theorem setMemory_directive (s : State) (m : List Host.Cell) : (s.setMemory m).directive = s.directive := rfl
@[simp] theorem setMemory_job (s : State) (m : List Host.Cell) : (s.setMemory m).job = s.job := rfl
@[simp] theorem setMemory_parser (s : State) (m : List Host.Cell) : (s.setMemory m).parser = s.parser := rfl
@[simp] theorem setMemory_charging (s : State) (m : List Host.Cell) : (s.setMemory m).charging = s.charging := rfl
@[simp] theorem setMemory_account (s : State) (m : List Host.Cell) : (s.setMemory m).account = s.account := rfl
@[simp] theorem setMemory_consumable (s : State) (m : List Host.Cell) :
    (s.setMemory m).consumable =
      s.consumable := rfl
@[simp] theorem setMemory_link (s : State) (m : List Host.Cell) : (s.setMemory m).link = s.link := rfl
@[simp] theorem setMemory_meter (s : State) (m : List Host.Cell) : (s.setMemory m).meter = s.meter := rfl
@[simp] theorem setMemory_lockdown (s : State) (m : List Host.Cell) : (s.setMemory m).lockdown = s.lockdown := rfl
@[simp] theorem setMemory_memory (s : State) (m : List Host.Cell) : (s.setMemory m).memory = m := rfl
@[simp] theorem setMemory_pending (s : State) (m : List Host.Cell) : (s.setMemory m).pending = s.pending := rfl

/-! ### setTransaction -/

@[simp] theorem setTransaction_transaction (s : State) (u : TransactionUnit) :
    (s.setTransaction u).transaction =
      u := rfl
@[simp] theorem setTransaction_cipher (s : State) (u : TransactionUnit) :
    (s.setTransaction u).cipher =
      s.cipher := rfl
@[simp] theorem setTransaction_directive (s : State) (u : TransactionUnit) :
    (s.setTransaction u).directive =
      s.directive := rfl
@[simp] theorem setTransaction_job (s : State) (u : TransactionUnit) : (s.setTransaction u).job = s.job := rfl
@[simp] theorem setTransaction_parser (s : State) (u : TransactionUnit) :
    (s.setTransaction u).parser =
      s.parser := rfl
@[simp] theorem setTransaction_charging (s : State) (u : TransactionUnit) :
    (s.setTransaction u).charging =
      s.charging := rfl
@[simp] theorem setTransaction_account (s : State) (u : TransactionUnit) :
    (s.setTransaction u).account =
      s.account := rfl
@[simp] theorem setTransaction_consumable (s : State) (u : TransactionUnit) :
    (s.setTransaction u).consumable =
      s.consumable := rfl
@[simp] theorem setTransaction_link (s : State) (u : TransactionUnit) : (s.setTransaction u).link = s.link := rfl
@[simp] theorem setTransaction_meter (s : State) (u : TransactionUnit) : (s.setTransaction u).meter = s.meter := rfl
@[simp] theorem setTransaction_lockdown (s : State) (u : TransactionUnit) :
    (s.setTransaction u).lockdown =
      s.lockdown := rfl
@[simp] theorem setTransaction_memory (s : State) (u : TransactionUnit) :
    (s.setTransaction u).memory =
      s.memory := rfl
@[simp] theorem setTransaction_pending (s : State) (u : TransactionUnit) :
    (s.setTransaction u).pending =
      s.pending := rfl

/-! ### setCipher -/

@[simp] theorem setCipher_transaction (s : State) (u : CipherUnit) :
    (s.setCipher u).transaction =
      s.transaction := rfl
@[simp] theorem setCipher_cipher (s : State) (u : CipherUnit) : (s.setCipher u).cipher = u := rfl
@[simp] theorem setCipher_directive (s : State) (u : CipherUnit) : (s.setCipher u).directive = s.directive := rfl
@[simp] theorem setCipher_job (s : State) (u : CipherUnit) : (s.setCipher u).job = s.job := rfl
@[simp] theorem setCipher_parser (s : State) (u : CipherUnit) : (s.setCipher u).parser = s.parser := rfl
@[simp] theorem setCipher_charging (s : State) (u : CipherUnit) : (s.setCipher u).charging = s.charging := rfl
@[simp] theorem setCipher_account (s : State) (u : CipherUnit) : (s.setCipher u).account = s.account := rfl
@[simp] theorem setCipher_consumable (s : State) (u : CipherUnit) : (s.setCipher u).consumable = s.consumable := rfl
@[simp] theorem setCipher_link (s : State) (u : CipherUnit) : (s.setCipher u).link = s.link := rfl
@[simp] theorem setCipher_meter (s : State) (u : CipherUnit) : (s.setCipher u).meter = s.meter := rfl
@[simp] theorem setCipher_lockdown (s : State) (u : CipherUnit) : (s.setCipher u).lockdown = s.lockdown := rfl
@[simp] theorem setCipher_memory (s : State) (u : CipherUnit) : (s.setCipher u).memory = s.memory := rfl
@[simp] theorem setCipher_pending (s : State) (u : CipherUnit) : (s.setCipher u).pending = s.pending := rfl

/-! ### setDirective -/

@[simp] theorem setDirective_transaction (s : State) (u : DirectiveUnit) :
    (s.setDirective u).transaction =
      s.transaction := rfl
@[simp] theorem setDirective_cipher (s : State) (u : DirectiveUnit) : (s.setDirective u).cipher = s.cipher := rfl
@[simp] theorem setDirective_directive (s : State) (u : DirectiveUnit) : (s.setDirective u).directive = u := rfl
@[simp] theorem setDirective_job (s : State) (u : DirectiveUnit) : (s.setDirective u).job = s.job := rfl
@[simp] theorem setDirective_parser (s : State) (u : DirectiveUnit) : (s.setDirective u).parser = s.parser := rfl
@[simp] theorem setDirective_charging (s : State) (u : DirectiveUnit) :
    (s.setDirective u).charging =
      s.charging := rfl
@[simp] theorem setDirective_account (s : State) (u : DirectiveUnit) : (s.setDirective u).account = s.account := rfl
@[simp] theorem setDirective_consumable (s : State) (u : DirectiveUnit) :
    (s.setDirective u).consumable =
      s.consumable := rfl
@[simp] theorem setDirective_link (s : State) (u : DirectiveUnit) : (s.setDirective u).link = s.link := rfl
@[simp] theorem setDirective_meter (s : State) (u : DirectiveUnit) : (s.setDirective u).meter = s.meter := rfl
@[simp] theorem setDirective_lockdown (s : State) (u : DirectiveUnit) :
    (s.setDirective u).lockdown =
      s.lockdown := rfl
@[simp] theorem setDirective_memory (s : State) (u : DirectiveUnit) : (s.setDirective u).memory = s.memory := rfl
@[simp] theorem setDirective_pending (s : State) (u : DirectiveUnit) : (s.setDirective u).pending = s.pending := rfl

/-! ### setJobs -/

@[simp] theorem setJobs_transaction (s : State) (u : JobUnit) : (s.setJobs u).transaction = s.transaction := rfl
@[simp] theorem setJobs_cipher (s : State) (u : JobUnit) : (s.setJobs u).cipher = s.cipher := rfl
@[simp] theorem setJobs_directive (s : State) (u : JobUnit) : (s.setJobs u).directive = s.directive := rfl
@[simp] theorem setJobs_job (s : State) (u : JobUnit) : (s.setJobs u).job = u := rfl
@[simp] theorem setJobs_parser (s : State) (u : JobUnit) : (s.setJobs u).parser = s.parser := rfl
@[simp] theorem setJobs_charging (s : State) (u : JobUnit) : (s.setJobs u).charging = s.charging := rfl
@[simp] theorem setJobs_account (s : State) (u : JobUnit) : (s.setJobs u).account = s.account := rfl
@[simp] theorem setJobs_consumable (s : State) (u : JobUnit) : (s.setJobs u).consumable = s.consumable := rfl
@[simp] theorem setJobs_link (s : State) (u : JobUnit) : (s.setJobs u).link = s.link := rfl
@[simp] theorem setJobs_meter (s : State) (u : JobUnit) : (s.setJobs u).meter = s.meter := rfl
@[simp] theorem setJobs_lockdown (s : State) (u : JobUnit) : (s.setJobs u).lockdown = s.lockdown := rfl
@[simp] theorem setJobs_memory (s : State) (u : JobUnit) : (s.setJobs u).memory = s.memory := rfl
@[simp] theorem setJobs_pending (s : State) (u : JobUnit) : (s.setJobs u).pending = s.pending := rfl

/-! ### setParser -/

@[simp] theorem setParser_transaction (s : State) (u : BandParser) :
    (s.setParser u).transaction =
      s.transaction := rfl
@[simp] theorem setParser_cipher (s : State) (u : BandParser) : (s.setParser u).cipher = s.cipher := rfl
@[simp] theorem setParser_directive (s : State) (u : BandParser) : (s.setParser u).directive = s.directive := rfl
@[simp] theorem setParser_job (s : State) (u : BandParser) : (s.setParser u).job = s.job := rfl
@[simp] theorem setParser_parser (s : State) (u : BandParser) : (s.setParser u).parser = u := rfl
@[simp] theorem setParser_charging (s : State) (u : BandParser) : (s.setParser u).charging = s.charging := rfl
@[simp] theorem setParser_account (s : State) (u : BandParser) : (s.setParser u).account = s.account := rfl
@[simp] theorem setParser_consumable (s : State) (u : BandParser) : (s.setParser u).consumable = s.consumable := rfl
@[simp] theorem setParser_link (s : State) (u : BandParser) : (s.setParser u).link = s.link := rfl
@[simp] theorem setParser_meter (s : State) (u : BandParser) : (s.setParser u).meter = s.meter := rfl
@[simp] theorem setParser_lockdown (s : State) (u : BandParser) : (s.setParser u).lockdown = s.lockdown := rfl
@[simp] theorem setParser_memory (s : State) (u : BandParser) : (s.setParser u).memory = s.memory := rfl
@[simp] theorem setParser_pending (s : State) (u : BandParser) : (s.setParser u).pending = s.pending := rfl

/-! ### setCharging -/

@[simp] theorem setCharging_transaction (s : State) (u : ChargingUnit) :
    (s.setCharging u).transaction =
      s.transaction := rfl
@[simp] theorem setCharging_cipher (s : State) (u : ChargingUnit) : (s.setCharging u).cipher = s.cipher := rfl
@[simp] theorem setCharging_directive (s : State) (u : ChargingUnit) :
    (s.setCharging u).directive =
      s.directive := rfl
@[simp] theorem setCharging_job (s : State) (u : ChargingUnit) : (s.setCharging u).job = s.job := rfl
@[simp] theorem setCharging_parser (s : State) (u : ChargingUnit) : (s.setCharging u).parser = s.parser := rfl
@[simp] theorem setCharging_charging (s : State) (u : ChargingUnit) : (s.setCharging u).charging = u := rfl
@[simp] theorem setCharging_account (s : State) (u : ChargingUnit) : (s.setCharging u).account = s.account := rfl
@[simp] theorem setCharging_consumable (s : State) (u : ChargingUnit) :
    (s.setCharging u).consumable =
      s.consumable := rfl
@[simp] theorem setCharging_link (s : State) (u : ChargingUnit) : (s.setCharging u).link = s.link := rfl
@[simp] theorem setCharging_meter (s : State) (u : ChargingUnit) : (s.setCharging u).meter = s.meter := rfl
@[simp] theorem setCharging_lockdown (s : State) (u : ChargingUnit) : (s.setCharging u).lockdown = s.lockdown := rfl
@[simp] theorem setCharging_memory (s : State) (u : ChargingUnit) : (s.setCharging u).memory = s.memory := rfl
@[simp] theorem setCharging_pending (s : State) (u : ChargingUnit) : (s.setCharging u).pending = s.pending := rfl

/-! ### setAccounts -/

@[simp] theorem setAccounts_transaction (s : State) (u : AccountUnit) :
    (s.setAccounts u).transaction =
      s.transaction := rfl
@[simp] theorem setAccounts_cipher (s : State) (u : AccountUnit) : (s.setAccounts u).cipher = s.cipher := rfl
@[simp] theorem setAccounts_directive (s : State) (u : AccountUnit) : (s.setAccounts u).directive = s.directive := rfl
@[simp] theorem setAccounts_job (s : State) (u : AccountUnit) : (s.setAccounts u).job = s.job := rfl
@[simp] theorem setAccounts_parser (s : State) (u : AccountUnit) : (s.setAccounts u).parser = s.parser := rfl
@[simp] theorem setAccounts_charging (s : State) (u : AccountUnit) : (s.setAccounts u).charging = s.charging := rfl
@[simp] theorem setAccounts_account (s : State) (u : AccountUnit) : (s.setAccounts u).account = u := rfl
@[simp] theorem setAccounts_consumable (s : State) (u : AccountUnit) :
    (s.setAccounts u).consumable =
      s.consumable := rfl
@[simp] theorem setAccounts_link (s : State) (u : AccountUnit) : (s.setAccounts u).link = s.link := rfl
@[simp] theorem setAccounts_meter (s : State) (u : AccountUnit) : (s.setAccounts u).meter = s.meter := rfl
@[simp] theorem setAccounts_lockdown (s : State) (u : AccountUnit) : (s.setAccounts u).lockdown = s.lockdown := rfl
@[simp] theorem setAccounts_memory (s : State) (u : AccountUnit) : (s.setAccounts u).memory = s.memory := rfl
@[simp] theorem setAccounts_pending (s : State) (u : AccountUnit) : (s.setAccounts u).pending = s.pending := rfl

/-! ### setConsumables -/

@[simp] theorem setConsumables_transaction (s : State) (u : ConsumableUnit) :
    (s.setConsumables u).transaction =
      s.transaction := rfl
@[simp] theorem setConsumables_cipher (s : State) (u : ConsumableUnit) : (s.setConsumables u).cipher = s.cipher := rfl
@[simp] theorem setConsumables_directive (s : State) (u : ConsumableUnit) :
    (s.setConsumables u).directive =
      s.directive := rfl
@[simp] theorem setConsumables_job (s : State) (u : ConsumableUnit) : (s.setConsumables u).job = s.job := rfl
@[simp] theorem setConsumables_parser (s : State) (u : ConsumableUnit) : (s.setConsumables u).parser = s.parser := rfl
@[simp] theorem setConsumables_charging (s : State) (u : ConsumableUnit) :
    (s.setConsumables u).charging =
      s.charging := rfl
@[simp] theorem setConsumables_account (s : State) (u : ConsumableUnit) :
    (s.setConsumables u).account =
      s.account := rfl
@[simp] theorem setConsumables_consumable (s : State) (u : ConsumableUnit) :
    (s.setConsumables u).consumable =
      u := rfl
@[simp] theorem setConsumables_link (s : State) (u : ConsumableUnit) : (s.setConsumables u).link = s.link := rfl
@[simp] theorem setConsumables_meter (s : State) (u : ConsumableUnit) : (s.setConsumables u).meter = s.meter := rfl
@[simp] theorem setConsumables_lockdown (s : State) (u : ConsumableUnit) :
    (s.setConsumables u).lockdown =
      s.lockdown := rfl
@[simp] theorem setConsumables_memory (s : State) (u : ConsumableUnit) : (s.setConsumables u).memory = s.memory := rfl
@[simp] theorem setConsumables_pending (s : State) (u : ConsumableUnit) :
    (s.setConsumables u).pending =
      s.pending := rfl

/-! ### setLink -/

@[simp] theorem setLink_transaction (s : State) (u : LinkUnit) : (s.setLink u).transaction = s.transaction := rfl
@[simp] theorem setLink_cipher (s : State) (u : LinkUnit) : (s.setLink u).cipher = s.cipher := rfl
@[simp] theorem setLink_directive (s : State) (u : LinkUnit) : (s.setLink u).directive = s.directive := rfl
@[simp] theorem setLink_job (s : State) (u : LinkUnit) : (s.setLink u).job = s.job := rfl
@[simp] theorem setLink_parser (s : State) (u : LinkUnit) : (s.setLink u).parser = s.parser := rfl
@[simp] theorem setLink_charging (s : State) (u : LinkUnit) : (s.setLink u).charging = s.charging := rfl
@[simp] theorem setLink_account (s : State) (u : LinkUnit) : (s.setLink u).account = s.account := rfl
@[simp] theorem setLink_consumable (s : State) (u : LinkUnit) : (s.setLink u).consumable = s.consumable := rfl
@[simp] theorem setLink_link (s : State) (u : LinkUnit) : (s.setLink u).link = u := rfl
@[simp] theorem setLink_meter (s : State) (u : LinkUnit) : (s.setLink u).meter = s.meter := rfl
@[simp] theorem setLink_lockdown (s : State) (u : LinkUnit) : (s.setLink u).lockdown = s.lockdown := rfl
@[simp] theorem setLink_memory (s : State) (u : LinkUnit) : (s.setLink u).memory = s.memory := rfl
@[simp] theorem setLink_pending (s : State) (u : LinkUnit) : (s.setLink u).pending = s.pending := rfl

/-! ### setMeter -/

@[simp] theorem setMeter_transaction (s : State) (u : MeterUnit) : (s.setMeter u).transaction = s.transaction := rfl
@[simp] theorem setMeter_cipher (s : State) (u : MeterUnit) : (s.setMeter u).cipher = s.cipher := rfl
@[simp] theorem setMeter_directive (s : State) (u : MeterUnit) : (s.setMeter u).directive = s.directive := rfl
@[simp] theorem setMeter_job (s : State) (u : MeterUnit) : (s.setMeter u).job = s.job := rfl
@[simp] theorem setMeter_parser (s : State) (u : MeterUnit) : (s.setMeter u).parser = s.parser := rfl
@[simp] theorem setMeter_charging (s : State) (u : MeterUnit) : (s.setMeter u).charging = s.charging := rfl
@[simp] theorem setMeter_account (s : State) (u : MeterUnit) : (s.setMeter u).account = s.account := rfl
@[simp] theorem setMeter_consumable (s : State) (u : MeterUnit) : (s.setMeter u).consumable = s.consumable := rfl
@[simp] theorem setMeter_link (s : State) (u : MeterUnit) : (s.setMeter u).link = s.link := rfl
@[simp] theorem setMeter_meter (s : State) (u : MeterUnit) : (s.setMeter u).meter = u := rfl
@[simp] theorem setMeter_lockdown (s : State) (u : MeterUnit) : (s.setMeter u).lockdown = s.lockdown := rfl
@[simp] theorem setMeter_memory (s : State) (u : MeterUnit) : (s.setMeter u).memory = s.memory := rfl
@[simp] theorem setMeter_pending (s : State) (u : MeterUnit) : (s.setMeter u).pending = s.pending := rfl

/-! ### setLockdown -/

@[simp] theorem setLockdown_transaction (s : State) (u : LockdownControl) :
    (s.setLockdown u).transaction =
      s.transaction := rfl
@[simp] theorem setLockdown_cipher (s : State) (u : LockdownControl) : (s.setLockdown u).cipher = s.cipher := rfl
@[simp] theorem setLockdown_directive (s : State) (u : LockdownControl) :
    (s.setLockdown u).directive =
      s.directive := rfl
@[simp] theorem setLockdown_job (s : State) (u : LockdownControl) : (s.setLockdown u).job = s.job := rfl
@[simp] theorem setLockdown_parser (s : State) (u : LockdownControl) : (s.setLockdown u).parser = s.parser := rfl
@[simp] theorem setLockdown_charging (s : State) (u : LockdownControl) :
    (s.setLockdown u).charging =
      s.charging := rfl
@[simp] theorem setLockdown_account (s : State) (u : LockdownControl) : (s.setLockdown u).account = s.account := rfl
@[simp] theorem setLockdown_consumable (s : State) (u : LockdownControl) :
    (s.setLockdown u).consumable =
      s.consumable := rfl
@[simp] theorem setLockdown_link (s : State) (u : LockdownControl) : (s.setLockdown u).link = s.link := rfl
@[simp] theorem setLockdown_meter (s : State) (u : LockdownControl) : (s.setLockdown u).meter = s.meter := rfl
@[simp] theorem setLockdown_lockdown (s : State) (u : LockdownControl) : (s.setLockdown u).lockdown = u := rfl
@[simp] theorem setLockdown_memory (s : State) (u : LockdownControl) : (s.setLockdown u).memory = s.memory := rfl
@[simp] theorem setLockdown_pending (s : State) (u : LockdownControl) : (s.setLockdown u).pending = s.pending := rfl

/-! ### store -/

@[simp] theorem store_transaction (s : State) (a : Nat) (bs : List Byte) :
    (s.store a bs).transaction =
      s.transaction := rfl
@[simp] theorem store_cipher (s : State) (a : Nat) (bs : List Byte) : (s.store a bs).cipher = s.cipher := rfl
@[simp] theorem store_directive (s : State) (a : Nat) (bs : List Byte) : (s.store a bs).directive = s.directive := rfl
@[simp] theorem store_job (s : State) (a : Nat) (bs : List Byte) : (s.store a bs).job = s.job := rfl
@[simp] theorem store_parser (s : State) (a : Nat) (bs : List Byte) : (s.store a bs).parser = s.parser := rfl
@[simp] theorem store_charging (s : State) (a : Nat) (bs : List Byte) : (s.store a bs).charging = s.charging := rfl
@[simp] theorem store_account (s : State) (a : Nat) (bs : List Byte) : (s.store a bs).account = s.account := rfl
@[simp] theorem store_consumable (s : State) (a : Nat) (bs : List Byte) :
    (s.store a bs).consumable =
      s.consumable := rfl
@[simp] theorem store_link (s : State) (a : Nat) (bs : List Byte) : (s.store a bs).link = s.link := rfl
@[simp] theorem store_meter (s : State) (a : Nat) (bs : List Byte) : (s.store a bs).meter = s.meter := rfl
@[simp] theorem store_lockdown (s : State) (a : Nat) (bs : List Byte) : (s.store a bs).lockdown = s.lockdown := rfl
@[simp] theorem store_memory (s : State) (a : Nat) (bs : List Byte) :
    (s.store a bs).memory =
      Memory.writeBytes s.memory a bs := rfl
@[simp] theorem store_pending (s : State) (a : Nat) (bs : List Byte) : (s.store a bs).pending = s.pending := rfl

/-! ### setRegion -/

@[simp] theorem setRegion_transaction (s : State) (i : Nat) (r : Option Region) :
    (s.setRegion i r).transaction =
      { s.transaction with regions := tset s.transaction.regions i r } := rfl
@[simp] theorem setRegion_cipher (s : State) (i : Nat) (r : Option Region) :
    (s.setRegion i r).cipher =
      s.cipher := rfl
@[simp] theorem setRegion_directive (s : State) (i : Nat) (r : Option Region) :
    (s.setRegion i r).directive =
      s.directive := rfl
@[simp] theorem setRegion_job (s : State) (i : Nat) (r : Option Region) : (s.setRegion i r).job = s.job := rfl
@[simp] theorem setRegion_parser (s : State) (i : Nat) (r : Option Region) :
    (s.setRegion i r).parser =
      s.parser := rfl
@[simp] theorem setRegion_charging (s : State) (i : Nat) (r : Option Region) :
    (s.setRegion i r).charging =
      s.charging := rfl
@[simp] theorem setRegion_account (s : State) (i : Nat) (r : Option Region) :
    (s.setRegion i r).account =
      s.account := rfl
@[simp] theorem setRegion_consumable (s : State) (i : Nat) (r : Option Region) :
    (s.setRegion i r).consumable =
      s.consumable := rfl
@[simp] theorem setRegion_link (s : State) (i : Nat) (r : Option Region) : (s.setRegion i r).link = s.link := rfl
@[simp] theorem setRegion_meter (s : State) (i : Nat) (r : Option Region) : (s.setRegion i r).meter = s.meter := rfl
@[simp] theorem setRegion_lockdown (s : State) (i : Nat) (r : Option Region) :
    (s.setRegion i r).lockdown =
      s.lockdown := rfl
@[simp] theorem setRegion_memory (s : State) (i : Nat) (r : Option Region) :
    (s.setRegion i r).memory =
      s.memory := rfl
@[simp] theorem setRegion_pending (s : State) (i : Nat) (r : Option Region) :
    (s.setRegion i r).pending =
      s.pending := rfl

/-! ### respond -/

@[simp] theorem respond_transaction (s : State) (q : Nat) (ok : Bool) (bs : List Byte) :
    (s.respond q ok bs).transaction =
      { s.transaction with response := some { requester := q, okay := ok, data := bs } } := rfl
@[simp] theorem respond_cipher (s : State) (q : Nat) (ok : Bool) (bs : List Byte) :
    (s.respond q ok bs).cipher =
      s.cipher := rfl
@[simp] theorem respond_directive (s : State) (q : Nat) (ok : Bool) (bs : List Byte) :
    (s.respond q ok bs).directive =
      s.directive := rfl
@[simp] theorem respond_job (s : State) (q : Nat) (ok : Bool) (bs : List Byte) :
    (s.respond q ok bs).job =
      s.job := rfl
@[simp] theorem respond_parser (s : State) (q : Nat) (ok : Bool) (bs : List Byte) :
    (s.respond q ok bs).parser =
      s.parser := rfl
@[simp] theorem respond_charging (s : State) (q : Nat) (ok : Bool) (bs : List Byte) :
    (s.respond q ok bs).charging =
      s.charging := rfl
@[simp] theorem respond_account (s : State) (q : Nat) (ok : Bool) (bs : List Byte) :
    (s.respond q ok bs).account =
      s.account := rfl
@[simp] theorem respond_consumable (s : State) (q : Nat) (ok : Bool) (bs : List Byte) :
    (s.respond q ok bs).consumable =
      s.consumable := rfl
@[simp] theorem respond_link (s : State) (q : Nat) (ok : Bool) (bs : List Byte) :
    (s.respond q ok bs).link =
      s.link := rfl
@[simp] theorem respond_meter (s : State) (q : Nat) (ok : Bool) (bs : List Byte) :
    (s.respond q ok bs).meter =
      s.meter := rfl
@[simp] theorem respond_lockdown (s : State) (q : Nat) (ok : Bool) (bs : List Byte) :
    (s.respond q ok bs).lockdown =
      s.lockdown := rfl
@[simp] theorem respond_memory (s : State) (q : Nat) (ok : Bool) (bs : List Byte) :
    (s.respond q ok bs).memory =
      s.memory := rfl
@[simp] theorem respond_pending (s : State) (q : Nat) (ok : Bool) (bs : List Byte) :
    (s.respond q ok bs).pending =
      s.pending := rfl

/-! ### setJob -/

@[simp] theorem setJob_transaction (s : State) (i : Nat) (j : Option JobRecord) :
    (s.setJob i j).transaction =
      s.transaction := rfl
@[simp] theorem setJob_cipher (s : State) (i : Nat) (j : Option JobRecord) : (s.setJob i j).cipher = s.cipher := rfl
@[simp] theorem setJob_directive (s : State) (i : Nat) (j : Option JobRecord) :
    (s.setJob i j).directive =
      s.directive := rfl
@[simp] theorem setJob_job (s : State) (i : Nat) (j : Option JobRecord) :
    (s.setJob i j).job =
      { slots := tset s.job.slots i j } := rfl
@[simp] theorem setJob_parser (s : State) (i : Nat) (j : Option JobRecord) : (s.setJob i j).parser = s.parser := rfl
@[simp] theorem setJob_charging (s : State) (i : Nat) (j : Option JobRecord) :
    (s.setJob i j).charging =
      s.charging := rfl
@[simp] theorem setJob_account (s : State) (i : Nat) (j : Option JobRecord) :
    (s.setJob i j).account =
      s.account := rfl
@[simp] theorem setJob_consumable (s : State) (i : Nat) (j : Option JobRecord) :
    (s.setJob i j).consumable =
      s.consumable := rfl
@[simp] theorem setJob_link (s : State) (i : Nat) (j : Option JobRecord) : (s.setJob i j).link = s.link := rfl
@[simp] theorem setJob_meter (s : State) (i : Nat) (j : Option JobRecord) : (s.setJob i j).meter = s.meter := rfl
@[simp] theorem setJob_lockdown (s : State) (i : Nat) (j : Option JobRecord) :
    (s.setJob i j).lockdown =
      s.lockdown := rfl
@[simp] theorem setJob_memory (s : State) (i : Nat) (j : Option JobRecord) : (s.setJob i j).memory = s.memory := rfl
@[simp] theorem setJob_pending (s : State) (i : Nat) (j : Option JobRecord) :
    (s.setJob i j).pending =
      s.pending := rfl

/-! ### updateJob -/

@[simp] theorem updateJob_transaction (s : State) (i : Nat) (f : JobRecord → JobRecord) :
    (s.updateJob i f).transaction =
      s.transaction := rfl
@[simp] theorem updateJob_cipher (s : State) (i : Nat) (f : JobRecord → JobRecord) :
    (s.updateJob i f).cipher =
      s.cipher := rfl
@[simp] theorem updateJob_directive (s : State) (i : Nat) (f : JobRecord → JobRecord) :
    (s.updateJob i f).directive =
      s.directive := rfl
@[simp] theorem updateJob_job (s : State) (i : Nat) (f : JobRecord → JobRecord) :
    (s.updateJob i f).job =
      { slots := tset s.job.slots i ((s.jobAt i).map f) } := rfl
@[simp] theorem updateJob_parser (s : State) (i : Nat) (f : JobRecord → JobRecord) :
    (s.updateJob i f).parser =
      s.parser := rfl
@[simp] theorem updateJob_charging (s : State) (i : Nat) (f : JobRecord → JobRecord) :
    (s.updateJob i f).charging =
      s.charging := rfl
@[simp] theorem updateJob_account (s : State) (i : Nat) (f : JobRecord → JobRecord) :
    (s.updateJob i f).account =
      s.account := rfl
@[simp] theorem updateJob_consumable (s : State) (i : Nat) (f : JobRecord → JobRecord) :
    (s.updateJob i f).consumable =
      s.consumable := rfl
@[simp] theorem updateJob_link (s : State) (i : Nat) (f : JobRecord → JobRecord) :
    (s.updateJob i f).link =
      s.link := rfl
@[simp] theorem updateJob_meter (s : State) (i : Nat) (f : JobRecord → JobRecord) :
    (s.updateJob i f).meter =
      s.meter := rfl
@[simp] theorem updateJob_lockdown (s : State) (i : Nat) (f : JobRecord → JobRecord) :
    (s.updateJob i f).lockdown =
      s.lockdown := rfl
@[simp] theorem updateJob_memory (s : State) (i : Nat) (f : JobRecord → JobRecord) :
    (s.updateJob i f).memory =
      s.memory := rfl
@[simp] theorem updateJob_pending (s : State) (i : Nat) (f : JobRecord → JobRecord) :
    (s.updateJob i f).pending =
      s.pending := rfl

/-! ### setKey -/

@[simp] theorem setKey_transaction (s : State) (i : Nat) (k : Option KeyEntry) :
    (s.setKey i k).transaction =
      s.transaction := rfl
@[simp] theorem setKey_cipher (s : State) (i : Nat) (k : Option KeyEntry) :
    (s.setKey i k).cipher =
      { s.cipher with keys := tset s.cipher.keys i k } := rfl
@[simp] theorem setKey_directive (s : State) (i : Nat) (k : Option KeyEntry) :
    (s.setKey i k).directive =
      s.directive := rfl
@[simp] theorem setKey_job (s : State) (i : Nat) (k : Option KeyEntry) : (s.setKey i k).job = s.job := rfl
@[simp] theorem setKey_parser (s : State) (i : Nat) (k : Option KeyEntry) : (s.setKey i k).parser = s.parser := rfl
@[simp] theorem setKey_charging (s : State) (i : Nat) (k : Option KeyEntry) :
    (s.setKey i k).charging =
      s.charging := rfl
@[simp] theorem setKey_account (s : State) (i : Nat) (k : Option KeyEntry) : (s.setKey i k).account = s.account := rfl
@[simp] theorem setKey_consumable (s : State) (i : Nat) (k : Option KeyEntry) :
    (s.setKey i k).consumable =
      s.consumable := rfl
@[simp] theorem setKey_link (s : State) (i : Nat) (k : Option KeyEntry) : (s.setKey i k).link = s.link := rfl
@[simp] theorem setKey_meter (s : State) (i : Nat) (k : Option KeyEntry) : (s.setKey i k).meter = s.meter := rfl
@[simp] theorem setKey_lockdown (s : State) (i : Nat) (k : Option KeyEntry) :
    (s.setKey i k).lockdown =
      s.lockdown := rfl
@[simp] theorem setKey_memory (s : State) (i : Nat) (k : Option KeyEntry) : (s.setKey i k).memory = s.memory := rfl
@[simp] theorem setKey_pending (s : State) (i : Nat) (k : Option KeyEntry) : (s.setKey i k).pending = s.pending := rfl

/-! ### updateAccount -/

@[simp] theorem updateAccount_transaction (s : State) (i : Nat) (f : Account → Account) :
    (s.updateAccount i f).transaction =
      s.transaction := rfl
@[simp] theorem updateAccount_cipher (s : State) (i : Nat) (f : Account → Account) :
    (s.updateAccount i f).cipher =
      s.cipher := rfl
@[simp] theorem updateAccount_directive (s : State) (i : Nat) (f : Account → Account) :
    (s.updateAccount i f).directive =
      s.directive := rfl
@[simp] theorem updateAccount_job (s : State) (i : Nat) (f : Account → Account) :
    (s.updateAccount i f).job =
      s.job := rfl
@[simp] theorem updateAccount_parser (s : State) (i : Nat) (f : Account → Account) :
    (s.updateAccount i f).parser =
      s.parser := rfl
@[simp] theorem updateAccount_charging (s : State) (i : Nat) (f : Account → Account) :
    (s.updateAccount i f).charging =
      s.charging := rfl
@[simp] theorem updateAccount_account (s : State) (i : Nat) (f : Account → Account) :
    (s.updateAccount i f).account =
      { s.account with accounts := tset s.account.accounts i (f (s.accountAt i)) } := rfl
@[simp] theorem updateAccount_consumable (s : State) (i : Nat) (f : Account → Account) :
    (s.updateAccount i f).consumable =
      s.consumable := rfl
@[simp] theorem updateAccount_link (s : State) (i : Nat) (f : Account → Account) :
    (s.updateAccount i f).link =
      s.link := rfl
@[simp] theorem updateAccount_meter (s : State) (i : Nat) (f : Account → Account) :
    (s.updateAccount i f).meter =
      s.meter := rfl
@[simp] theorem updateAccount_lockdown (s : State) (i : Nat) (f : Account → Account) :
    (s.updateAccount i f).lockdown =
      s.lockdown := rfl
@[simp] theorem updateAccount_memory (s : State) (i : Nat) (f : Account → Account) :
    (s.updateAccount i f).memory =
      s.memory := rfl
@[simp] theorem updateAccount_pending (s : State) (i : Nat) (f : Account → Account) :
    (s.updateAccount i f).pending =
      s.pending := rfl

/-! ### clearPristine -/

@[simp] theorem clearPristine_transaction (s : State) : (s.clearPristine).transaction = s.transaction := rfl
@[simp] theorem clearPristine_cipher (s : State) : (s.clearPristine).cipher = s.cipher := rfl
@[simp] theorem clearPristine_directive (s : State) : (s.clearPristine).directive = s.directive := rfl
@[simp] theorem clearPristine_job (s : State) : (s.clearPristine).job = s.job := rfl
@[simp] theorem clearPristine_parser (s : State) : (s.clearPristine).parser = s.parser := rfl
@[simp] theorem clearPristine_charging (s : State) : (s.clearPristine).charging = s.charging := rfl
@[simp] theorem clearPristine_account (s : State) :
    (s.clearPristine).account =
      { s.account with pristine := false } := rfl
@[simp] theorem clearPristine_consumable (s : State) : (s.clearPristine).consumable = s.consumable := rfl
@[simp] theorem clearPristine_link (s : State) : (s.clearPristine).link = s.link := rfl
@[simp] theorem clearPristine_meter (s : State) : (s.clearPristine).meter = s.meter := rfl
@[simp] theorem clearPristine_lockdown (s : State) : (s.clearPristine).lockdown = s.lockdown := rfl
@[simp] theorem clearPristine_memory (s : State) : (s.clearPristine).memory = s.memory := rfl
@[simp] theorem clearPristine_pending (s : State) : (s.clearPristine).pending = s.pending := rfl

/-! ### updateConsumable -/

@[simp] theorem updateConsumable_transaction (s : State) (p : Nat) (f : Consumable → Consumable) :
    (s.updateConsumable p f).transaction =
      s.transaction := rfl
@[simp] theorem updateConsumable_cipher (s : State) (p : Nat) (f : Consumable → Consumable) :
    (s.updateConsumable p f).cipher =
      s.cipher := rfl
@[simp] theorem updateConsumable_directive (s : State) (p : Nat) (f : Consumable → Consumable) :
    (s.updateConsumable p f).directive =
      s.directive := rfl
@[simp] theorem updateConsumable_job (s : State) (p : Nat) (f : Consumable → Consumable) :
    (s.updateConsumable p f).job =
      s.job := rfl
@[simp] theorem updateConsumable_parser (s : State) (p : Nat) (f : Consumable → Consumable) :
    (s.updateConsumable p f).parser =
      s.parser := rfl
@[simp] theorem updateConsumable_charging (s : State) (p : Nat) (f : Consumable → Consumable) :
    (s.updateConsumable p f).charging =
      s.charging := rfl
@[simp] theorem updateConsumable_account (s : State) (p : Nat) (f : Consumable → Consumable) :
    (s.updateConsumable p f).account =
      s.account := rfl
@[simp] theorem updateConsumable_consumable (s : State) (p : Nat) (f : Consumable → Consumable) :
    (s.updateConsumable p f).consumable =
      { s.consumable with records := tset s.consumable.records p (f (s.consumableAt p)) } := rfl
@[simp] theorem updateConsumable_link (s : State) (p : Nat) (f : Consumable → Consumable) :
    (s.updateConsumable p f).link =
      s.link := rfl
@[simp] theorem updateConsumable_meter (s : State) (p : Nat) (f : Consumable → Consumable) :
    (s.updateConsumable p f).meter =
      s.meter := rfl
@[simp] theorem updateConsumable_lockdown (s : State) (p : Nat) (f : Consumable → Consumable) :
    (s.updateConsumable p f).lockdown =
      s.lockdown := rfl
@[simp] theorem updateConsumable_memory (s : State) (p : Nat) (f : Consumable → Consumable) :
    (s.updateConsumable p f).memory =
      s.memory := rfl
@[simp] theorem updateConsumable_pending (s : State) (p : Nat) (f : Consumable → Consumable) :
    (s.updateConsumable p f).pending =
      s.pending := rfl

/-! ### setOpenSide -/

@[simp] theorem setOpenSide_transaction (s : State) (o : Option OpenSide) :
    (s.setOpenSide o).transaction =
      s.transaction := rfl
@[simp] theorem setOpenSide_cipher (s : State) (o : Option OpenSide) : (s.setOpenSide o).cipher = s.cipher := rfl
@[simp] theorem setOpenSide_directive (s : State) (o : Option OpenSide) :
    (s.setOpenSide o).directive =
      s.directive := rfl
@[simp] theorem setOpenSide_job (s : State) (o : Option OpenSide) : (s.setOpenSide o).job = s.job := rfl
@[simp] theorem setOpenSide_parser (s : State) (o : Option OpenSide) :
    (s.setOpenSide o).parser =
      { openSide := o } := rfl
@[simp] theorem setOpenSide_charging (s : State) (o : Option OpenSide) :
    (s.setOpenSide o).charging =
      s.charging := rfl
@[simp] theorem setOpenSide_account (s : State) (o : Option OpenSide) : (s.setOpenSide o).account = s.account := rfl
@[simp] theorem setOpenSide_consumable (s : State) (o : Option OpenSide) :
    (s.setOpenSide o).consumable =
      s.consumable := rfl
@[simp] theorem setOpenSide_link (s : State) (o : Option OpenSide) : (s.setOpenSide o).link = s.link := rfl
@[simp] theorem setOpenSide_meter (s : State) (o : Option OpenSide) : (s.setOpenSide o).meter = s.meter := rfl
@[simp] theorem setOpenSide_lockdown (s : State) (o : Option OpenSide) :
    (s.setOpenSide o).lockdown =
      s.lockdown := rfl
@[simp] theorem setOpenSide_memory (s : State) (o : Option OpenSide) : (s.setOpenSide o).memory = s.memory := rfl
@[simp] theorem setOpenSide_pending (s : State) (o : Option OpenSide) : (s.setOpenSide o).pending = s.pending := rfl

/-! ### setSheets -/

@[simp] theorem setSheets_transaction (s : State) (q : List Sheet) :
    (s.setSheets q).transaction =
      s.transaction := rfl
@[simp] theorem setSheets_cipher (s : State) (q : List Sheet) : (s.setSheets q).cipher = s.cipher := rfl
@[simp] theorem setSheets_directive (s : State) (q : List Sheet) : (s.setSheets q).directive = s.directive := rfl
@[simp] theorem setSheets_job (s : State) (q : List Sheet) : (s.setSheets q).job = s.job := rfl
@[simp] theorem setSheets_parser (s : State) (q : List Sheet) : (s.setSheets q).parser = s.parser := rfl
@[simp] theorem setSheets_charging (s : State) (q : List Sheet) :
    (s.setSheets q).charging =
      { s.charging with sheets := q } := rfl
@[simp] theorem setSheets_account (s : State) (q : List Sheet) : (s.setSheets q).account = s.account := rfl
@[simp] theorem setSheets_consumable (s : State) (q : List Sheet) : (s.setSheets q).consumable = s.consumable := rfl
@[simp] theorem setSheets_link (s : State) (q : List Sheet) : (s.setSheets q).link = s.link := rfl
@[simp] theorem setSheets_meter (s : State) (q : List Sheet) : (s.setSheets q).meter = s.meter := rfl
@[simp] theorem setSheets_lockdown (s : State) (q : List Sheet) : (s.setSheets q).lockdown = s.lockdown := rfl
@[simp] theorem setSheets_memory (s : State) (q : List Sheet) : (s.setSheets q).memory = s.memory := rfl
@[simp] theorem setSheets_pending (s : State) (q : List Sheet) : (s.setSheets q).pending = s.pending := rfl

/-! ### setWork -/

@[simp] theorem setWork_transaction (s : State) (w : MeterWork) : (s.setWork w).transaction = s.transaction := rfl
@[simp] theorem setWork_cipher (s : State) (w : MeterWork) : (s.setWork w).cipher = s.cipher := rfl
@[simp] theorem setWork_directive (s : State) (w : MeterWork) : (s.setWork w).directive = s.directive := rfl
@[simp] theorem setWork_job (s : State) (w : MeterWork) : (s.setWork w).job = s.job := rfl
@[simp] theorem setWork_parser (s : State) (w : MeterWork) : (s.setWork w).parser = s.parser := rfl
@[simp] theorem setWork_charging (s : State) (w : MeterWork) : (s.setWork w).charging = s.charging := rfl
@[simp] theorem setWork_account (s : State) (w : MeterWork) : (s.setWork w).account = s.account := rfl
@[simp] theorem setWork_consumable (s : State) (w : MeterWork) : (s.setWork w).consumable = s.consumable := rfl
@[simp] theorem setWork_link (s : State) (w : MeterWork) : (s.setWork w).link = s.link := rfl
@[simp] theorem setWork_meter (s : State) (w : MeterWork) : (s.setWork w).meter = { s.meter with work := w } := rfl
@[simp] theorem setWork_lockdown (s : State) (w : MeterWork) : (s.setWork w).lockdown = s.lockdown := rfl
@[simp] theorem setWork_memory (s : State) (w : MeterWork) : (s.setWork w).memory = s.memory := rfl
@[simp] theorem setWork_pending (s : State) (w : MeterWork) : (s.setWork w).pending = s.pending := rfl

/-! ### own -/

@[simp] theorem own_transaction (s : State) (b l : Nat) (x : AreaSource) :
    (s.own b l x).transaction =
      s.transaction := rfl
@[simp] theorem own_cipher (s : State) (b l : Nat) (x : AreaSource) : (s.own b l x).cipher = s.cipher := rfl
@[simp] theorem own_directive (s : State) (b l : Nat) (x : AreaSource) :
    (s.own b l x).directive =
      { s.directive with owned := s.directive.owned ++ [{ base := b, length := l, source := x }] } := rfl
@[simp] theorem own_job (s : State) (b l : Nat) (x : AreaSource) : (s.own b l x).job = s.job := rfl
@[simp] theorem own_parser (s : State) (b l : Nat) (x : AreaSource) : (s.own b l x).parser = s.parser := rfl
@[simp] theorem own_charging (s : State) (b l : Nat) (x : AreaSource) : (s.own b l x).charging = s.charging := rfl
@[simp] theorem own_account (s : State) (b l : Nat) (x : AreaSource) : (s.own b l x).account = s.account := rfl
@[simp] theorem own_consumable (s : State) (b l : Nat) (x : AreaSource) :
    (s.own b l x).consumable =
      s.consumable := rfl
@[simp] theorem own_link (s : State) (b l : Nat) (x : AreaSource) : (s.own b l x).link = s.link := rfl
@[simp] theorem own_meter (s : State) (b l : Nat) (x : AreaSource) : (s.own b l x).meter = s.meter := rfl
@[simp] theorem own_lockdown (s : State) (b l : Nat) (x : AreaSource) : (s.own b l x).lockdown = s.lockdown := rfl
@[simp] theorem own_memory (s : State) (b l : Nat) (x : AreaSource) : (s.own b l x).memory = s.memory := rfl
@[simp] theorem own_pending (s : State) (b l : Nat) (x : AreaSource) : (s.own b l x).pending = s.pending := rfl

/-! ### disown -/

@[simp] theorem disown_transaction (s : State) (b : Nat) (x : AreaSource) :
    (s.disown b x).transaction =
      s.transaction := rfl
@[simp] theorem disown_cipher (s : State) (b : Nat) (x : AreaSource) : (s.disown b x).cipher = s.cipher := rfl
@[simp] theorem disown_directive (s : State) (b : Nat) (x : AreaSource) :
    (s.disown b x).directive =
      { s.directive with owned := s.directive.owned.filter fun a => !(a.base == b && a.source == x) } := rfl
@[simp] theorem disown_job (s : State) (b : Nat) (x : AreaSource) : (s.disown b x).job = s.job := rfl
@[simp] theorem disown_parser (s : State) (b : Nat) (x : AreaSource) : (s.disown b x).parser = s.parser := rfl
@[simp] theorem disown_charging (s : State) (b : Nat) (x : AreaSource) : (s.disown b x).charging = s.charging := rfl
@[simp] theorem disown_account (s : State) (b : Nat) (x : AreaSource) : (s.disown b x).account = s.account := rfl
@[simp] theorem disown_consumable (s : State) (b : Nat) (x : AreaSource) :
    (s.disown b x).consumable =
      s.consumable := rfl
@[simp] theorem disown_link (s : State) (b : Nat) (x : AreaSource) : (s.disown b x).link = s.link := rfl
@[simp] theorem disown_meter (s : State) (b : Nat) (x : AreaSource) : (s.disown b x).meter = s.meter := rfl
@[simp] theorem disown_lockdown (s : State) (b : Nat) (x : AreaSource) : (s.disown b x).lockdown = s.lockdown := rfl
@[simp] theorem disown_memory (s : State) (b : Nat) (x : AreaSource) : (s.disown b x).memory = s.memory := rfl
@[simp] theorem disown_pending (s : State) (b : Nat) (x : AreaSource) : (s.disown b x).pending = s.pending := rfl

/-! ### askNotice -/

@[simp] theorem askNotice_transaction (s : State) (k : NoticeKind) (vs : List Val) :
    (s.askNotice k vs).transaction =
      s.transaction := rfl
@[simp] theorem askNotice_cipher (s : State) (k : NoticeKind) (vs : List Val) :
    (s.askNotice k vs).cipher =
      s.cipher := rfl
@[simp] theorem askNotice_directive (s : State) (k : NoticeKind) (vs : List Val) :
    (s.askNotice k vs).directive =
      { s.directive with notices := s.directive.notices ++ [{ kind := k, detail := 0, operands := layout vs }] } := rfl
@[simp] theorem askNotice_job (s : State) (k : NoticeKind) (vs : List Val) : (s.askNotice k vs).job = s.job := rfl
@[simp] theorem askNotice_parser (s : State) (k : NoticeKind) (vs : List Val) :
    (s.askNotice k vs).parser =
      s.parser := rfl
@[simp] theorem askNotice_charging (s : State) (k : NoticeKind) (vs : List Val) :
    (s.askNotice k vs).charging =
      s.charging := rfl
@[simp] theorem askNotice_account (s : State) (k : NoticeKind) (vs : List Val) :
    (s.askNotice k vs).account =
      s.account := rfl
@[simp] theorem askNotice_consumable (s : State) (k : NoticeKind) (vs : List Val) :
    (s.askNotice k vs).consumable =
      s.consumable := rfl
@[simp] theorem askNotice_link (s : State) (k : NoticeKind) (vs : List Val) : (s.askNotice k vs).link = s.link := rfl
@[simp] theorem askNotice_meter (s : State) (k : NoticeKind) (vs : List Val) :
    (s.askNotice k vs).meter =
      s.meter := rfl
@[simp] theorem askNotice_lockdown (s : State) (k : NoticeKind) (vs : List Val) :
    (s.askNotice k vs).lockdown =
      s.lockdown := rfl
@[simp] theorem askNotice_memory (s : State) (k : NoticeKind) (vs : List Val) :
    (s.askNotice k vs).memory =
      s.memory := rfl
@[simp] theorem askNotice_pending (s : State) (k : NoticeKind) (vs : List Val) :
    (s.askNotice k vs).pending =
      s.pending := rfl

/-! ### askStamped -/

@[simp] theorem askStamped_transaction (s : State) (k : NoticeKind) (vs : List Val) :
    (s.askStamped k vs).transaction =
      s.transaction := rfl
@[simp] theorem askStamped_cipher (s : State) (k : NoticeKind) (vs : List Val) :
    (s.askStamped k vs).cipher =
      s.cipher := rfl
@[simp] theorem askStamped_directive (s : State) (k : NoticeKind) (vs : List Val) :
    (s.askStamped k vs).directive =
      { s.directive with
        notices := s.directive.notices ++ [{ kind := k, detail := 0, operands := layout vs, stamp := some s.now }] } := rfl
@[simp] theorem askStamped_job (s : State) (k : NoticeKind) (vs : List Val) : (s.askStamped k vs).job = s.job := rfl
@[simp] theorem askStamped_parser (s : State) (k : NoticeKind) (vs : List Val) :
    (s.askStamped k vs).parser =
      s.parser := rfl
@[simp] theorem askStamped_charging (s : State) (k : NoticeKind) (vs : List Val) :
    (s.askStamped k vs).charging =
      s.charging := rfl
@[simp] theorem askStamped_account (s : State) (k : NoticeKind) (vs : List Val) :
    (s.askStamped k vs).account =
      s.account := rfl
@[simp] theorem askStamped_consumable (s : State) (k : NoticeKind) (vs : List Val) :
    (s.askStamped k vs).consumable =
      s.consumable := rfl
@[simp] theorem askStamped_link (s : State) (k : NoticeKind) (vs : List Val) : (s.askStamped k vs).link = s.link := rfl
@[simp] theorem askStamped_meter (s : State) (k : NoticeKind) (vs : List Val) :
    (s.askStamped k vs).meter =
      s.meter := rfl
@[simp] theorem askStamped_lockdown (s : State) (k : NoticeKind) (vs : List Val) :
    (s.askStamped k vs).lockdown =
      s.lockdown := rfl
@[simp] theorem askStamped_memory (s : State) (k : NoticeKind) (vs : List Val) :
    (s.askStamped k vs).memory =
      s.memory := rfl
@[simp] theorem askStamped_pending (s : State) (k : NoticeKind) (vs : List Val) :
    (s.askStamped k vs).pending =
      s.pending := rfl

/-! ### handWriter -/

@[simp] theorem handWriter_transaction (s : State) (w : WriterItem) :
    (s.handWriter w).transaction =
      s.transaction := rfl
@[simp] theorem handWriter_cipher (s : State) (w : WriterItem) : (s.handWriter w).cipher = s.cipher := rfl
@[simp] theorem handWriter_directive (s : State) (w : WriterItem) :
    (s.handWriter w).directive =
      { s.directive with writes := s.directive.writes ++ [w] } := rfl
@[simp] theorem handWriter_job (s : State) (w : WriterItem) : (s.handWriter w).job = s.job := rfl
@[simp] theorem handWriter_parser (s : State) (w : WriterItem) : (s.handWriter w).parser = s.parser := rfl
@[simp] theorem handWriter_charging (s : State) (w : WriterItem) : (s.handWriter w).charging = s.charging := rfl
@[simp] theorem handWriter_account (s : State) (w : WriterItem) : (s.handWriter w).account = s.account := rfl
@[simp] theorem handWriter_consumable (s : State) (w : WriterItem) : (s.handWriter w).consumable = s.consumable := rfl
@[simp] theorem handWriter_link (s : State) (w : WriterItem) : (s.handWriter w).link = s.link := rfl
@[simp] theorem handWriter_meter (s : State) (w : WriterItem) : (s.handWriter w).meter = s.meter := rfl
@[simp] theorem handWriter_lockdown (s : State) (w : WriterItem) : (s.handWriter w).lockdown = s.lockdown := rfl
@[simp] theorem handWriter_memory (s : State) (w : WriterItem) : (s.handWriter w).memory = s.memory := rfl
@[simp] theorem handWriter_pending (s : State) (w : WriterItem) : (s.handWriter w).pending = s.pending := rfl

end Sys2Proof.Machine
end

