-- ==== Sys2Proof/Laws/Memory.lean ====
section
/-! SUPPORT. Page memory: a byte read after a write, and the canonical form, which every memory operation keeps. -/

namespace Sys2Proof.Machine

/-! ## Reading after writing -/

/-- Below every listed address, a byte reads as unlisted. -/
theorem Memory.read_below {low a : Nat} {m : List Host.Cell} (h : Memory.wfFrom low m = true) (hlt : a < low) :
    Memory.read m a = unlistedByte := by
  induction m generalizing low with
  | nil => rfl
  | cons c m ih =>
    obtain ⟨k, b⟩ := c
    simp only [Memory.wfFrom, Bool.and_eq_true, decide_eq_true_eq] at h
    have hk : ¬ k = a := by omega
    simp only [Memory.read, hk, if_false]
    exact ih h.2 (by omega)

/-- A canonical list is canonical from every lower bound. -/
theorem Memory.wfFrom_mono {low low' : Nat} {m : List Host.Cell} (h : Memory.wfFrom low m = true) (hle : low' ≤ low) :
    Memory.wfFrom low' m = true := by
  cases m with
  | nil => rfl
  | cons c m =>
    obtain ⟨k, b⟩ := c
    simp only [Memory.wfFrom, Bool.and_eq_true, decide_eq_true_eq] at h ⊢
    exact ⟨⟨by omega, h.1.2⟩, h.2⟩

/-- A write keeps the canonical form. -/
theorem Memory.wfFrom_write {low a : Nat} {b : Byte} {m : List Host.Cell} (h : Memory.wfFrom low m = true)
    (hle : low ≤ a) : Memory.wfFrom low (Memory.write m a b) = true := by
  induction m generalizing low with
  | nil =>
    unfold Memory.write
    split
    · rfl
    · simp [Memory.wfFrom, *]
  | cons c m ih =>
    obtain ⟨k, x⟩ := c
    simp only [Memory.wfFrom, Bool.and_eq_true, decide_eq_true_eq] at h
    unfold Memory.write
    split
    · split
      · simp [Memory.wfFrom, h]
      · simp only [Memory.wfFrom, Bool.and_eq_true, decide_eq_true_eq]
        exact ⟨⟨hle, by assumption⟩, ⟨by omega, h.1.2⟩, h.2⟩
    · split
      · split
        · exact Memory.wfFrom_mono h.2 (by omega)
        · simp only [Memory.wfFrom, Bool.and_eq_true, decide_eq_true_eq]
          refine ⟨⟨hle, by assumption⟩, ?_⟩
          subst_vars
          exact h.2
      · simp only [Memory.wfFrom, Bool.and_eq_true, decide_eq_true_eq]
        exact ⟨h.1, ih h.2 (by omega)⟩

/-- Reading after a write in a canonical memory: the byte written at its address, every other byte as before. -/
theorem Memory.read_write {low a a' : Nat} {b : Byte} {m : List Host.Cell} (h : Memory.wfFrom low m = true) :
    Memory.read (Memory.write m a b) a' = if a' = a then b else Memory.read m a' := by
  induction m generalizing low with
  | nil =>
    unfold Memory.write
    split
    · simp_all [Memory.read]
    · simp only [Memory.read, eq_comm]
  | cons c m ih =>
    obtain ⟨k, x⟩ := c
    simp only [Memory.wfFrom, Bool.and_eq_true, decide_eq_true_eq] at h
    unfold Memory.write
    split
    · have hr : Memory.read ((k, x) :: m) a = unlistedByte := by
        have hk : ¬ k = a := by omega
        simp only [Memory.read, hk, if_false]
        exact Memory.read_below h.2 (by omega)
      split
      · by_cases ha : a' = a
        · subst ha; simp_all
        · simp [ha]
      · simp only [Memory.read, eq_comm]
    · split
      · subst_vars
        have hr : Memory.read m k = unlistedByte := Memory.read_below h.2 (by omega)
        split
        · by_cases ha : a' = k
          · subst ha; simp_all
          · have : ¬ k = a' := fun e => ha e.symm
            simp [Memory.read, ha, this]
        · by_cases ha : a' = k
          · subst ha; simp [Memory.read]
          · have : ¬ k = a' := fun e => ha e.symm
            simp [Memory.read, ha, this]
      · simp only [Memory.read, ih h.2]
        by_cases hk : k = a'
        · subst hk
          have : ¬ k = a := by omega
          simp [this]
        · simp [hk]

/-- A write keeps the canonical form of page memory. -/
theorem Memory.wf_write {a : Nat} {b : Byte} {m : List Host.Cell} (h : Memory.wf m = true) :
    Memory.wf (Memory.write m a b) = true :=
  Memory.wfFrom_write h (Nat.zero_le a)

/-- A write of several bytes keeps the canonical form of page memory. -/
theorem Memory.wf_writeBytes {a : Nat} {bs : List Byte} {m : List Host.Cell} (h : Memory.wf m = true) :
    Memory.wf (Memory.writeBytes m a bs) = true := by
  induction bs generalizing m a with
  | nil => exact h
  | cons b bs ih => exact ih (Memory.wf_write h)

/-- A byte outside the bytes written reads as before. -/
theorem Memory.read_writeBytes_outside {a a' : Nat} {bs : List Byte} {m : List Host.Cell} (h : Memory.wf m = true)
    (hout : a' < a ∨ a + bs.length ≤ a') : Memory.read (Memory.writeBytes m a bs) a' = Memory.read m a' := by
  induction bs generalizing m a with
  | nil => rfl
  | cons b bs ih =>
    simp only [List.length_cons] at hout
    rw [Memory.writeBytes, ih (Memory.wf_write h) (by omega), Memory.read_write h, if_neg (by omega)]

/-- A byte among the bytes written reads as written. -/
theorem Memory.read_writeBytes_inside {a i : Nat} {bs : List Byte} {m : List Host.Cell} (h : Memory.wf m = true)
    (hi : i < bs.length) : Memory.read (Memory.writeBytes m a bs) (a + i) = bs[i] := by
  induction bs generalizing m a i with
  | nil => simp at hi
  | cons b bs ih =>
    rw [Memory.writeBytes]
    cases i with
    | zero =>
      rw [Memory.read_writeBytes_outside (Memory.wf_write h) (by omega), Memory.read_write h]
      simp
    | succ i =>
      have := ih (m := Memory.write m a b) (a := a + 1) (i := i) (Memory.wf_write h) (by simpa using hi)
      simpa [Nat.add_assoc, Nat.add_comm 1 i] using this

/-- How many bytes a read gives. -/
@[simp] theorem Memory.length_readBytes (m : List Host.Cell) (a n : Nat) : (Memory.readBytes m a n).length = n := by
  induction n generalizing a with
  | zero => rfl
  | succ n ih => simp [Memory.readBytes, ih]

/-- The bytes just written are read back. -/
theorem Memory.readBytes_writeBytes {a : Nat} {bs : List Byte} {m : List Host.Cell} (h : Memory.wf m = true) :
    Memory.readBytes (Memory.writeBytes m a bs) a bs.length = bs := by
  induction bs generalizing m a with
  | nil => rfl
  | cons b bs ih =>
    rw [Memory.writeBytes, List.length_cons, Memory.readBytes, ih (Memory.wf_write h),
      Memory.read_writeBytes_outside (Memory.wf_write h) (by omega), Memory.read_write h, if_pos rfl]

/-- Storing keeps the canonical form. -/
theorem wf_store {s : State} {a : Nat} {bs : List Byte} (h : Memory.wf s.memory = true) :
    Memory.wf (s.store a bs).memory = true := Memory.wf_writeBytes h

/-! ## Tables -/

/-- An entry just written reads as written. -/
theorem tget_tset_same {α : Type} [Inhabited α] {n : Nat} (v : Vector α n) {i : Nat} (x : α) (h : i < n) :
    tget (tset v i x) i = x := by
  simp [tget, tset, h]

/-- Every other entry reads as before. -/
theorem tget_tset_other {α : Type} [Inhabited α] {n : Nat} (v : Vector α n) {i j : Nat} (x : α) (h : j ≠ i) :
    tget (tset v i x) j = tget v j := by
  by_cases hi : i < n
  · by_cases hj : j < n
    · simp [tget, tset, hi, hj, Ne.symm h]
    · simp [tget, hj]
  · simp [tset, hi]

/-- A write beyond the table changes nothing. -/
theorem tset_beyond {α : Type} {n : Nat} (v : Vector α n) {i : Nat} (x : α) (h : n ≤ i) : tset v i x = v := by
  simp [tset, Nat.not_lt.mpr h]

/-- An entry of a mapped table. -/
theorem tget_tmap {α β : Type} [Inhabited α] [Inhabited β] {n : Nat} (f : α → β) (v : Vector α n) {i : Nat}
    (h : i < n) : tget (tmap f v) i = f (tget v i) := by
  simp [tget, tmap, h]

/-- Some of the bytes read from an address on are read from their own address. -/
theorem Memory.readBytes_part (m : List Host.Cell) (a : Nat) {k n l : Nat} (h : k + n ≤ l) :
    Memory.readBytes m (a + k) n = ((Memory.readBytes m a l).drop k).take n := by
  induction l generalizing a k n with
  | zero => obtain ⟨rfl, rfl⟩ : k = 0 ∧ n = 0 := by omega
            rfl
  | succ l ih =>
    cases k with
    | zero =>
      cases n with
      | zero => rfl
      | succ n =>
        have := ih (a + 1) (k := 0) (n := n) (by omega)
        simp only [Nat.add_zero, List.drop_zero] at this
        simp only [Nat.add_zero, Memory.readBytes, List.drop_zero, List.take_succ_cons, this]
    | succ k =>
      have := ih (a + 1) (k := k) (n := n) (by omega)
      rw [show a + (k + 1) = a + 1 + k by omega, this]
      simp only [Memory.readBytes, List.drop_succ_cons]

end Sys2Proof.Machine
end

