-- ==== Sys2Proof/Laws/Footprint.lean ====
section
/-! SUPPORT. Which parts of the state each operation can change: one lemma for each operation, so that what a composite
leaves as it was follows by rewriting. -/

namespace Sys2Proof.Machine

/-- A part is the same in two states. -/
def Part.same (s t : State) : Part → Prop
  | .transaction => t.transaction = s.transaction
  | .cipher => t.cipher = s.cipher
  | .directive => t.directive = s.directive
  | .job => t.job = s.job
  | .parser => t.parser = s.parser
  | .charging => t.charging = s.charging
  | .account => t.account = s.account
  | .consumable => t.consumable = s.consumable
  | .link => t.link = s.link
  | .meter => t.meter = s.meter
  | .lockdown => t.lockdown = s.lockdown
  | .memory => t.memory = s.memory
  | .pending => t.pending = s.pending

/-- Every part but those named is the same in two states. -/
def Touches (ps : List Part) (s t : State) : Prop := ∀ p, p ∉ ps → p.same s t

theorem Part.same_refl (s : State) (p : Part) : p.same s s := by cases p <;> rfl

theorem Part.same_trans {s t u : State} {p : Part} (h : p.same s t) (h' : p.same t u) : p.same s u := by
  cases p <;> exact Eq.trans h' h

theorem Part.same_symm {s t : State} {p : Part} (h : p.same s t) : p.same t s := by
  cases p <;> exact Eq.symm h

@[simp] theorem touches_refl (ps : List Part) (s : State) : Touches ps s s := fun p _ => p.same_refl s

/-- What an operation leaves the same decides nothing about the parts named. -/
theorem touches_iff {ps : List Part} {s a b : State} (h : Touches ps a b) : Touches ps s b ↔ Touches ps s a :=
  ⟨fun hb p hp => Part.same_trans (hb p hp) (Part.same_symm (h p hp)), fun ha p hp => Part.same_trans (ha p hp) (h p hp)⟩

/-- An operation that leaves every part but one the same touches that one only. -/
theorem touches_of_same {ps : List Part} {s a b : State} {q : Part} (hq : q ∈ ps)
    (h : ∀ p, p ≠ q → p.same a b) : Touches ps s b ↔ Touches ps s a :=
  touches_iff fun p hp => h p fun e => hp (e ▸ hq)

/-- An operation repeated over a list touches what one turn of it touches. -/
theorem touches_foldl {α : Type} {ps : List Part} {s a : State} {f : State → α → State} {l : List α}
    (h : ∀ a x, Touches ps s (f a x) ↔ Touches ps s a) : Touches ps s (l.foldl f a) ↔ Touches ps s a := by
  induction l generalizing a with
  | nil => rfl
  | cons x l ih => rw [List.foldl_cons, ih, h]

/-- Page memory that is the same reads the same. -/
theorem Touches.changesOnly {ps : List Part} {s t : State} (h : Touches ps s t) : s.changesOnly t ps := by
  intro p hp
  have := h p hp
  cases p <;> first | exact this | (intro a; exact congrArg (Memory.read · a) this)

variable {ps : List Part} {s a : State}

/-! ### The units -/

@[simp] theorem touches_setMemory (m : List Host.Cell) (hY : .memory ∈ ps) :
    Touches ps s (a.setMemory m) ↔ Touches ps s a := touches_of_same hY fun p hp => by cases p <;> first | exact absurd rfl hp | rfl

@[simp] theorem touches_setTransaction (u : TransactionUnit) (hT : .transaction ∈ ps) :
    Touches ps s (a.setTransaction u) ↔ Touches ps s a := touches_of_same hT fun p hp => by cases p <;> first | exact absurd rfl hp | rfl

@[simp] theorem touches_setCipher (u : CipherUnit) (hC : .cipher ∈ ps) :
    Touches ps s (a.setCipher u) ↔ Touches ps s a := touches_of_same hC fun p hp => by cases p <;> first | exact absurd rfl hp | rfl

@[simp] theorem touches_setDirective (u : DirectiveUnit) (hD : .directive ∈ ps) :
    Touches ps s (a.setDirective u) ↔ Touches ps s a := touches_of_same hD fun p hp => by cases p <;> first | exact absurd rfl hp | rfl

@[simp] theorem touches_setJobs (u : JobUnit) (hJ : .job ∈ ps) :
    Touches ps s (a.setJobs u) ↔ Touches ps s a := touches_of_same hJ fun p hp => by cases p <;> first | exact absurd rfl hp | rfl

@[simp] theorem touches_setParser (u : BandParser) (hB : .parser ∈ ps) :
    Touches ps s (a.setParser u) ↔ Touches ps s a := touches_of_same hB fun p hp => by cases p <;> first | exact absurd rfl hp | rfl

@[simp] theorem touches_setCharging (u : ChargingUnit) (hH : .charging ∈ ps) :
    Touches ps s (a.setCharging u) ↔ Touches ps s a := touches_of_same hH fun p hp => by cases p <;> first | exact absurd rfl hp | rfl

@[simp] theorem touches_setAccounts (u : AccountUnit) (hA : .account ∈ ps) :
    Touches ps s (a.setAccounts u) ↔ Touches ps s a := touches_of_same hA fun p hp => by cases p <;> first | exact absurd rfl hp | rfl

@[simp] theorem touches_setConsumables (u : ConsumableUnit) (hK : .consumable ∈ ps) :
    Touches ps s (a.setConsumables u) ↔ Touches ps s a := touches_of_same hK fun p hp => by cases p <;> first | exact absurd rfl hp | rfl

@[simp] theorem touches_setLink (u : LinkUnit) (hL : .link ∈ ps) :
    Touches ps s (a.setLink u) ↔ Touches ps s a := touches_of_same hL fun p hp => by cases p <;> first | exact absurd rfl hp | rfl

@[simp] theorem touches_setMeter (u : MeterUnit) (hM : .meter ∈ ps) :
    Touches ps s (a.setMeter u) ↔ Touches ps s a := touches_of_same hM fun p hp => by cases p <;> first | exact absurd rfl hp | rfl

@[simp] theorem touches_setLockdown (u : LockdownControl) (hO : .lockdown ∈ ps) :
    Touches ps s (a.setLockdown u) ↔ Touches ps s a := touches_of_same hO fun p hp => by cases p <;> first | exact absurd rfl hp | rfl

/-! ### Ops -/

@[simp] theorem touches_store (x : Nat) (bs : List Byte) (hY : .memory ∈ ps) :
    Touches ps s (a.store x bs) ↔ Touches ps s a := by
  simp [State.store, *]

@[simp] theorem touches_setRegion (i : Nat) (r : Option Region) (hT : .transaction ∈ ps) :
    Touches ps s (a.setRegion i r) ↔ Touches ps s a := by
  simp [State.setRegion, *]

@[simp] theorem touches_respond (q : Nat) (ok : Bool) (bs : List Byte) (hT : .transaction ∈ ps) :
    Touches ps s (a.respond q ok bs) ↔ Touches ps s a := by
  simp [State.respond, *]

@[simp] theorem touches_setJob (i : Nat) (j : Option JobRecord) (hJ : .job ∈ ps) :
    Touches ps s (a.setJob i j) ↔ Touches ps s a := by
  simp [State.setJob, *]

@[simp] theorem touches_updateJob (i : Nat) (g : JobRecord → JobRecord) (hJ : .job ∈ ps) :
    Touches ps s (a.updateJob i g) ↔ Touches ps s a := by
  simp [State.updateJob, *]

@[simp] theorem touches_setKey (i : Nat) (k : Option KeyEntry) (hC : .cipher ∈ ps) :
    Touches ps s (a.setKey i k) ↔ Touches ps s a := by
  simp [State.setKey, *]

@[simp] theorem touches_updateAccount (i : Nat) (g : Account → Account) (hA : .account ∈ ps) :
    Touches ps s (a.updateAccount i g) ↔ Touches ps s a := by
  simp [State.updateAccount, *]

@[simp] theorem touches_clearPristine (hA : .account ∈ ps) :
    Touches ps s (a.clearPristine) ↔ Touches ps s a := by
  simp [State.clearPristine, *]

@[simp] theorem touches_updateConsumable (p : Nat) (g : Consumable → Consumable) (hK : .consumable ∈ ps) :
    Touches ps s (a.updateConsumable p g) ↔ Touches ps s a := by
  simp [State.updateConsumable, *]

@[simp] theorem touches_setOpenSide (o : Option OpenSide) (hB : .parser ∈ ps) :
    Touches ps s (a.setOpenSide o) ↔ Touches ps s a := by
  simp [State.setOpenSide, *]

@[simp] theorem touches_setSheets (q : List Sheet) (hH : .charging ∈ ps) :
    Touches ps s (a.setSheets q) ↔ Touches ps s a := by
  simp [State.setSheets, *]

@[simp] theorem touches_setWork (w : MeterWork) (hM : .meter ∈ ps) :
    Touches ps s (a.setWork w) ↔ Touches ps s a := by
  simp [State.setWork, *]

@[simp] theorem touches_own (b l : Nat) (x : AreaSource) (hD : .directive ∈ ps) :
    Touches ps s (a.own b l x) ↔ Touches ps s a := by
  simp [State.own, *]

@[simp] theorem touches_disown (b : Nat) (x : AreaSource) (hD : .directive ∈ ps) :
    Touches ps s (a.disown b x) ↔ Touches ps s a := by
  simp [State.disown, *]

@[simp] theorem touches_askNotice (k : NoticeKind) (vs : List Val) (hD : .directive ∈ ps) :
    Touches ps s (a.askNotice k vs) ↔ Touches ps s a := by
  simp [State.askNotice, *]

@[simp] theorem touches_askStamped (k : NoticeKind) (vs : List Val) (hD : .directive ∈ ps) :
    Touches ps s (a.askStamped k vs) ↔ Touches ps s a := by
  simp [State.askStamped, *]

@[simp] theorem touches_deliver (q : NoticeRequest) (hD : .directive ∈ ps) (hY : .memory ∈ ps) :
    Touches ps s (a.deliver q) ↔ Touches ps s a := by
  simp only [State.deliver]
  (repeat' split) <;> simp [*]

@[simp] theorem touches_deliverAll (qs : List NoticeRequest) (hD : .directive ∈ ps) (hY : .memory ∈ ps) :
    Touches ps s (a.deliverAll qs) ↔ Touches ps s a := by
  induction qs generalizing a with
  | nil => rfl
  | cons q qs ih => simp [State.deliverAll, *]

@[simp] theorem touches_takeNotice (hD : .directive ∈ ps) (hY : .memory ∈ ps) :
    Touches ps s (a.takeNotice) ↔ Touches ps s a := by
  simp only [State.takeNotice]
  (repeat' split) <;> simp [*]

@[simp] theorem touches_handWriter (w : WriterItem) (hD : .directive ∈ ps) :
    Touches ps s (a.handWriter w) ↔ Touches ps s a := by
  simp [State.handWriter, *]

@[simp] theorem touches_reply (d : Directive) (x : Answer) (hD : .directive ∈ ps) :
    Touches ps s (a.reply d x) ↔ Touches ps s a := by
  simp [State.reply, *]

@[simp] theorem touches_replyParked (p : Parked) (x : Answer) (hD : .directive ∈ ps) :
    Touches ps s (a.replyParked p x) ↔ Touches ps s a := by
  simp [State.replyParked, *]

@[simp] theorem touches_finish (d : Directive) (x : Answer) (hD : .directive ∈ ps) :
    Touches ps s (a.finish d x) ↔ Touches ps s a := by
  simp [State.finish, *]

@[simp] theorem touches_dispatchNext (hD : .directive ∈ ps) :
    Touches ps s (a.dispatchNext) ↔ Touches ps s a := by
  simp only [State.dispatchNext]
  (repeat' split) <;> simp [*]

@[simp] theorem touches_conclude (d : Directive) (v : Verdict) (hD : .directive ∈ ps) :
    Touches ps s (a.conclude d v) ↔ Touches ps s a := by
  cases v <;> simp [State.conclude, *]

/-! ### The link queue -/

@[simp] theorem touches_requestLink (p : Nat) (k : LinkKind) (hL : .link ∈ ps) :
    Touches ps s (a.requestLink p k).1 ↔ Touches ps s a := by
  simp only [State.requestLink]
  (repeat' split) <;> simp [*]

@[simp] theorem touches_requestSync (p : Nat) (hK : .consumable ∈ ps) (hL : .link ∈ ps) :
    Touches ps s (a.requestSync p) ↔ Touches ps s a := by
  simp [State.requestSync, *]

@[simp] theorem touches_dropPosition (p : Nat) (hL : .link ∈ ps) :
    Touches ps s (a.dropPosition p) ↔ Touches ps s a := by
  simp only [State.dropPosition]
  (repeat' split) <;> simp [*]

/-! ### The consumable unit -/

@[simp] theorem touches_noticeExhausted (p : Nat) (hD : .directive ∈ ps) :
    Touches ps s (a.noticeExhausted p) ↔ Touches ps s a := by
  simp [State.noticeExhausted, *]

@[simp] theorem touches_noticeLowIf (p : Nat) (b : Bool) (hD : .directive ∈ ps) :
    Touches ps s (a.noticeLowIf p b) ↔ Touches ps s a := by
  simp only [State.noticeLowIf]
  (repeat' split) <;> simp [*]

@[simp] theorem touches_noticeCheck (n : NoticeKind) (p : Nat) (k : LinkKind) (r : CheckResult)
    (i : Option Identity) (hD : .directive ∈ ps) :
    Touches ps s (a.noticeCheck n p k r i) ↔ Touches ps s a := by
  simp [State.noticeCheck, *]

@[simp] theorem touches_requestSyncIfNeeded (p : Nat) (hK : .consumable ∈ ps) (hL : .link ∈ ps) :
    Touches ps s (a.requestSyncIfNeeded p) ↔ Touches ps s a := by
  simp only [State.requestSyncIfNeeded]
  (repeat' split) <;> simp [*]

@[simp] theorem touches_syncAfterDraw (p : Nat) (hK : .consumable ∈ ps) (hL : .link ∈ ps) :
    Touches ps s (a.syncAfterDraw p) ↔ Touches ps s a := by
  simp only [State.syncAfterDraw]
  (repeat' split) <;> simp [*]

@[simp] theorem touches_drawUnit (p : Nat) (hD : .directive ∈ ps) (hK : .consumable ∈ ps) (hL : .link ∈ ps) :
    Touches ps s (a.drawUnit p) ↔ Touches ps s a := by
  simp only [State.drawUnit]
  (repeat' split) <;> simp [*]

@[simp] theorem touches_drawUnits (p n : Nat) (hD : .directive ∈ ps) (hK : .consumable ∈ ps) (hL : .link ∈ ps) :
    Touches ps s (a.drawUnits p n) ↔ Touches ps s a := by
  induction n generalizing a with
  | zero => rfl
  | succ n ih => simp [State.drawUnits, *]

@[simp] theorem touches_handDots (p : Plane) (n : Nat) (hD : .directive ∈ ps) (hK : .consumable ∈ ps)
    (hL : .link ∈ ps) :
    Touches ps s (a.handDots p n) ↔ Touches ps s a := by
  simp only [State.handDots]
  (repeat' split) <;> simp [*]

@[simp] theorem touches_drawImaging (hD : .directive ∈ ps) (hK : .consumable ∈ ps) (hL : .link ∈ ps) :
    Touches ps s (a.drawImaging) ↔ Touches ps s a := by
  simp [State.drawImaging, *]

@[simp] theorem touches_failCheck (p : Nat) (k : LinkKind) (r : CheckResult) (i : Option Identity)
    (hD : .directive ∈ ps) (hK : .consumable ∈ ps) :
    Touches ps s (a.failCheck p k r i) ↔ Touches ps s a := by
  simp [State.failCheck, *]

@[simp] theorem touches_acceptCheck (p : Nat) (i : Identity) (hD : .directive ∈ ps) (hK : .consumable ∈ ps)
    (hL : .link ∈ ps) :
    Touches ps s (a.acceptCheck p i) ↔ Touches ps s a := by
  simp [State.acceptCheck, *]

@[simp] theorem touches_answerCheck (p : Nat) (r : CheckResult) (hD : .directive ∈ ps) (hK : .consumable ∈ ps) :
    Touches ps s (a.answerCheck p r) ↔ Touches ps s a := by
  simp only [State.answerCheck]
  (repeat' split) <;> simp [*]

@[simp] theorem touches_authenticateEffect (p : Nat) (r : CheckResult) (i : Option Identity)
    (hD : .directive ∈ ps) (hK : .consumable ∈ ps) (hL : .link ∈ ps) :
    Touches ps s (a.authenticateEffect p r i) ↔ Touches ps s a := by
  simp only [State.authenticateEffect]
  (repeat' split) <;> simp [*]

@[simp] theorem touches_authenticateEnd (p : Nat) (r : CheckResult) (i : Option Identity) (hD : .directive ∈ ps)
    (hK : .consumable ∈ ps) (hL : .link ∈ ps) :
    Touches ps s (a.authenticateEnd p r i) ↔ Touches ps s a := by
  simp [State.authenticateEnd, *]

@[simp] theorem touches_recheckEnd (p : Nat) (r : CheckResult) (i : Option Identity) (hD : .directive ∈ ps)
    (hK : .consumable ∈ ps) :
    Touches ps s (a.recheckEnd p r i) ↔ Touches ps s a := by
  simp only [State.recheckEnd]
  (repeat' split) <;> simp [*]

@[simp] theorem touches_syncEnd (p c w : Nat) (hD : .directive ∈ ps) (hK : .consumable ∈ ps) (hL : .link ∈ ps) :
    Touches ps s (a.syncEnd p c w) ↔ Touches ps s a := by
  simp only [State.syncEnd]
  (repeat' split) <;> simp [*]

@[simp] theorem touches_syncFailed (p : Nat) (hD : .directive ∈ ps) (hK : .consumable ∈ ps) :
    Touches ps s (a.syncFailed p) ↔ Touches ps s a := by
  simp only [State.syncFailed]
  (repeat' split) <;> simp [*]

@[simp] theorem touches_setPresence (p : Nat) (l : PresenceLine) (hK : .consumable ∈ ps) :
    Touches ps s (a.setPresence p l) ↔ Touches ps s a := by
  simp [State.setPresence, *]

@[simp] theorem touches_requestAuthenticate (p : Nat) (hK : .consumable ∈ ps) (hL : .link ∈ ps) :
    Touches ps s (a.requestAuthenticate p) ↔ Touches ps s a := by
  simp [State.requestAuthenticate, *]

@[simp] theorem touches_presenceRise (p : Nat) (hD : .directive ∈ ps) (hK : .consumable ∈ ps) (hL : .link ∈ ps) :
    Touches ps s (a.presenceRise p) ↔ Touches ps s a := by
  simp only [State.presenceRise]
  (repeat' split) <;> simp [*]

@[simp] theorem touches_presenceFall (p : Nat) (hD : .directive ∈ ps) (hK : .consumable ∈ ps) (hL : .link ∈ ps) :
    Touches ps s (a.presenceFall p) ↔ Touches ps s a := by
  simp only [State.presenceFall]
  (repeat' split) <;> simp [*]

@[simp] theorem touches_takeInterval (p : Nat) (hK : .consumable ∈ ps) :
    Touches ps s (a.takeInterval p) ↔ Touches ps s a := by
  simp only [State.takeInterval]
  (repeat' split) <;> simp [*]

@[simp] theorem touches_requestRecheck (p n : Nat) (hK : .consumable ∈ ps) (hL : .link ∈ ps) :
    Touches ps s (a.requestRecheck p n) ↔ Touches ps s a := by
  simp only [State.requestRecheck]
  (repeat' split) <;> simp [*]

@[simp] theorem touches_epochVisit (p : Nat) (hK : .consumable ∈ ps) (hL : .link ∈ ps) :
    Touches ps s (a.epochVisit p) ↔ Touches ps s a := by
  simp only [State.epochVisit]
  (repeat' split) <;> simp [*]

@[simp] theorem touches_epochBoundary (hK : .consumable ∈ ps) (hL : .link ∈ ps) :
    Touches ps s (a.epochBoundary) ↔ Touches ps s a := by
  simp only [State.epochBoundary]
  split
  · rw [touches_foldl fun a p => touches_epochVisit p hK hL, touches_foldl fun a p => touches_takeInterval p hK]
    simp [*]
  · rfl

/-! ### The account unit -/

@[simp] theorem touches_chargeAccount (i : Nat) (g : Account → Account) (hA : .account ∈ ps) :
    Touches ps s (a.chargeAccount i g) ↔ Touches ps s a := by
  simp [State.chargeAccount, *]

@[simp] theorem touches_reserve (i n : Nat) (hA : .account ∈ ps) :
    Touches ps s (a.reserve i n) ↔ Touches ps s a := by
  simp [State.reserve, *]

@[simp] theorem touches_release (i n : Nat) (hA : .account ∈ ps) :
    Touches ps s (a.release i n) ↔ Touches ps s a := by
  simp [State.release, *]

@[simp] theorem touches_commitAccount (i : Nat) (b : Bool) (c r : Nat) (hD : .directive ∈ ps) (hA : .account ∈ ps) :
    Touches ps s (a.commitAccount i b c r) ↔ Touches ps s a := by
  simp only [State.commitAccount]
  (repeat' split) <;> simp [*]

@[simp] theorem touches_dropAccount (i n : Nat) (hA : .account ∈ ps) :
    Touches ps s (a.dropAccount i n) ↔ Touches ps s a := by
  simp [State.dropAccount, *]

@[simp] theorem touches_decideScan (i n : Nat) (hA : .account ∈ ps) :
    Touches ps s (a.decideScan i n).1 ↔ Touches ps s a := by
  simp only [State.decideScan]
  (repeat' split) <;> simp [*]

@[simp] theorem touches_editAccount (i : Nat) (g : Account → Account) (hA : .account ∈ ps) :
    Touches ps s (a.editAccount i g) ↔ Touches ps s a := by
  simp [State.editAccount, *]

/-! ### The job unit -/

@[simp] theorem touches_drawKey (i : Nat) (hC : .cipher ∈ ps) :
    Touches ps s (a.drawKey i) ↔ Touches ps s a := by
  simp [State.drawKey, *]

@[simp] theorem touches_freeRegions (i : Nat) (hT : .transaction ∈ ps) :
    Touches ps s (a.freeRegions i) ↔ Touches ps s a := by
  simp [State.freeRegions, *]

@[simp] theorem touches_handSummary (c : Closing) (m : JobSummary) (hD : .directive ∈ ps) :
    Touches ps s (a.handSummary c m) ↔ Touches ps s a := by
  simp only [State.handSummary]
  (repeat' split) <;> simp [*]

@[simp] theorem touches_completeClose (i : Nat) (r : CloseReason) (x y : Nat) (hT : .transaction ∈ ps)
    (hC : .cipher ∈ ps) (hD : .directive ∈ ps) (hJ : .job ∈ ps) :
    Touches ps s (a.completeClose i r x y) ↔ Touches ps s a := by
  simp only [State.completeClose]
  (repeat' split) <;> simp [*]

@[simp] theorem touches_drainTest (i : Nat) (hT : .transaction ∈ ps) (hC : .cipher ∈ ps) (hD : .directive ∈ ps)
    (hJ : .job ∈ ps) :
    Touches ps s (a.drainTest i) ↔ Touches ps s a := by
  simp only [State.drainTest]
  (repeat' split) <;> simp [*]

@[simp] theorem touches_ownSummary (l : Option Nat) (hD : .directive ∈ ps) :
    Touches ps s (a.ownSummary l) ↔ Touches ps s a := by
  simp only [State.ownSummary]
  (repeat' split) <;> simp [*]

/-! ### The meter unit -/

@[simp] theorem touches_updateWorking (g : Totals → Totals) (hM : .meter ∈ ps) :
    Touches ps s (a.updateWorking g) ↔ Touches ps s a := by
  simp [State.updateWorking, *]

@[simp] theorem touches_countSide (b : Bool) (hM : .meter ∈ ps) :
    Touches ps s (a.countSide b) ↔ Touches ps s a := by
  simp [State.countSide, *]

@[simp] theorem touches_countScan (hM : .meter ∈ ps) :
    Touches ps s (a.countScan) ↔ Touches ps s a := by
  simp [State.countScan, *]

@[simp] theorem touches_beginBank (t : Option SerialTag) (hM : .meter ∈ ps) :
    Touches ps s (a.beginBank t) ↔ Touches ps s a := by
  simp [State.beginBank, *]

@[simp] theorem touches_triggerBank (t : Option SerialTag) (hM : .meter ∈ ps) :
    Touches ps s (a.triggerBank t) ↔ Touches ps s a := by
  simp only [State.triggerBank]
  (repeat' split) <;> simp [*]

@[simp] theorem touches_countSheet (hM : .meter ∈ ps) :
    Touches ps s (a.countSheet) ↔ Touches ps s a := by
  simp only [State.countSheet]
  (repeat' split) <;> simp [*]

@[simp] theorem touches_snapshotBanked (hD : .directive ∈ ps) (hM : .meter ∈ ps) :
    Touches ps s (a.snapshotBanked) ↔ Touches ps s a := by
  simp only [State.snapshotBanked]
  (repeat' split) <;> simp [*]

@[simp] theorem touches_bankComplete (hD : .directive ∈ ps) (hM : .meter ∈ ps) :
    Touches ps s (a.bankComplete) ↔ Touches ps s a := by
  simp only [State.bankComplete]
  (repeat' split) <;> simp [*]

@[simp] theorem touches_powerWarning (hD : .directive ∈ ps) :
    Touches ps s (a.powerWarning) ↔ Touches ps s a := by
  simp [State.powerWarning, *]

@[simp] theorem touches_pwrWarn (hD : .directive ∈ ps) (hM : .meter ∈ ps) :
    Touches ps s (a.pwrWarn) ↔ Touches ps s a := by
  simp only [State.pwrWarn]
  (repeat' split) <;> simp [*]

@[simp] theorem touches_snapshotImageCopy (hM : .meter ∈ ps) (hY : .memory ∈ ps) :
    Touches ps s (a.snapshotImageCopy) ↔ Touches ps s a := by
  simp only [State.snapshotImageCopy]
  (repeat' split) <;> simp [*]

@[simp] theorem touches_compositionEnd (hM : .meter ∈ ps) (hY : .memory ∈ ps) :
    Touches ps s (a.compositionEnd) ↔ Touches ps s a := by
  simp only [State.compositionEnd]
  (repeat' split) <;> simp [*]

@[simp] theorem touches_restoreAreaRead (n : Nat) (hM : .meter ∈ ps) :
    Touches ps s (a.restoreAreaRead n) ↔ Touches ps s a := by
  simp only [State.restoreAreaRead]
  (repeat' split) <;> simp [*]

@[simp] theorem touches_loadSnapshot (bs : List Byte) (hH : .charging ∈ ps) (hA : .account ∈ ps) :
    Touches ps s (a.loadSnapshot bs) ↔ Touches ps s a := by
  simp [State.loadSnapshot, *]

@[simp] theorem touches_endWork (b : Nat) (x : AreaSource) (p : Parked) (w : Answer) (hD : .directive ∈ ps)
    (hM : .meter ∈ ps) :
    Touches ps s (a.endWork b x p w) ↔ Touches ps s a := by
  simp [State.endWork, *]

@[simp] theorem touches_restoreReadEnd (hD : .directive ∈ ps) (hH : .charging ∈ ps) (hA : .account ∈ ps)
    (hM : .meter ∈ ps) :
    Touches ps s (a.restoreReadEnd) ↔ Touches ps s a := by
  simp only [State.restoreReadEnd]
  (repeat' split) <;> simp [*]

@[simp] theorem touches_meterEntry (hD : .directive ∈ ps) (hM : .meter ∈ ps) :
    Touches ps s (a.meterEntry) ↔ Touches ps s a := by
  simp only [State.meterEntry]
  (repeat' split) <;> simp [*]

/-! ### The charging unit -/

@[simp] theorem touches_updateSheet (n : Nat) (g : Sheet → Sheet) (hH : .charging ∈ ps) :
    Touches ps s (a.updateSheet n g) ↔ Touches ps s a := by
  simp [State.updateSheet, *]

@[simp] theorem touches_addSheet (i j : Nat) (r : SideRecord) (hH : .charging ∈ ps) :
    Touches ps s (a.addSheet i j r) ↔ Touches ps s a := by
  simp [State.addSheet, *]

@[simp] theorem touches_attachBack (n : Nat) (r : SideRecord) (hH : .charging ∈ ps) :
    Touches ps s (a.attachBack n r) ↔ Touches ps s a := by
  simp [State.attachBack, *]

@[simp] theorem touches_abandonSheet (n : Nat) (k : SideKind) (hH : .charging ∈ ps) :
    Touches ps s (a.abandonSheet n k) ↔ Touches ps s a := by
  cases k <;> simp [State.abandonSheet, *]

@[simp] theorem touches_orphanSheetsOf (i : Nat) (hH : .charging ∈ ps) :
    Touches ps s (a.orphanSheetsOf i) ↔ Touches ps s a := by
  simp [State.orphanSheetsOf, *]

@[simp] theorem touches_orphanAllSheets (hH : .charging ∈ ps) :
    Touches ps s (a.orphanAllSheets) ↔ Touches ps s a := by
  simp [State.orphanAllSheets, *]

@[simp] theorem touches_commitJob (o : Owner) (b : Bool) (hJ : .job ∈ ps) :
    Touches ps s (a.commitJob o b) ↔ Touches ps s a := by
  cases o <;> simp [State.commitJob, *]

@[simp] theorem touches_commitSide {h : Sheet} (r : SideRecord) (hD : .directive ∈ ps) (hJ : .job ∈ ps)
    (hA : .account ∈ ps) (hM : .meter ∈ ps) :
    Touches ps s (State.commitSide h a r) ↔ Touches ps s a := by
  simp [State.commitSide, *]

@[simp] theorem touches_drainOwner (o : Owner) (hT : .transaction ∈ ps) (hC : .cipher ∈ ps) (hD : .directive ∈ ps)
    (hJ : .job ∈ ps) :
    Touches ps s (a.drainOwner o) ↔ Touches ps s a := by
  cases o <;> simp [State.drainOwner, *]

@[simp] theorem touches_deliverSheet (h : Sheet) (l : List SideRecord) (hT : .transaction ∈ ps)
    (hC : .cipher ∈ ps) (hD : .directive ∈ ps) (hJ : .job ∈ ps) (hH : .charging ∈ ps) (hA : .account ∈ ps) (hM : .meter ∈ ps) :
    Touches ps s (a.deliverSheet h l) ↔ Touches ps s a := by
  simp [State.deliverSheet, *]
  exact touches_foldl fun a r => by simp [*]

@[simp] theorem touches_dropJob (o : Owner) (n : Nat) (hJ : .job ∈ ps) :
    Touches ps s (a.dropJob o n) ↔ Touches ps s a := by
  cases o <;> simp [State.dropJob, *]

@[simp] theorem touches_dropSheet (h : Sheet) (hT : .transaction ∈ ps) (hC : .cipher ∈ ps) (hD : .directive ∈ ps)
    (hJ : .job ∈ ps) (hA : .account ∈ ps) :
    Touches ps s (a.dropSheet h) ↔ Touches ps s a := by
  simp [State.dropSheet, *]

@[simp] theorem touches_takeScanRecord (hT : .transaction ∈ ps) :
    Touches ps s (a.takeScanRecord) ↔ Touches ps s a := by
  simp [State.takeScanRecord, *]

@[simp] theorem touches_chargeScan (i : Nat) (j : JobRecord) (hD : .directive ∈ ps) (hJ : .job ∈ ps)
    (hA : .account ∈ ps) (hM : .meter ∈ ps) :
    Touches ps s (a.chargeScan i j) ↔ Touches ps s a := by
  simp only [State.chargeScan]
  (repeat' split) <;> simp [*]

@[simp] theorem touches_scnPage (hT : .transaction ∈ ps) (hD : .directive ∈ ps) (hJ : .job ∈ ps)
    (hA : .account ∈ ps) (hM : .meter ∈ ps) :
    Touches ps s (a.scnPage) ↔ Touches ps s a := by
  simp only [State.scnPage]
  (repeat' split) <;> simp [*]

/-! ### The band parser -/

@[simp] theorem touches_setFraming (i : Nat) (x : Framing) (c : Nat) (hT : .transaction ∈ ps) :
    Touches ps s (a.setFraming i x c) ↔ Touches ps s a := by
  simp only [State.setFraming]
  (repeat' split) <;> simp [*]

@[simp] theorem touches_breakRegion (i : Nat) (hT : .transaction ∈ ps) :
    Touches ps s (a.breakRegion i) ↔ Touches ps s a := by
  simp only [State.breakRegion]
  (repeat' split) <;> simp [*]

@[simp] theorem touches_frameAbandoned (i : Nat) (c : AbandonCause) (hT : .transaction ∈ ps) :
    Touches ps s (a.frameAbandoned i c) ↔ Touches ps s a := by
  cases c <;> simp [State.frameAbandoned, *]

@[simp] theorem touches_handBand (p : Option Plane) (n : Nat) (hD : .directive ∈ ps) (hK : .consumable ∈ ps)
    (hL : .link ∈ ps) :
    Touches ps s (a.handBand p n) ↔ Touches ps s a := by
  simp only [State.handBand]
  (repeat' split) <;> simp [*]

@[simp] theorem touches_releaseSide (o : OpenSide) (hA : .account ∈ ps) :
    Touches ps s (a.releaseSide o) ↔ Touches ps s a := by
  simp only [State.releaseSide]
  (repeat' split) <;> simp [*]

@[simp] theorem touches_abandonSide (o : OpenSide) (c : AbandonCause) (hT : .transaction ∈ ps)
    (hD : .directive ∈ ps) (hJ : .job ∈ ps) (hB : .parser ∈ ps) (hH : .charging ∈ ps) (hA : .account ∈ ps) (hK : .consumable ∈ ps) (hL : .link ∈ ps) :
    Touches ps s (a.abandonSide o c) ↔ Touches ps s a := by
  simp [State.abandonSide, *]

@[simp] theorem touches_abandon (c : AbandonCause) (hT : .transaction ∈ ps) (hC : .cipher ∈ ps)
    (hD : .directive ∈ ps) (hJ : .job ∈ ps) (hB : .parser ∈ ps) (hH : .charging ∈ ps) (hA : .account ∈ ps) (hK : .consumable ∈ ps) (hL : .link ∈ ps) :
    Touches ps s (a.abandon c) ↔ Touches ps s a := by
  simp only [State.abandon]
  (repeat' split) <;> simp [*]

@[simp] theorem touches_noticeFraming (r : VideoRead) (x : FramingReason) (y : ParserState) (c : Nat)
    (hD : .directive ∈ ps) :
    Touches ps s (a.noticeFraming r x y c) ↔ Touches ps s a := by
  simp [State.noticeFraming, *]

@[simp] theorem touches_restartFraming (r : VideoRead) (hT : .transaction ∈ ps) (hC : .cipher ∈ ps)
    (hD : .directive ∈ ps) (hJ : .job ∈ ps) (hB : .parser ∈ ps) (hH : .charging ∈ ps) (hA : .account ∈ ps) (hK : .consumable ∈ ps) (hL : .link ∈ ps) :
    Touches ps s (a.restartFraming r) ↔ Touches ps s a := by
  simp only [State.restartFraming]
  (repeat' split) <;> simp [*]

@[simp] theorem touches_framingError (r : VideoRead) (o : Nat) (x : FramingReason) (hT : .transaction ∈ ps)
    (hC : .cipher ∈ ps) (hD : .directive ∈ ps) (hJ : .job ∈ ps) (hB : .parser ∈ ps) (hH : .charging ∈ ps) (hA : .account ∈ ps) (hK : .consumable ∈ ps) (hL : .link ∈ ps) :
    Touches ps s (a.framingError r o x) ↔ Touches ps s a := by
  simp only [State.framingError]
  (repeat' split) <;> simp [*]

@[simp] theorem touches_abandonForStart (i : Nat) (hT : .transaction ∈ ps) (hC : .cipher ∈ ps)
    (hD : .directive ∈ ps) (hJ : .job ∈ ps) (hB : .parser ∈ ps) (hH : .charging ∈ ps) (hA : .account ∈ ps) (hK : .consumable ∈ ps) (hL : .link ∈ ps) :
    Touches ps s (a.abandonForStart i) ↔ Touches ps s a := by
  simp [State.abandonForStart, *]

@[simp] theorem touches_noticeSide (r : VideoRead) (j : JobRecord) (k : SideKind) (m : PlaneMask) (o : Nat)
    (x : SideReason) (hD : .directive ∈ ps) :
    Touches ps s (a.noticeSide r j k m o x) ↔ Touches ps s a := by
  simp [State.noticeSide, *]

@[simp] theorem touches_placeSide (i j : Nat) (k : SideKind) (r : SideRecord) (hH : .charging ∈ ps) :
    Touches ps s (a.placeSide i j k r) ↔ Touches ps s a := by
  cases k <;> simp [State.placeSide, *]

@[simp] theorem touches_makeSide (r : VideoRead) (j : JobRecord) (k : SideKind) (m : PlaneMask) (hJ : .job ∈ ps)
    (hB : .parser ∈ ps) (hH : .charging ∈ ps) (hA : .account ∈ ps) :
    Touches ps s (a.makeSide r j k m) ↔ Touches ps s a := by
  simp [State.makeSide, *]

@[simp] theorem touches_consumeHeader (i o : Nat) (h : BandHeader) (p : Plane) (hT : .transaction ∈ ps)
    (hB : .parser ∈ ps) :
    Touches ps s (a.consumeHeader i o h p) ↔ Touches ps s a := by
  simp [State.consumeHeader, *]

@[simp] theorem touches_startSide (r : VideoRead) (o : Nat) (h : BandHeader) (k : SideKind) (p : Plane)
    (hT : .transaction ∈ ps) (hC : .cipher ∈ ps) (hD : .directive ∈ ps) (hJ : .job ∈ ps) (hB : .parser ∈ ps) (hH : .charging ∈ ps) (hA : .account ∈ ps) (hK : .consumable ∈ ps) (hL : .link ∈ ps) :
    Touches ps s (a.startSide r o h k p).1 ↔ Touches ps s a := by
  simp only [State.startSide]
  (repeat' split) <;> simp [*]

@[simp] theorem touches_takeHeader (r : VideoRead) (o : Nat) (bs : List Byte) (hT : .transaction ∈ ps)
    (hC : .cipher ∈ ps) (hD : .directive ∈ ps) (hJ : .job ∈ ps) (hB : .parser ∈ ps) (hH : .charging ∈ ps) (hA : .account ∈ ps) (hK : .consumable ∈ ps) (hL : .link ∈ ps) :
    Touches ps s (a.takeHeader r o bs).1 ↔ Touches ps s a := by
  simp only [State.takeHeader]
  (repeat' split) <;> simp [*]

@[simp] theorem touches_countPayload (i : Nat) (p : Plane) (bs : List Byte) (hB : .parser ∈ ps) :
    Touches ps s (a.countPayload i p bs) ↔ Touches ps s a := by
  simp only [State.countPayload]
  (repeat' split) <;> simp [*]

@[simp] theorem touches_completeSide (o : OpenSide) (hD : .directive ∈ ps) (hB : .parser ∈ ps)
    (hH : .charging ∈ ps) (hK : .consumable ∈ ps) (hL : .link ∈ ps) :
    Touches ps s (a.completeSide o) ↔ Touches ps s a := by
  simp [State.completeSide, *]

@[simp] theorem touches_endBand (i : Nat) (p : Plane) (c : Nat) (hT : .transaction ∈ ps) (hD : .directive ∈ ps)
    (hB : .parser ∈ ps) (hH : .charging ∈ ps) (hK : .consumable ∈ ps) (hL : .link ∈ ps) :
    Touches ps s (a.endBand i p c) ↔ Touches ps s a := by
  simp only [State.endBand]
  (repeat' split) <;> simp [*]

@[simp] theorem touches_parseFrom (r : VideoRead) (n o : Nat) (bs : List Byte) (hT : .transaction ∈ ps)
    (hC : .cipher ∈ ps) (hD : .directive ∈ ps) (hJ : .job ∈ ps) (hB : .parser ∈ ps) (hH : .charging ∈ ps) (hA : .account ∈ ps) (hK : .consumable ∈ ps) (hL : .link ∈ ps) :
    Touches ps s (State.parseFrom r n a o bs).1 ↔ Touches ps s a := by
  induction n generalizing a o bs with
  | zero => rfl
  | succ n ih =>
    cases bs with
    | nil => rfl
    | cons b bs =>
      simp only [State.parseFrom]
      split
      · split <;> simp [*]
      · split
        · simp [*]
        · split
          · rename_i heq
            have e := congrArg Prod.fst heq
            dsimp only at e
            rw [ih, ← e]
            simp [*]
          · rename_i heq
            have e := congrArg Prod.fst heq
            dsimp only at e
            rw [← e]
            simp [*]
      · rfl
      · rfl

@[simp] theorem touches_parseRead (r : VideoRead) (bs : List Byte) (hT : .transaction ∈ ps) (hC : .cipher ∈ ps)
    (hD : .directive ∈ ps) (hJ : .job ∈ ps) (hB : .parser ∈ ps) (hH : .charging ∈ ps) (hA : .account ∈ ps) (hK : .consumable ∈ ps) (hL : .link ∈ ps) :
    Touches ps s (a.parseRead r bs).1 ↔ Touches ps s a := by
  simp [State.parseRead, *]

/-! ### The subordinate port -/

@[simp] theorem touches_refuseAccess (t : Transaction) (r : Role) (x : AccessReason) (i : Option Nat)
    (hT : .transaction ∈ ps) (hD : .directive ∈ ps) :
    Touches ps s (a.refuseAccess t r x i) ↔ Touches ps s a := by
  simp [State.refuseAccess, *]

@[simp] theorem touches_noticeCandidate (k : NoticeKind) (t : Transaction) (hD : .directive ∈ ps) :
    Touches ps s (a.noticeCandidate k t) ↔ Touches ps s a := by
  simp [State.noticeCandidate, *]

@[simp] theorem touches_recognise (t : Transaction) (hD : .directive ∈ ps) :
    Touches ps s (a.recognise t) ↔ Touches ps s a := by
  simp [State.recognise, *]

@[simp] theorem touches_examine (t : Transaction) (hD : .directive ∈ ps) :
    Touches ps s (a.examine t) ↔ Touches ps s a := by
  simp only [State.examine]
  (repeat' split) <;> simp [*]

@[simp] theorem touches_forward (t : Transaction) (hT : .transaction ∈ ps) (hY : .memory ∈ ps) :
    Touches ps s (a.forward t) ↔ Touches ps s a := by
  simp only [State.forward]
  (repeat' split) <;> simp [*]

@[simp] theorem touches_passTransaction (t : Transaction) (r : Role) (hT : .transaction ∈ ps)
    (hD : .directive ∈ ps) (hY : .memory ∈ ps) :
    Touches ps s (a.passTransaction t r) ↔ Touches ps s a := by
  simp only [State.passTransaction]
  (repeat' split) <;> simp [*]

@[simp] theorem touches_keyFault (t : Transaction) (q : Role) (i : Nat) (r : Region) (hT : .transaction ∈ ps)
    (hC : .cipher ∈ ps) (hD : .directive ∈ ps) :
    Touches ps s (a.keyFault t q i r) ↔ Touches ps s a := by
  simp [State.keyFault, *]

@[simp] theorem touches_countScanWrite (i : Nat) (r : Region) (n : Nat) (hT : .transaction ∈ ps) :
    Touches ps s (a.countScanWrite i r n) ↔ Touches ps s a := by
  simp [State.countScanWrite, *]

@[simp] theorem touches_encipherWrite (t : Transaction) (q : Role) (i : Nat) (r : Region) (hT : .transaction ∈ ps)
    (hC : .cipher ∈ ps) (hD : .directive ∈ ps) (hY : .memory ∈ ps) :
    Touches ps s (a.encipherWrite t q i r) ↔ Touches ps s a := by
  simp only [State.encipherWrite]
  (repeat' split) <;> simp [*]

@[simp] theorem touches_parseVideo (t : Transaction) (i : Nat) (r : Region) (hT : .transaction ∈ ps)
    (hC : .cipher ∈ ps) (hD : .directive ∈ ps) (hJ : .job ∈ ps) (hB : .parser ∈ ps) (hH : .charging ∈ ps) (hA : .account ∈ ps) (hK : .consumable ∈ ps) (hL : .link ∈ ps) :
    Touches ps s (a.parseVideo t i r) ↔ Touches ps s a := by
  simp only [State.parseVideo]
  split
  · simp [*]
  · split
    all_goals
      rename_i heq
      have e := congrArg Prod.fst heq
      dsimp only at e
      subst e
      clear heq
      simp [*]

@[simp] theorem touches_videoRead (t : Transaction) (i : Nat) (r : Region) (x : Framing) (c : Nat)
    (hT : .transaction ∈ ps) (hC : .cipher ∈ ps) (hD : .directive ∈ ps) (hJ : .job ∈ ps) (hB : .parser ∈ ps) (hH : .charging ∈ ps) (hA : .account ∈ ps) (hK : .consumable ∈ ps) (hL : .link ∈ ps) :
    Touches ps s (a.videoRead t i r x c) ↔ Touches ps s a := by
  simp only [State.videoRead]
  (repeat' split) <;> simp [*]

@[simp] theorem touches_decipherRead (t : Transaction) (q : Role) (i : Nat) (r : Region) (hT : .transaction ∈ ps)
    (hC : .cipher ∈ ps) (hD : .directive ∈ ps) :
    Touches ps s (a.decipherRead t q i r) ↔ Touches ps s a := by
  simp only [State.decipherRead]
  (repeat' split) <;> simp [*]

@[simp] theorem touches_decipheredRead (t : Transaction) (q : Role) (i : Nat) (r : Region)
    (hT : .transaction ∈ ps) (hC : .cipher ∈ ps) (hD : .directive ∈ ps) (hJ : .job ∈ ps) (hB : .parser ∈ ps) (hH : .charging ∈ ps) (hA : .account ∈ ps) (hK : .consumable ∈ ps) (hL : .link ∈ ps) :
    Touches ps s (a.decipheredRead t q i r) ↔ Touches ps s a := by
  simp only [State.decipheredRead]
  (repeat' split) <;> simp [*]

@[simp] theorem touches_takeTransaction (t : Transaction) (hT : .transaction ∈ ps) (hC : .cipher ∈ ps)
    (hD : .directive ∈ ps) (hJ : .job ∈ ps) (hB : .parser ∈ ps) (hH : .charging ∈ ps) (hA : .account ∈ ps) (hK : .consumable ∈ ps) (hL : .link ∈ ps) (hY : .memory ∈ ps) :
    Touches ps s (a.takeTransaction t) ↔ Touches ps s a := by
  simp only [State.takeTransaction]
  (repeat' split) <;> simp [*]

/-! ### The engine lines and the close deadline -/

@[simp] theorem touches_sheetDelivered (h : Sheet) (hT : .transaction ∈ ps) (hC : .cipher ∈ ps)
    (hD : .directive ∈ ps) (hJ : .job ∈ ps) (hB : .parser ∈ ps) (hH : .charging ∈ ps) (hA : .account ∈ ps) (hK : .consumable ∈ ps) (hL : .link ∈ ps) (hM : .meter ∈ ps) :
    Touches ps s (a.sheetDelivered h) ↔ Touches ps s a := by
  simp only [State.sheetDelivered]
  (repeat' split) <;> simp [*]

@[simp] theorem touches_engSheet (hT : .transaction ∈ ps) (hC : .cipher ∈ ps) (hD : .directive ∈ ps)
    (hJ : .job ∈ ps) (hB : .parser ∈ ps) (hH : .charging ∈ ps) (hA : .account ∈ ps) (hK : .consumable ∈ ps) (hL : .link ∈ ps) (hM : .meter ∈ ps) :
    Touches ps s (a.engSheet) ↔ Touches ps s a := by
  simp only [State.engSheet]
  (repeat' split) <;> simp [*]

@[simp] theorem touches_engJam (hT : .transaction ∈ ps) (hC : .cipher ∈ ps) (hD : .directive ∈ ps)
    (hJ : .job ∈ ps) (hB : .parser ∈ ps) (hH : .charging ∈ ps) (hA : .account ∈ ps) (hK : .consumable ∈ ps) (hL : .link ∈ ps) :
    Touches ps s (a.engJam) ↔ Touches ps s a := by
  simp only [State.engJam]
  rw [touches_askNotice, touches_foldl fun a h => touches_dropSheet h hT hC hD hJ hA]
  all_goals simp [*]

@[simp] theorem touches_closeTimedOut (i : Nat) (j : JobRecord) (hT : .transaction ∈ ps) (hC : .cipher ∈ ps)
    (hD : .directive ∈ ps) (hJ : .job ∈ ps) (hB : .parser ∈ ps) (hH : .charging ∈ ps) (hA : .account ∈ ps) (hK : .consumable ∈ ps) (hL : .link ∈ ps) :
    Touches ps s (a.closeTimedOut i j) ↔ Touches ps s a := by
  simp only [State.closeTimedOut]
  (repeat' split) <;> simp [*]

@[simp] theorem touches_closeDeadline (i : Nat) (hT : .transaction ∈ ps) (hC : .cipher ∈ ps)
    (hD : .directive ∈ ps) (hJ : .job ∈ ps) (hB : .parser ∈ ps) (hH : .charging ∈ ps) (hA : .account ∈ ps) (hK : .consumable ∈ ps) (hL : .link ∈ ps) :
    Touches ps s (a.closeDeadline i) ↔ Touches ps s a := by
  simp only [State.closeDeadline]
  (repeat' split) <;> simp [*]

/-! ### Lockdown -/

@[simp] theorem touches_eraseKeys (hC : .cipher ∈ ps) :
    Touches ps s (a.eraseKeys) ↔ Touches ps s a := by
  simp [State.eraseKeys, *]

@[simp] theorem touches_freeAllRegions (hT : .transaction ∈ ps) :
    Touches ps s (a.freeAllRegions) ↔ Touches ps s a := by
  simp [State.freeAllRegions, *]

@[simp] theorem touches_disownSummary (l : Option Nat) (hD : .directive ∈ ps) :
    Touches ps s (a.disownSummary l) ↔ Touches ps s a := by
  simp only [State.disownSummary]
  (repeat' split) <;> simp [*]

@[simp] theorem touches_lockClose (j : Option JobRecord) (hD : .directive ∈ ps) :
    Touches ps s (a.lockClose j) ↔ Touches ps s a := by
  simp only [State.lockClose]
  (repeat' split) <;> simp [*]

@[simp] theorem touches_freeAllSlots (hD : .directive ∈ ps) (hJ : .job ∈ ps) :
    Touches ps s (a.freeAllSlots) ↔ Touches ps s a := by
  simp only [State.freeAllSlots]
  rw [touches_setJobs _ hJ, touches_foldl fun a j => touches_lockClose j hD]

@[simp] theorem touches_answerWaiting (hD : .directive ∈ ps) :
    Touches ps s (a.answerWaiting) ↔ Touches ps s a := by
  simp only [State.answerWaiting]
  rw [touches_setDirective _ hD, touches_foldl fun a d => touches_reply d _ hD]

@[simp] theorem touches_enterMode (e : CauseEvent) (hD : .directive ∈ ps) (hO : .lockdown ∈ ps) :
    Touches ps s (a.enterMode e) ↔ Touches ps s a := by
  simp [State.enterMode, *]

@[simp] theorem touches_enterBlocks (e : CauseEvent) (hT : .transaction ∈ ps) (hC : .cipher ∈ ps)
    (hD : .directive ∈ ps) (hJ : .job ∈ ps) (hB : .parser ∈ ps) (hH : .charging ∈ ps) (hA : .account ∈ ps) (hK : .consumable ∈ ps) (hL : .link ∈ ps) (hM : .meter ∈ ps) (hO : .lockdown ∈ ps) :
    Touches ps s (a.enterBlocks e) ↔ Touches ps s a := by
  simp [State.enterBlocks, *]

@[simp] theorem touches_takeCause (e : CauseEvent) (hT : .transaction ∈ ps) (hC : .cipher ∈ ps)
    (hD : .directive ∈ ps) (hJ : .job ∈ ps) (hB : .parser ∈ ps) (hH : .charging ∈ ps) (hA : .account ∈ ps) (hK : .consumable ∈ ps) (hL : .link ∈ ps) (hM : .meter ∈ ps) (hO : .lockdown ∈ ps) :
    Touches ps s (a.takeCause e) ↔ Touches ps s a := by
  simp only [State.takeCause]
  (repeat' split) <;> simp [*]

@[simp] theorem touches_setTamper (b : Bool) (hO : .lockdown ∈ ps) :
    Touches ps s (a.setTamper b) ↔ Touches ps s a := by
  simp [State.setTamper, *]

@[simp] theorem touches_keyFaultReport (hT : .transaction ∈ ps) (hC : .cipher ∈ ps) (hD : .directive ∈ ps)
    (hJ : .job ∈ ps) (hB : .parser ∈ ps) (hH : .charging ∈ ps) (hA : .account ∈ ps) (hK : .consumable ∈ ps) (hL : .link ∈ ps) (hM : .meter ∈ ps) (hO : .lockdown ∈ ps) :
    Touches ps s (a.keyFaultReport) ↔ Touches ps s a := by
  simp only [State.keyFaultReport]
  (repeat' split) <;> simp [*]

@[simp] theorem touches_recover (hD : .directive ∈ ps) (hO : .lockdown ∈ ps) :
    Touches ps s (a.recover) ↔ Touches ps s a := by
  simp [State.recover, *]

/-! ### The directive unit -/

@[simp] theorem touches_replyAtOnce (d : Directive) (o : OutcomeCode) (hD : .directive ∈ ps) :
    Touches ps s (a.replyAtOnce d o) ↔ Touches ps s a := by
  simp [State.replyAtOnce, *]

@[simp] theorem touches_enter (d : Directive) (hD : .directive ∈ ps) :
    Touches ps s (a.enter d) ↔ Touches ps s a := by
  simp only [State.enter]
  (repeat' split) <;> simp [*]

@[simp] theorem touches_directiveEntry (q : Nat) (hD : .directive ∈ ps) :
    Touches ps s (a.directiveEntry q) ↔ Touches ps s a := by
  simp only [State.directiveEntry]
  (repeat' split) <;> simp [*]

@[simp] theorem touches_popWriter (hD : .directive ∈ ps) :
    Touches ps s (a.popWriter) ↔ Touches ps s a := by
  simp [State.popWriter, *]

@[simp] theorem touches_afterReply (l : Nat) (hD : .directive ∈ ps) :
    Touches ps s (a.afterReply l) ↔ Touches ps s a := by
  simp only [State.afterReply]
  (repeat' split) <;> simp [*]

@[simp] theorem touches_replyWriteDone (hD : .directive ∈ ps) (hY : .memory ∈ ps) :
    Touches ps s (a.replyWriteDone) ↔ Touches ps s a := by
  simp only [State.replyWriteDone]
  (repeat' split) <;> simp [*]

@[simp] theorem touches_summaryWriteDone (hD : .directive ∈ ps) (hY : .memory ∈ ps) :
    Touches ps s (a.summaryWriteDone) ↔ Touches ps s a := by
  simp only [State.summaryWriteDone]
  (repeat' split) <;> simp [*]

@[simp] theorem touches_takeAllNotices (hD : .directive ∈ ps) (hY : .memory ∈ ps) :
    Touches ps s (a.takeAllNotices) ↔ Touches ps s a := by
  simp [State.takeAllNotices, *]

@[simp] theorem touches_disownRing (hD : .directive ∈ ps) :
    Touches ps s (a.disownRing) ↔ Touches ps s a := by
  simp [State.disownRing, *]

@[simp] theorem touches_setRing (b n : Nat) (hD : .directive ∈ ps) :
    Touches ps s (a.setRing b n) ↔ Touches ps s a := by
  simp [State.setRing, *]

@[simp] theorem touches_setRoles (l : List Role) (hT : .transaction ∈ ps) :
    Touches ps s (a.setRoles l) ↔ Touches ps s a := by
  simp [State.setRoles, *]

/-! ### The link unit -/

@[simp] theorem touches_setRunning (r : Running) (hL : .link ∈ ps) :
    Touches ps s (a.setRunning r) ↔ Touches ps s a := by
  simp [State.setRunning, *]

@[simp] theorem touches_beginAttempt (e : LinkEntry) (r : Running) (hC : .cipher ∈ ps) (hL : .link ∈ ps) :
    Touches ps s (a.beginAttempt e r) ↔ Touches ps s a := by
  simp only [State.beginAttempt]
  (repeat' split) <;> simp [*]

@[simp] theorem touches_beginEntry (e : LinkEntry) (hC : .cipher ∈ ps) (hK : .consumable ∈ ps) (hL : .link ∈ ps) :
    Touches ps s (a.beginEntry e) ↔ Touches ps s a := by
  simp only [State.beginEntry]
  (repeat' split) <;> simp [*]

@[simp] theorem touches_beginOldest (hC : .cipher ∈ ps) (hK : .consumable ∈ ps) (hL : .link ∈ ps) :
    Touches ps s (a.beginOldest) ↔ Touches ps s a := by
  simp only [State.beginOldest]
  (repeat' split) <;> simp [*]

@[simp] theorem touches_requestFrameSent (hL : .link ∈ ps) :
    Touches ps s (a.requestFrameSent) ↔ Touches ps s a := by
  simp only [State.requestFrameSent]
  (repeat' split) <;> simp [*]

@[simp] theorem touches_removeRunning (q : Option Nat) (hL : .link ∈ ps) :
    Touches ps s (a.removeRunning q) ↔ Touches ps s a := by
  simp [State.removeRunning, *]

@[simp] theorem touches_reportFailure (e : LinkEntry) (r : Running) (hD : .directive ∈ ps) (hK : .consumable ∈ ps)
    (hL : .link ∈ ps) :
    Touches ps s (a.reportFailure e r) ↔ Touches ps s a := by
  simp only [State.reportFailure]
  (repeat' split) <;> simp [*]

@[simp] theorem touches_failAttempt (e : LinkEntry) (r : Running) (hD : .directive ∈ ps) (hK : .consumable ∈ ps)
    (hL : .link ∈ ps) :
    Touches ps s (a.failAttempt e r) ↔ Touches ps s a := by
  simp only [State.failAttempt]
  (repeat' split) <;> simp [*]

@[simp] theorem touches_secondExchange (e : LinkEntry) (r : Running) (hC : .cipher ∈ ps) (hL : .link ∈ ps) :
    Touches ps s (a.secondExchange e r) ↔ Touches ps s a := by
  simp [State.secondExchange, *]

@[simp] theorem touches_reportChallenge (e : LinkEntry) (i : Identity) (b : Bool) (hD : .directive ∈ ps)
    (hK : .consumable ∈ ps) (hL : .link ∈ ps) :
    Touches ps s (a.reportChallenge e i b) ↔ Touches ps s a := by
  simp only [State.reportChallenge]
  (repeat' split) <;> simp [*]

@[simp] theorem touches_exchangeReply (e : LinkEntry) (r : Running) (bs : List Byte) (b : Bool)
    (hC : .cipher ∈ ps) (hD : .directive ∈ ps) (hK : .consumable ∈ ps) (hL : .link ∈ ps) :
    Touches ps s (a.exchangeReply e r bs b) ↔ Touches ps s a := by
  simp only [State.exchangeReply]
  (repeat' split) <;> simp [*]

@[simp] theorem touches_receiveBytes (e : LinkEntry) (r : Running) (g : List Byte) (bs : List LinkByte) (b : Bool)
    (hC : .cipher ∈ ps) (hD : .directive ∈ ps) (hK : .consumable ∈ ps) (hL : .link ∈ ps) :
    Touches ps s (a.receiveBytes e r g bs b) ↔ Touches ps s a := by
  simp only [State.receiveBytes]
  (repeat' split) <;> simp [*]

@[simp] theorem touches_replyFrame (bs : List LinkByte) (b : Bool) (hC : .cipher ∈ ps) (hD : .directive ∈ ps)
    (hK : .consumable ∈ ps) (hL : .link ∈ ps) :
    Touches ps s (a.replyFrame bs b) ↔ Touches ps s a := by
  simp only [State.replyFrame]
  (repeat' split) <;> simp [*]

@[simp] theorem touches_replyTimeout (hD : .directive ∈ ps) (hK : .consumable ∈ ps) (hL : .link ∈ ps) :
    Touches ps s (a.replyTimeout) ↔ Touches ps s a := by
  simp only [State.replyTimeout]
  (repeat' split) <;> simp [*]

@[simp] theorem touches_quietAfterEnd (hC : .cipher ∈ ps) (hK : .consumable ∈ ps) (hL : .link ∈ ps) :
    Touches ps s (a.quietAfterEnd) ↔ Touches ps s a := by
  simp only [State.quietAfterEnd]
  (repeat' split) <;> simp [*]

@[simp] theorem touches_quietEnd (hC : .cipher ∈ ps) (hK : .consumable ∈ ps) (hL : .link ∈ ps) :
    Touches ps s (a.quietEnd) ↔ Touches ps s a := by
  simp only [State.quietEnd]
  (repeat' split) <;> simp [*]

/-! ### Time -/

@[simp] theorem touches_advanceTime (hD : .directive ∈ ps) :
    Touches ps s (a.advanceTime) ↔ Touches ps s a := by
  simp [State.advanceTime, *]

end Sys2Proof.Machine
end

