-- ==== Sys2Proof/Laws/Consumables.lean ====
section
/-! SUPPORT. Consumables: what each shared operation of the consumable unit does, said once. -/

namespace Sys2Proof.Machine

/-- Drawing `n` units is drawing one unit `n` times. -/
theorem drawUnits_eq_iterate (s : State) (p n : Nat) : s.drawUnits p n = (fun x : State => x.drawUnit p)^[n] s := by
  induction n generalizing s with
  | zero => rfl
  | succ n ih => rw [State.drawUnits, ih, Function.iterate_succ_apply]

/-- An update of one position changes that record and no other. -/
theorem consumableAt_updateConsumable (s : State) {p : Nat} (q : Nat) (f : Consumable → Consumable) (hp : p < 5) :
    (s.updateConsumable p f).consumableAt q = if q = p then f (s.consumableAt p) else s.consumableAt q := by
  simp only [State.updateConsumable, State.consumableAt, setConsumables_consumable]
  by_cases h : q = p
  · subst h; simp only [if_true]; exact tget_tset_same _ _ hp
  · simp only [h, if_false]; exact tget_tset_other _ _ h

@[simp] theorem setLink_consumableAt (s : State) (l : LinkUnit) (p : Nat) :
    (s.setLink l).consumableAt p = s.consumableAt p := rfl

/-- The link queue holds an entry of a kind for a position exactly where that entry is in it. -/
theorem linkHolds_eq (s : State) (p : Nat) (k : LinkKind) :
    s.linkHolds p k = decide ({ position := p, kind := k } ∈ s.link.queue) := by
  rw [Bool.eq_iff_iff]
  simp only [State.linkHolds, List.any_eq_true, Bool.and_eq_true, beq_iff_eq, decide_eq_true_eq]
  constructor
  · rintro ⟨⟨a, b⟩, h, rfl, rfl⟩; exact h
  · intro h; exact ⟨_, h, rfl, rfl⟩

/-- The unit asks for a SYNC exactly where R135 says one is wanted. -/
theorem syncNeeded_eq (r : Consumable) : r.syncNeeded = decide r.wantsSync := by
  rw [Bool.eq_iff_iff]
  simp [Consumable.syncNeeded, Consumable.wantsSync]

/-- All a link request does (R144, R145): it is admitted once, at the end, where the queue has room. -/
theorem requestLink_eq (s : State) (p : Nat) (k : LinkKind) :
    s.requestLink p k =
      (s.setLink { s.link with queue := admitted s.link.queue { position := p, kind := k } },
       decide (s.link.queue.length < 8)) := by
  unfold State.requestLink admitted
  rw [linkHolds_eq]
  by_cases h1 : 8 ≤ s.link.queue.length
  · simp only [if_pos h1, Prod.mk.injEq]; exact ⟨rfl, by simp; omega⟩
  · have h2 : s.link.queue.length < 8 := by omega
    simp only [if_neg h1, h2, decide_true, decide_eq_true_eq]
    split
    · simp [State.setLink]
    · rfl

/-- All a SYNC request does (R135, R144): the queue takes it or not, and the record keeps whether it was refused. -/
theorem requestSync_eq (s : State) (p : Nat) :
    s.requestSync p =
      (s.setLink { s.link with queue := admitted s.link.queue { position := p, kind := .sync } }).updateConsumable p
        fun r => { r with syncRefused := decide (8 ≤ s.link.queue.length) } := by
  unfold State.requestSync
  rw [requestLink_eq]
  simp only
  congr 1; funext r; congr 1
  rw [Bool.eq_iff_iff]; simp

/-- After a SYNC request the record and the link queue are those of `State.becomes` with the request made. -/
theorem requestSync_becomes {s u : State} {p : Nat} {r : Consumable} (hp : p < 5) (h : s.becomes u p r false) :
    s.becomes (u.requestSync p) p r true := by
  obtain ⟨h1, h2, h3⟩ := h
  simp only [Bool.false_eq_true, if_false] at h1 h2
  rw [requestSync_eq]
  refine ⟨?_, ?_, ?_⟩
  · rw [consumableAt_updateConsumable _ _ _ hp, if_pos rfl, if_pos rfl, setLink_consumableAt, h1, h2]
  · simp only [if_true, updateConsumable_link, setLink_link, h2]
  · intro q hq
    rw [consumableAt_updateConsumable _ _ _ hp, if_neg hq]
    exact h3 q hq

/-- A SYNC request made again at a full queue changes nothing more. -/
theorem requestSync_becomes_again {s u : State} {p : Nat} {r : Consumable} (hp : p < 5) (h : s.becomes u p r true)
    (hq : 8 ≤ s.link.queue.length) :
    s.becomes (u.requestSync p) p r true := by
  obtain ⟨h1, h2, h3⟩ := h
  simp only [if_true] at h1 h2
  have hl : u.link.queue = s.link.queue := by rw [h2]; simp [admitted, hq]
  rw [requestSync_eq]
  refine ⟨?_, ?_, ?_⟩
  · rw [consumableAt_updateConsumable _ _ _ hp, if_pos rfl, if_pos rfl, setLink_consumableAt, h1, hl]
  · simp only [if_true, updateConsumable_link, setLink_link]
    rw [hl]; rw [h2]
  · intro q hq
    rw [consumableAt_updateConsumable _ _ _ hp, if_neg hq]
    exact h3 q hq

theorem setDirective_asked_nil (s : State) : s.setDirective (s.directive.asked []) = s := by
  simp only [DirectiveUnit.asked, List.append_nil]; rfl

/-- All the LOW test does (R127, R134): one LOW notice where the chip has fallen below the low mark. -/
theorem noticeLowIf_eq (s : State) (p : Nat) (b : Bool) :
    s.noticeLowIf p b = s.setDirective (s.directive.asked
      (match (s.consumableAt p).chip with
       | some c =>
         if b = true ∧ c.remaining < (s.consumableAt p).lowMark then
           [noticeOf .low [u8 p, u32 c.remaining, u64 c.serial]]
         else []
       | none => [])) := by
  unfold State.noticeLowIf
  cases hc : (s.consumableAt p).chip with
  | none => exact (setDirective_asked_nil s).symm
  | some c =>
    simp only [Bool.and_eq_true, decide_eq_true_eq]
    split
    · rfl
    · exact (setDirective_asked_nil s).symm

/-- An update of one position makes `State.becomes` hold, with no SYNC request. -/
theorem updateConsumable_becomes {s : State} {p : Nat} (f : Consumable → Consumable) (hp : p < 5) :
    s.becomes (s.updateConsumable p f) p (f (s.consumableAt p)) false := by
  refine ⟨?_, rfl, ?_⟩
  · rw [consumableAt_updateConsumable _ _ _ hp]; simp
  · intro q hq; rw [consumableAt_updateConsumable _ _ _ hp, if_neg hq]

/-- `State.becomes` reads the records and the link queue alone. -/
theorem becomes_congr {s u v : State} {p : Nat} {r : Consumable} {b : Bool} (hc : v.consumable = u.consumable)
    (hl : v.link = u.link) (h : s.becomes u p r b) : s.becomes v p r b := by
  obtain ⟨h1, h2, h3⟩ := h
  have e : ∀ q, v.consumableAt q = u.consumableAt q := fun q => by simp only [State.consumableAt, hc]
  exact ⟨by rw [e, h1], by rw [hl, h2], fun q hq => by rw [e]; exact h3 q hq⟩

@[simp] theorem noticeLowIf_consumable (s : State) (p b) : (s.noticeLowIf p b).consumable = s.consumable := by
  rw [noticeLowIf_eq]; rfl
@[simp] theorem noticeLowIf_link (s : State) (p b) : (s.noticeLowIf p b).link = s.link := by
  rw [noticeLowIf_eq]; rfl
@[simp] theorem noticeLowIf_consumableAt (s : State) (p b q) :
    (s.noticeLowIf p b).consumableAt q = s.consumableAt q := by
  simp [State.consumableAt]
@[simp] theorem requestSync_directive (s : State) (p) : (s.requestSync p).directive = s.directive := by
  rw [requestSync_eq]; rfl

/-- After a unit is drawn a SYNC is asked for as R135 says: again where one was refused and is still wanted, and where
the record has 1024 unsynced units and none is queued. -/
theorem syncAfterDraw_becomes {s u : State} {p : Nat} {r : Consumable} (hp : p < 5) (h : s.becomes u p r false)
    (b : Bool)
    (hb : b =
      decide ((r.syncRefused = true ∧ r.wantsSync) ∨
        (r.state = .genuine ∧ 1024 ≤ r.unsynced ∧ { position := p, kind := .sync } ∉ s.link.queue))) :
    s.becomes (u.syncAfterDraw p) p r b := by
  have hr : u.consumableAt p = r := by simpa using h.1
  have hl : u.link = s.link := by simpa using h.2.1
  have : ((r.syncRefused && r.syncNeeded) ||
      (r.state == .genuine && decide (1024 ≤ r.unsynced) && !u.linkHolds p .sync)) = b := by
    rw [hb, Bool.eq_iff_iff, linkHolds_eq, syncNeeded_eq, hl]; simp [and_assoc]
  unfold State.syncAfterDraw
  simp only [hr, this]
  cases b
  · simpa using h
  · simpa using requestSync_becomes hp h

end Sys2Proof.Machine
end

