-- ==== Sys2Proof/Laws/Directives.lean ====
section
/-! SUPPORT. Directives: what the step of an owner answers, by part mode and name. -/

namespace Sys2Proof.Machine

/-- In NORMAL mode the owner's verdict on the executing directive is applied. -/
theorem runDirective_takes {s : State} {name : DirectiveName} {d : Directive}
    (owner : Directive → State → Verdict × State) (h : s.takes name d) :
    s.runDirective name owner = (owner d s).2.conclude d (owner d s).1 := by
  obtain ⟨⟨executing, code⟩, normal⟩ := h
  simp [State.runDirective, executing, code, State.locked, normal]

/-- STATUS and RECOVER are executed in both part modes. -/
theorem runDirective_open {s : State} {name : DirectiveName} {d : Directive}
    (owner : Directive → State → Verdict × State) (h : s.awaitsOwner name d)
    (ho : executedInLockdown name.code = true) :
    s.runDirective name owner = (owner d s).2.conclude d (owner d s).1 := by
  obtain ⟨executing, code⟩ := h
  simp [State.runDirective, executing, code, ho]

/-- In LOCKDOWN every other directive is answered LOCKED. -/
theorem runDirective_locked {s : State} {name : DirectiveName} {d : Directive}
    (owner : Directive → State → Verdict × State) (h : s.awaitsOwner name d) (hl : s.lockdown.mode = .lockdown)
    (ho : executedInLockdown name.code = false) :
    s.runDirective name owner = s.finish d (s.generalAnswer d .locked .none) := by
  obtain ⟨executing, code⟩ := h
  simp [State.runDirective, executing, code, ho, State.locked, hl]

/-- A finished directive is answered, and nothing but the directive unit changes. -/
theorem finish_answers {s : State} {d : Directive} {a : Answer} {g : BitVec 32}
    (hg : g = s.replyGeneration d.code d.operands) : s.answers (s.finish d a) d a g [] := by
  subst hg
  refine ⟨rfl, ?_⟩
  apply Touches.changesOnly; simp

/-- The replies of directives other than those of accounts carry no generation (R27). -/
theorem replyGeneration_eq_zero {s : State} {name : DirectiveName} {d : Directive} (h : s.awaitsOwner name d)
    (hc : ¬(DirectiveName.accountSet.code ≤ name.code ∧ name.code ≤ DirectiveName.accountClear.code)) (x : State) :
    x.replyGeneration d.code d.operands = 0 := by
  simp only [State.replyGeneration, h.2, hc, if_false]

/-- A directive whose owner has changed other parts and is then answered. -/
theorem finish_answers_after {s u : State} {d : Directive} {a : Answer} {ps : List Part}
    (g : ∀ x : State, x.replyGeneration d.code d.operands = 0) (hd : u.directive = s.directive)
    (hc : Touches ps s u) : s.answers (u.finish d a) d a 0 ps := by
  refine ⟨?_, ?_⟩
  · simp only [State.finish, State.reply, State.handWriter, g, DirectiveUnit.answered, Directive.replyOf,
      State.setDirective, State.now, hd]
  · apply Touches.changesOnly
    have : Touches (.directive :: ps) s u := fun p hp => hc p (by simp at hp; exact hp.2)
    simp [this]

/-- In NORMAL mode a directive whose reply is parked leaves the executing place, and the next one is taken up. -/
theorem conclude_parked {s : State} {d : Directive} (normal : s.lockdown.mode = .normal) (u : State)
    (hu : u.lockdown = s.lockdown) (ht : u.transaction.roles = s.transaction.roles)
    (ha : u.account.accounts = s.account.accounts) :
    (u.conclude d .parked).directive = s.movesOn u.directive := by
  simp only [State.conclude, State.dispatchNext, State.movesOn, State.setDirective]
  cases hq : u.directive.queue with
  | nil => simp
  | cons n more =>
    simp only
    by_cases hb : n.badFlag = true
    · simp only [hb, if_true, State.finish, State.reply, State.handWriter, State.setDirective,
        DirectiveUnit.answered, Directive.replyOf, State.now, State.generalAnswer, State.roleView, ht,
        State.replyGeneration, State.accountAt, ha]
    · simp only [hb, State.locked, hu, normal]; simp

end Sys2Proof.Machine
end

