-- ==== Sys2Proof/Laws/PerInstr.lean ====
section
/-! SUPPORT. One lemma for each command: what its well-formedness says of its operands. -/

namespace Sys2Proof.Laws.WellFormedness

/-- What `Instr.wellFormed` says of a command: the operands are those the port or the line can carry (R1, R3, R41, R128,
R148, R163), and a command without an operand is always well-formed. -/
def Statement (i : Instr) : Prop :=
  i.wellFormed = true ↔
    match i with
    | .subordinateTransaction t =>
      t.requester < 16 ∧ t.address < 2 ^ 40 ∧ t.address % 16 = 0 ∧ 1 ≤ t.beats ∧ t.beats ≤ 16 ∧
        t.data.length = if t.direction = .read then 0 else 16 * t.beats
    | .directiveEntry requester => requester < 16
    | .closeDeadline slot => slot < 32
    | .presenceLineChange position _ => position < 5
    | .presenceRise position => position < 5
    | .presenceFall position => position < 5
    | .replyFrame bytes _ => bytes ≠ []
    | .restoreAreaRead beats => 1 ≤ beats
    | _ => True

theorem subordinateTransaction (t : Transaction) : Statement (.subordinateTransaction t) := by
  cases h : t.direction <;> simp [Statement, Instr.wellFormed, Transaction.wellFormed, addressEnd, h, and_assoc]

theorem keyFaultReport : Statement .keyFaultReport := ⟨fun _ => trivial, fun _ => rfl⟩

theorem directiveEntry (r : Nat) : Statement (.directiveEntry r) := by
  simp [Statement, Instr.wellFormed]

theorem replyWriteDone : Statement .replyWriteDone := ⟨fun _ => trivial, fun _ => rfl⟩

theorem summaryWriteDone : Statement .summaryWriteDone := ⟨fun _ => trivial, fun _ => rfl⟩

theorem noticeWrite : Statement .noticeWrite := ⟨fun _ => trivial, fun _ => rfl⟩

theorem status : Statement .status := ⟨fun _ => trivial, fun _ => rfl⟩

theorem note : Statement .note := ⟨fun _ => trivial, fun _ => rfl⟩

theorem setNoticeRing : Statement .setNoticeRing := ⟨fun _ => trivial, fun _ => rfl⟩

theorem setAttentionMask : Statement .setAttentionMask := ⟨fun _ => trivial, fun _ => rfl⟩

theorem clearAttention : Statement .clearAttention := ⟨fun _ => trivial, fun _ => rfl⟩

theorem setRoles : Statement .setRoles := ⟨fun _ => trivial, fun _ => rfl⟩

theorem lockdown : Statement .lockdown := ⟨fun _ => trivial, fun _ => rfl⟩

theorem recover : Statement .recover := ⟨fun _ => trivial, fun _ => rfl⟩

theorem regionBind : Statement .regionBind := ⟨fun _ => trivial, fun _ => rfl⟩

theorem regionUnbind : Statement .regionUnbind := ⟨fun _ => trivial, fun _ => rfl⟩

theorem regionRead : Statement .regionRead := ⟨fun _ => trivial, fun _ => rfl⟩

theorem jobOpen : Statement .jobOpen := ⟨fun _ => trivial, fun _ => rfl⟩

theorem jobHold : Statement .jobHold := ⟨fun _ => trivial, fun _ => rfl⟩

theorem jobRelease : Statement .jobRelease := ⟨fun _ => trivial, fun _ => rfl⟩

theorem jobClose : Statement .jobClose := ⟨fun _ => trivial, fun _ => rfl⟩

theorem jobRead : Statement .jobRead := ⟨fun _ => trivial, fun _ => rfl⟩

theorem closeDeadline (k : Nat) : Statement (.closeDeadline k) := by
  simp [Statement, Instr.wellFormed]

theorem accountSet : Statement .accountSet := ⟨fun _ => trivial, fun _ => rfl⟩

theorem accountAdjust : Statement .accountAdjust := ⟨fun _ => trivial, fun _ => rfl⟩

theorem accountSuspend : Statement .accountSuspend := ⟨fun _ => trivial, fun _ => rfl⟩

theorem accountResume : Statement .accountResume := ⟨fun _ => trivial, fun _ => rfl⟩

theorem accountRead : Statement .accountRead := ⟨fun _ => trivial, fun _ => rfl⟩

theorem accountClear : Statement .accountClear := ⟨fun _ => trivial, fun _ => rfl⟩

theorem periodClose : Statement .periodClose := ⟨fun _ => trivial, fun _ => rfl⟩

theorem setTariff : Statement .setTariff := ⟨fun _ => trivial, fun _ => rfl⟩

theorem sheetsRead : Statement .sheetsRead := ⟨fun _ => trivial, fun _ => rfl⟩

theorem consumableRead : Statement .consumableRead := ⟨fun _ => trivial, fun _ => rfl⟩

theorem checkNow : Statement .checkNow := ⟨fun _ => trivial, fun _ => rfl⟩

theorem setLowMark : Statement .setLowMark := ⟨fun _ => trivial, fun _ => rfl⟩

theorem setSchedule : Statement .setSchedule := ⟨fun _ => trivial, fun _ => rfl⟩

theorem snapshot : Statement .snapshot := ⟨fun _ => trivial, fun _ => rfl⟩

theorem snapshotImageCopy : Statement .snapshotImageCopy := ⟨fun _ => trivial, fun _ => rfl⟩

theorem snapshotCompositionEnd : Statement .snapshotCompositionEnd := ⟨fun _ => trivial, fun _ => rfl⟩

theorem restore : Statement .restore := ⟨fun _ => trivial, fun _ => rfl⟩

theorem restoreReadEnd : Statement .restoreReadEnd := ⟨fun _ => trivial, fun _ => rfl⟩

theorem meterRead : Statement .meterRead := ⟨fun _ => trivial, fun _ => rfl⟩

theorem engSheet : Statement .engSheet := ⟨fun _ => trivial, fun _ => rfl⟩

theorem engJam : Statement .engJam := ⟨fun _ => trivial, fun _ => rfl⟩

theorem scnPage : Statement .scnPage := ⟨fun _ => trivial, fun _ => rfl⟩

theorem presenceLineChange (p : Nat) (l : Bool) : Statement (.presenceLineChange p l) := by
  simp [Statement, Instr.wellFormed]

theorem presenceRise (p : Nat) : Statement (.presenceRise p) := by
  simp [Statement, Instr.wellFormed]

theorem presenceFall (p : Nat) : Statement (.presenceFall p) := by
  simp [Statement, Instr.wellFormed]

theorem epochBoundary : Statement .epochBoundary := ⟨fun _ => trivial, fun _ => rfl⟩

theorem linkEntryStart : Statement .linkEntryStart := ⟨fun _ => trivial, fun _ => rfl⟩

theorem requestFrameSent : Statement .requestFrameSent := ⟨fun _ => trivial, fun _ => rfl⟩

theorem replyFrame (bs : List LinkByte) (v : Bool) : Statement (.replyFrame bs v) := by
  simp [Statement, Instr.wellFormed]

theorem replyTimeout : Statement .replyTimeout := ⟨fun _ => trivial, fun _ => rfl⟩

theorem quietEnd : Statement .quietEnd := ⟨fun _ => trivial, fun _ => rfl⟩

theorem pwrWarn : Statement .pwrWarn := ⟨fun _ => trivial, fun _ => rfl⟩

theorem bankComplete : Statement .bankComplete := ⟨fun _ => trivial, fun _ => rfl⟩

theorem tamperFall : Statement .tamperFall := ⟨fun _ => trivial, fun _ => rfl⟩

theorem tamperRise : Statement .tamperRise := ⟨fun _ => trivial, fun _ => rfl⟩

theorem powerOn : Statement .powerOn := ⟨fun _ => trivial, fun _ => rfl⟩

theorem resetN : Statement .resetN := ⟨fun _ => trivial, fun _ => rfl⟩

theorem restoreAreaRead (n : Nat) : Statement (.restoreAreaRead n) := by
  simp [Statement, Instr.wellFormed]

theorem pwrWarnRelease : Statement .pwrWarnRelease := ⟨fun _ => trivial, fun _ => rfl⟩

end Sys2Proof.Laws.WellFormedness
end

