-- ==== Sys2Proof/Laws/Step.lean ====
section
/-! SUPPORT. What a command can do: the parts of the state each can change, and the canonical form of page memory under
every operation that stores. -/

namespace Sys2Proof.Machine

variable {ps : List Part} {s a : State}

/-! ### Directives at their owners -/

theorem touches_withNamedJob {slot number : Nat} {owner : JobRecord → Verdict × State}
    (h : ∀ j, Touches ps s ((owner j).2) ↔ Touches ps s a) :
    Touches ps s ((withNamedJob slot number a owner).2) ↔ Touches ps s a := by
  simp only [withNamedJob]
  split <;> simp [*]

theorem touches_changeAccountState {x y : AccountState} (d : Directive) (hA : .account ∈ ps) :
    Touches ps s ((changeAccountState x y d a).2) ↔ Touches ps s a := by
  simp only [changeAccountState]
  (repeat' split) <;> simp [*]

@[simp] theorem touches_ownStatus (d : Directive) :
    Touches ps s ((ownStatus d a).2) ↔ Touches ps s a := Iff.rfl

@[simp] theorem touches_ownNote (d : Directive) (hD : .directive ∈ ps) (hY : .memory ∈ ps) :
    Touches ps s ((ownNote d a).2) ↔ Touches ps s a := by
  simp only [ownNote]
  (repeat' split) <;> simp [*]

@[simp] theorem touches_ownSetNoticeRing (d : Directive) (hD : .directive ∈ ps) :
    Touches ps s ((ownSetNoticeRing d a).2) ↔ Touches ps s a := by
  simp only [ownSetNoticeRing]
  (repeat' split) <;> simp [*]

@[simp] theorem touches_ownSetAttentionMask (d : Directive) (hD : .directive ∈ ps) :
    Touches ps s ((ownSetAttentionMask d a).2) ↔ Touches ps s a := by
  simp only [ownSetAttentionMask]
  (repeat' split) <;> simp [*]

@[simp] theorem touches_ownClearAttention (d : Directive) (hD : .directive ∈ ps) :
    Touches ps s ((ownClearAttention d a).2) ↔ Touches ps s a := by
  simp [ownClearAttention, *]

@[simp] theorem touches_ownSetRoles (d : Directive) (hT : .transaction ∈ ps) :
    Touches ps s ((ownSetRoles d a).2) ↔ Touches ps s a := by
  simp only [ownSetRoles]
  (repeat' split) <;> simp [*]

@[simp] theorem touches_ownLockdown (d : Directive) (hT : .transaction ∈ ps) (hC : .cipher ∈ ps) (hD : .directive ∈ ps) (hJ : .job ∈ ps) (hB : .parser ∈ ps) (hH : .charging ∈ ps) (hA : .account ∈ ps) (hK : .consumable ∈ ps) (hL : .link ∈ ps) (hM : .meter ∈ ps) (hO : .lockdown ∈ ps) :
    Touches ps s ((ownLockdown d a).2) ↔ Touches ps s a := by
  simp [ownLockdown, *]

@[simp] theorem touches_ownRecover (d : Directive) (hD : .directive ∈ ps) (hO : .lockdown ∈ ps) :
    Touches ps s ((ownRecover d a).2) ↔ Touches ps s a := by
  simp only [ownRecover]
  (repeat' split) <;> simp [*]

@[simp] theorem touches_ownRegionBind (d : Directive) (hT : .transaction ∈ ps) :
    Touches ps s ((ownRegionBind d a).2) ↔ Touches ps s a := by
  simp only [ownRegionBind, State.bindRegion]
  (repeat' split) <;> simp [*]

@[simp] theorem touches_ownRegionUnbind (d : Directive) (hT : .transaction ∈ ps) :
    Touches ps s ((ownRegionUnbind d a).2) ↔ Touches ps s a := by
  simp only [ownRegionUnbind]
  (repeat' split) <;> simp [*]

@[simp] theorem touches_ownRegionRead (d : Directive) :
    Touches ps s ((ownRegionRead d a).2) ↔ Touches ps s a := by
  simp only [ownRegionRead]
  (repeat' split) <;> simp [*]

@[simp] theorem touches_ownJobOpen (d : Directive) (hC : .cipher ∈ ps) (hJ : .job ∈ ps) :
    Touches ps s ((ownJobOpen d a).2) ↔ Touches ps s a := by
  simp only [ownJobOpen]
  (repeat' split) <;> simp [*]

@[simp] theorem touches_ownJobHold (d : Directive) (hJ : .job ∈ ps) :
    Touches ps s ((ownJobHold d a).2) ↔ Touches ps s a := by
  simp only [ownJobHold]
  refine touches_withNamedJob fun j => ?_
  (repeat' split) <;> simp [*]

@[simp] theorem touches_ownJobRelease (d : Directive) (hJ : .job ∈ ps) :
    Touches ps s ((ownJobRelease d a).2) ↔ Touches ps s a := by
  simp only [ownJobRelease]
  refine touches_withNamedJob fun j => ?_
  (repeat' split) <;> simp [*]

@[simp] theorem touches_ownJobClose (d : Directive) (hT : .transaction ∈ ps) (hC : .cipher ∈ ps) (hD : .directive ∈ ps) (hJ : .job ∈ ps) :
    Touches ps s ((ownJobClose d a).2) ↔ Touches ps s a := by
  simp only [ownJobClose]
  refine touches_withNamedJob fun j => ?_
  (repeat' split) <;> simp [*]

@[simp] theorem touches_ownJobRead (d : Directive) :
    Touches ps s ((ownJobRead d a).2) ↔ Touches ps s a := by
  simp only [ownJobRead]
  (repeat' split) <;> simp [*]

@[simp] theorem touches_ownAccountSet (d : Directive) (hA : .account ∈ ps) :
    Touches ps s ((ownAccountSet d a).2) ↔ Touches ps s a := by
  simp only [ownAccountSet]
  (repeat' split) <;> simp [*]

@[simp] theorem touches_ownAccountAdjust (d : Directive) (hA : .account ∈ ps) :
    Touches ps s ((ownAccountAdjust d a).2) ↔ Touches ps s a := by
  simp only [ownAccountAdjust]
  (repeat' split) <;> simp [*]

@[simp] theorem touches_ownAccountSuspend (d : Directive) (hA : .account ∈ ps) :
    Touches ps s ((ownAccountSuspend d a).2) ↔ Touches ps s a := touches_changeAccountState d hA

@[simp] theorem touches_ownAccountResume (d : Directive) (hA : .account ∈ ps) :
    Touches ps s ((ownAccountResume d a).2) ↔ Touches ps s a := touches_changeAccountState d hA

@[simp] theorem touches_ownAccountRead (d : Directive) :
    Touches ps s ((ownAccountRead d a).2) ↔ Touches ps s a := by
  simp only [ownAccountRead]
  (repeat' split) <;> simp [*]

@[simp] theorem touches_ownAccountClear (d : Directive) (hA : .account ∈ ps) :
    Touches ps s ((ownAccountClear d a).2) ↔ Touches ps s a := by
  simp only [ownAccountClear]
  (repeat' split) <;> simp [*]

@[simp] theorem touches_ownPeriodClose (d : Directive) (hA : .account ∈ ps) :
    Touches ps s ((ownPeriodClose d a).2) ↔ Touches ps s a := by
  simp [ownPeriodClose, *]

@[simp] theorem touches_ownSetTariff (d : Directive) (hH : .charging ∈ ps) :
    Touches ps s ((ownSetTariff d a).2) ↔ Touches ps s a := by
  simp only [ownSetTariff]
  (repeat' split) <;> simp [*]

@[simp] theorem touches_ownSheetsRead (d : Directive) :
    Touches ps s ((ownSheetsRead d a).2) ↔ Touches ps s a := by
  simp only [ownSheetsRead]
  (repeat' split) <;> simp [*]

@[simp] theorem touches_ownConsumableRead (d : Directive) :
    Touches ps s ((ownConsumableRead d a).2) ↔ Touches ps s a := by
  simp only [ownConsumableRead]
  (repeat' split) <;> simp [*]

@[simp] theorem touches_ownCheckNow (d : Directive) (hK : .consumable ∈ ps) (hL : .link ∈ ps) :
    Touches ps s ((ownCheckNow d a).2) ↔ Touches ps s a := by
  simp only [ownCheckNow]
  (repeat' split) <;> simp [*]

@[simp] theorem touches_ownSetLowMark (d : Directive) (hD : .directive ∈ ps) (hK : .consumable ∈ ps) :
    Touches ps s ((ownSetLowMark d a).2) ↔ Touches ps s a := by
  simp only [ownSetLowMark]
  (repeat' split) <;> simp [*]

@[simp] theorem touches_ownSetSchedule (d : Directive) (hK : .consumable ∈ ps) :
    Touches ps s ((ownSetSchedule d a).2) ↔ Touches ps s a := by
  simp only [ownSetSchedule]
  (repeat' split) <;> simp [*]

@[simp] theorem touches_ownSnapshot (d : Directive) (hD : .directive ∈ ps) (hM : .meter ∈ ps) :
    Touches ps s ((ownSnapshot d a).2) ↔ Touches ps s a := by
  simp only [ownSnapshot]
  (repeat' split) <;> simp [*]

@[simp] theorem touches_ownRestore (d : Directive) (hD : .directive ∈ ps) (hM : .meter ∈ ps) :
    Touches ps s ((ownRestore d a).2) ↔ Touches ps s a := by
  simp only [ownRestore]
  (repeat' split) <;> simp [*]

@[simp] theorem touches_ownMeterRead (d : Directive) :
    Touches ps s ((ownMeterRead d a).2) ↔ Touches ps s a := by
  simp only [ownMeterRead]
  (repeat' split) <;> simp [*]

theorem touches_runDirective {owner : Directive → State → Verdict × State} (name : DirectiveName)
    (hD : .directive ∈ ps) (h : ∀ d a, Touches ps s ((owner d a).2) ↔ Touches ps s a) :
    Touches ps s (s.runDirective name owner) := by
  simp only [State.runDirective]
  split
  · split
    · split
      · simp [*]
      · rw [touches_conclude _ _ hD, h]
        simp
    · simp
  · simp

theorem touches_afterLockdown (before : State) (hD : .directive ∈ ps) :
    Touches ps s (before.afterLockdown a) ↔ Touches ps s a := by
  simp only [State.afterLockdown]
  split <;> simp [*]

/-! ### Commands -/

/-- The parts of the state a command can change. -/
def footprint : Instr → List Part
  | .subordinateTransaction _ => [.transaction, .cipher, .directive, .job, .parser, .charging, .account, .consumable, .link, .memory]
  | .keyFaultReport => [.transaction, .cipher, .directive, .job, .parser, .charging, .account, .consumable, .link, .meter, .lockdown]
  | .directiveEntry _ => [.directive]
  | .replyWriteDone => [.directive, .memory]
  | .summaryWriteDone => [.directive, .memory]
  | .noticeWrite => [.directive, .memory]
  | .status => [.directive]
  | .note => [.directive, .memory]
  | .setNoticeRing => [.directive]
  | .setAttentionMask => [.directive]
  | .clearAttention => [.directive]
  | .setRoles => [.transaction, .directive]
  | .lockdown => [.transaction, .cipher, .directive, .job, .parser, .charging, .account, .consumable, .link, .meter, .lockdown]
  | .recover => [.directive, .lockdown]
  | .regionBind => [.transaction, .directive]
  | .regionUnbind => [.transaction, .directive]
  | .regionRead => [.directive]
  | .jobOpen => [.cipher, .directive, .job]
  | .jobHold => [.directive, .job]
  | .jobRelease => [.directive, .job]
  | .jobClose => [.transaction, .cipher, .directive, .job]
  | .jobRead => [.directive]
  | .closeDeadline _ => [.transaction, .cipher, .directive, .job, .parser, .charging, .account, .consumable, .link]
  | .accountSet => [.directive, .account]
  | .accountAdjust => [.directive, .account]
  | .accountSuspend => [.directive, .account]
  | .accountResume => [.directive, .account]
  | .accountRead => [.directive]
  | .accountClear => [.directive, .account]
  | .periodClose => [.directive, .account]
  | .setTariff => [.directive, .charging]
  | .sheetsRead => [.directive]
  | .consumableRead => [.directive]
  | .checkNow => [.directive, .consumable, .link]
  | .setLowMark => [.directive, .consumable]
  | .setSchedule => [.directive, .consumable]
  | .snapshot => [.directive, .meter]
  | .snapshotImageCopy => [.meter, .memory]
  | .snapshotCompositionEnd => [.meter, .memory]
  | .restore => [.directive, .meter]
  | .restoreReadEnd => [.directive, .charging, .account, .meter]
  | .meterRead => [.directive]
  | .engSheet => [.transaction, .cipher, .directive, .job, .parser, .charging, .account, .consumable, .link, .meter]
  | .engJam => [.transaction, .cipher, .directive, .job, .parser, .charging, .account, .consumable, .link]
  | .scnPage => [.transaction, .directive, .job, .account, .meter]
  | .presenceLineChange _ _ => [.consumable]
  | .presenceRise _ => [.directive, .consumable, .link]
  | .presenceFall _ => [.directive, .consumable, .link]
  | .epochBoundary => [.consumable, .link]
  | .linkEntryStart => [.cipher, .consumable, .link]
  | .requestFrameSent => [.link]
  | .replyFrame _ _ => [.cipher, .directive, .consumable, .link]
  | .replyTimeout => [.directive, .consumable, .link]
  | .quietEnd => [.cipher, .consumable, .link]
  | .pwrWarn => [.directive, .meter]
  | .bankComplete => [.directive, .meter]
  | .tamperFall => [.transaction, .cipher, .directive, .job, .parser, .charging, .account, .consumable, .link, .meter, .lockdown]
  | .tamperRise => [.lockdown]
  | .powerOn => [.transaction, .cipher, .directive, .job, .parser, .charging, .account, .consumable, .link, .meter, .lockdown]
  | .resetN => [.transaction, .cipher, .directive, .job, .parser, .charging, .account, .consumable, .link, .meter, .lockdown]
  | .restoreAreaRead _ => [.meter]
  | .pwrWarnRelease => [.meter]

/-- What a command leaves as it was: every part outside its footprint. -/
theorem exec_footprint {c : Instr} {s t : State} (h : exec c s = .next t) : Touches (footprint c) s t := by
  cases c with
  | subordinateTransaction t =>
    simp only [exec, execSubordinateTransaction] at h
    split at h
    · obtain rfl := Host.Outcome.next.inj h
      simp [footprint]
    · exact absurd h (by simp)
  | keyFaultReport =>
    obtain rfl := Host.Outcome.next.inj h
    simp [footprint]
  | directiveEntry x =>
    obtain rfl := Host.Outcome.next.inj h
    simp [footprint]
  | replyWriteDone =>
    obtain rfl := Host.Outcome.next.inj h
    simp [footprint]
  | summaryWriteDone =>
    obtain rfl := Host.Outcome.next.inj h
    simp [footprint]
  | noticeWrite =>
    obtain rfl := Host.Outcome.next.inj h
    simp [footprint]
  | status =>
    obtain rfl := Host.Outcome.next.inj h
    refine touches_runDirective _ ?_ fun d a => ?_ <;> simp [footprint]
  | note =>
    obtain rfl := Host.Outcome.next.inj h
    refine touches_runDirective _ ?_ fun d a => ?_ <;> simp [footprint]
  | setNoticeRing =>
    obtain rfl := Host.Outcome.next.inj h
    refine touches_runDirective _ ?_ fun d a => ?_ <;> simp [footprint]
  | setAttentionMask =>
    obtain rfl := Host.Outcome.next.inj h
    refine touches_runDirective _ ?_ fun d a => ?_ <;> simp [footprint]
  | clearAttention =>
    obtain rfl := Host.Outcome.next.inj h
    refine touches_runDirective _ ?_ fun d a => ?_ <;> simp [footprint]
  | setRoles =>
    obtain rfl := Host.Outcome.next.inj h
    refine touches_runDirective _ ?_ fun d a => ?_ <;> simp [footprint]
  | lockdown =>
    obtain rfl := Host.Outcome.next.inj h
    refine (touches_afterLockdown s ?_).mpr (touches_runDirective _ ?_ fun d a => ?_) <;> simp [footprint]
  | recover =>
    obtain rfl := Host.Outcome.next.inj h
    refine touches_runDirective _ ?_ fun d a => ?_ <;> simp [footprint]
  | regionBind =>
    obtain rfl := Host.Outcome.next.inj h
    refine touches_runDirective _ ?_ fun d a => ?_ <;> simp [footprint]
  | regionUnbind =>
    obtain rfl := Host.Outcome.next.inj h
    refine touches_runDirective _ ?_ fun d a => ?_ <;> simp [footprint]
  | regionRead =>
    obtain rfl := Host.Outcome.next.inj h
    refine touches_runDirective _ ?_ fun d a => ?_ <;> simp [footprint]
  | jobOpen =>
    obtain rfl := Host.Outcome.next.inj h
    refine touches_runDirective _ ?_ fun d a => ?_ <;> simp [footprint]
  | jobHold =>
    obtain rfl := Host.Outcome.next.inj h
    refine touches_runDirective _ ?_ fun d a => ?_ <;> simp [footprint]
  | jobRelease =>
    obtain rfl := Host.Outcome.next.inj h
    refine touches_runDirective _ ?_ fun d a => ?_ <;> simp [footprint]
  | jobClose =>
    obtain rfl := Host.Outcome.next.inj h
    refine touches_runDirective _ ?_ fun d a => ?_ <;> simp [footprint]
  | jobRead =>
    obtain rfl := Host.Outcome.next.inj h
    refine touches_runDirective _ ?_ fun d a => ?_ <;> simp [footprint]
  | closeDeadline x =>
    obtain rfl := Host.Outcome.next.inj h
    simp [footprint]
  | accountSet =>
    obtain rfl := Host.Outcome.next.inj h
    refine touches_runDirective _ ?_ fun d a => ?_ <;> simp [footprint]
  | accountAdjust =>
    obtain rfl := Host.Outcome.next.inj h
    refine touches_runDirective _ ?_ fun d a => ?_ <;> simp [footprint]
  | accountSuspend =>
    obtain rfl := Host.Outcome.next.inj h
    refine touches_runDirective _ ?_ fun d a => ?_ <;> simp [footprint]
  | accountResume =>
    obtain rfl := Host.Outcome.next.inj h
    refine touches_runDirective _ ?_ fun d a => ?_ <;> simp [footprint]
  | accountRead =>
    obtain rfl := Host.Outcome.next.inj h
    refine touches_runDirective _ ?_ fun d a => ?_ <;> simp [footprint]
  | accountClear =>
    obtain rfl := Host.Outcome.next.inj h
    refine touches_runDirective _ ?_ fun d a => ?_ <;> simp [footprint]
  | periodClose =>
    obtain rfl := Host.Outcome.next.inj h
    refine touches_runDirective _ ?_ fun d a => ?_ <;> simp [footprint]
  | setTariff =>
    obtain rfl := Host.Outcome.next.inj h
    refine touches_runDirective _ ?_ fun d a => ?_ <;> simp [footprint]
  | sheetsRead =>
    obtain rfl := Host.Outcome.next.inj h
    refine touches_runDirective _ ?_ fun d a => ?_ <;> simp [footprint]
  | consumableRead =>
    obtain rfl := Host.Outcome.next.inj h
    refine touches_runDirective _ ?_ fun d a => ?_ <;> simp [footprint]
  | checkNow =>
    obtain rfl := Host.Outcome.next.inj h
    refine touches_runDirective _ ?_ fun d a => ?_ <;> simp [footprint]
  | setLowMark =>
    obtain rfl := Host.Outcome.next.inj h
    refine touches_runDirective _ ?_ fun d a => ?_ <;> simp [footprint]
  | setSchedule =>
    obtain rfl := Host.Outcome.next.inj h
    refine touches_runDirective _ ?_ fun d a => ?_ <;> simp [footprint]
  | snapshot =>
    obtain rfl := Host.Outcome.next.inj h
    refine touches_runDirective _ ?_ fun d a => ?_ <;> simp [footprint]
  | snapshotImageCopy =>
    obtain rfl := Host.Outcome.next.inj h
    simp [footprint]
  | snapshotCompositionEnd =>
    obtain rfl := Host.Outcome.next.inj h
    simp [footprint]
  | restore =>
    obtain rfl := Host.Outcome.next.inj h
    refine touches_runDirective _ ?_ fun d a => ?_ <;> simp [footprint]
  | restoreReadEnd =>
    obtain rfl := Host.Outcome.next.inj h
    simp [footprint]
  | meterRead =>
    obtain rfl := Host.Outcome.next.inj h
    refine touches_runDirective _ ?_ fun d a => ?_ <;> simp [footprint]
  | engSheet =>
    obtain rfl := Host.Outcome.next.inj h
    simp [footprint]
  | engJam =>
    obtain rfl := Host.Outcome.next.inj h
    simp [footprint]
  | scnPage =>
    obtain rfl := Host.Outcome.next.inj h
    simp [footprint]
  | presenceLineChange p l =>
    simp only [exec, execPresenceLineChange] at h
    split at h
    · obtain rfl := Host.Outcome.next.inj h
      split <;> simp [footprint]
    · exact absurd h (by simp)
  | presenceRise x =>
    obtain rfl := Host.Outcome.next.inj h
    simp [footprint]
  | presenceFall x =>
    obtain rfl := Host.Outcome.next.inj h
    simp [footprint]
  | epochBoundary =>
    obtain rfl := Host.Outcome.next.inj h
    simp [footprint]
  | linkEntryStart =>
    obtain rfl := Host.Outcome.next.inj h
    split <;> simp [footprint]
  | requestFrameSent =>
    obtain rfl := Host.Outcome.next.inj h
    simp [footprint]
  | replyFrame x y =>
    obtain rfl := Host.Outcome.next.inj h
    split <;> simp [footprint]
  | replyTimeout =>
    obtain rfl := Host.Outcome.next.inj h
    simp [footprint]
  | quietEnd =>
    obtain rfl := Host.Outcome.next.inj h
    simp [footprint]
  | pwrWarn =>
    obtain rfl := Host.Outcome.next.inj h
    simp [footprint]
  | bankComplete =>
    obtain rfl := Host.Outcome.next.inj h
    simp [footprint]
  | tamperFall =>
    obtain rfl := Host.Outcome.next.inj h
    split <;> simp [footprint]
  | tamperRise =>
    obtain rfl := Host.Outcome.next.inj h
    simp [footprint]
  | powerOn =>
    obtain rfl := Host.Outcome.next.inj h
    intro p hp
    cases p <;> first | rfl | exact absurd hp (by decide)
  | resetN =>
    obtain rfl := Host.Outcome.next.inj h
    intro p hp
    cases p <;> first | rfl | exact absurd hp (by decide)
  | restoreAreaRead x =>
    obtain rfl := Host.Outcome.next.inj h
    simp [footprint]
  | pwrWarnRelease =>
    obtain rfl := Host.Outcome.next.inj h
    simp [footprint]

end Sys2Proof.Machine
end

