-- ==== Sys2Proof/Laws/Transactions.lean ====
section
/-! SUPPORT. Transactions: where an address lies, and what each treatment does to the state. -/

namespace Sys2Proof.Machine

/-- An address that no bound region holds lies in none. -/
theorem regionOf_eq_none {s : State} {a : Nat} (h : ∀ i r, s.region i = some r → r.holds a = false) :
    s.regionOf a = none := by
  unfold State.regionOf
  simp only
  split
  · rename_i k hk
    rw [List.findIdx?_eq_some_iff_getElem] at hk
    obtain ⟨hl, hh, _⟩ := hk
    simp [tlist] at hl hh
    have entry : s.region k = s.transaction.regions[k] := by simp [State.region, tget, hl]
    cases hr : s.region k with
    | none => rfl
    | some r =>
      rw [hr] at entry
      rw [← entry] at hh
      have held : r.holds a = true := hh
      rw [h k r hr] at held
      cases held
  · rfl

/-- The region an address lies in is a bound entry that holds it. -/
theorem regionOf_some {s : State} {a i : Nat} {r : Region} (h : s.regionOf a = some (i, r)) :
    i < 64 ∧ s.region i = some r ∧ r.holds a = true := by
  unfold State.regionOf at h
  simp only at h
  split at h
  · rename_i k hk
    rw [List.findIdx?_eq_some_iff_getElem] at hk
    obtain ⟨hl, hh, _⟩ := hk
    simp [tlist] at hl hh
    have entry : s.region k = s.transaction.regions[k] := by simp [State.region, tget, hl]
    cases hr : s.region k with
    | none => rw [hr] at h; simp at h
    | some r' =>
      rw [hr] at h; simp at h
      obtain ⟨rfl, rfl⟩ := h
      rw [hr] at entry
      rw [← entry] at hh
      exact ⟨hl, hr, hh⟩
  · simp at h

/-- The SPLIT test compares the pages of the first and the last byte (R2). -/
theorem splitsPage_iff {t : Transaction} :
    splitsPage t = true ↔ t.address / 4096 ≠ (t.address + 16 * t.beats - 1) / 4096 := by
  simp [splitsPage, bne_iff_ne]

/-- A store in canonical memory stores its bytes and no other. -/
theorem storesOnly_store {s u : State} {a : Nat} {bs : List Byte} (h : s.memoryCanonical)
    (hu : u.memory = Memory.writeBytes s.memory a bs) : s.storesOnly u a bs := by
  constructor
  · rw [hu]; exact Memory.readBytes_writeBytes h
  · intro x hx; rw [hu]; exact Memory.read_writeBytes_outside h hx

/-- The examination of a CONTROL write leaves page memory. -/
@[simp] theorem examine_memory (s : State) (t : Transaction) : (s.examine t).memory = s.memory := by
  unfold State.examine; (repeat' split) <;> rfl

/-- The examination of a CONTROL write leaves the transaction unit. -/
@[simp] theorem examine_transaction (s : State) (t : Transaction) : (s.examine t).transaction = s.transaction := by
  unfold State.examine; (repeat' split) <;> rfl

/-- What a transaction treated PASS does. -/
theorem passTransaction_passes {s : State} {t : Transaction} (hm : s.memoryCanonical) :
    s.passes (s.passTransaction t (s.roleOf t)) t := by
  unfold State.passes State.passTransaction
  cases hd : t.direction with
  | read =>
    simp only [State.forward, hd, State.answersRead]
    refine ⟨rfl, ?_⟩
    apply Touches.changesOnly; simp
  | write =>
    cases hr : s.roleOf t <;> simp only [State.forward, hd]
    case control =>
      refine ⟨by rw [examine_transaction]; rfl, storesOnly_store hm (by rw [examine_memory]; rfl), ?_⟩
      apply Touches.changesOnly; simp
    all_goals
      refine ⟨rfl, storesOnly_store hm rfl, ?_⟩
      apply Touches.changesOnly; simp

/-- What a refused transaction does. -/
theorem refuseAccess_refuses {s : State} {t : Transaction} (reason : AccessReason) (region : Option Nat) :
    s.refusesAccess (s.refuseAccess t (s.roleOf t) reason region) t reason region := by
  refine ⟨rfl, rfl, ?_⟩
  apply Touches.changesOnly; simp [State.refuseAccess]

/-- One plaintext under two keys of the first 2^64 draws, two segment numbers or two beat offsets gives two ciphertexts
(R66). -/
theorem cipher_separates {key key' : JobKey} {tweak tweak' : Tweak} {b : Beat} (hk : key.draw < 2 ^ 64)
    (hk' : key'.draw < 2 ^ 64) (hs : tweak.segment < 16) (hs' : tweak'.segment < 16) (hb : tweak.beat < 2 ^ 24)
    (hb' : tweak'.beat < 2 ^ 24) (h : Config.cipher key tweak b = Config.cipher key' tweak' b) :
    key = key' ∧ tweak = tweak' :=
  Config.cipherUnit.separates key key' tweak tweak' b hk hk' hs hs' hb hb' h

/-- An entry with a key and its own check passes the key check. -/
theorem checkedKey_of_holdsKey {s : State} {slot : Nat} {key : JobKey} (h : s.holdsKey slot key) :
    s.checkedKey slot = some key := by
  simp only [State.holdsKey] at h
  simp [State.checkedKey, State.keyPasses, h]

/-- A VIDEO read that the grant table answers DECIPHERED goes to the tests of R79. -/
theorem exec_readsPage {s : State} {t : Transaction} {i : Nat} {r : Region} {j : JobRecord} {f : Framing} {cursor : Nat}
    (h : s.readsPage t i r j f cursor) :
    exec (.subordinateTransaction t) s = .next (s.videoRead t i r f cursor) := by
  obtain ⟨⟨wf, split⟩, read, role, ⟨normal, region, job⟩, body, grants⟩ := h
  have role' : (tget s.transaction.roles t.requester : Role) = .video := role
  have kind : r.kind = .page := by simp [Region.kind, body]
  have treated : s.treatment .video .read t.address = (.deciphered, some (i, r)) := by
    simp [State.treatment, State.locked, normal, region, job, kind, grant, grantRead, grants]
  simp [exec, execSubordinateTransaction, wf, State.takeTransaction, split, role', read, treated,
    State.decipheredRead, body]

/-- A read that R79 lets through, under a key that passes its check, is parsed from its deciphered bytes (R15, R81). -/
theorem parseVideo_of_holdsKey {s : State} {t : Transaction} {i : Nat} {r : Region} {key : JobKey}
    (h : (s.restartFraming (videoReadOf t i r)).holdsKey r.slot key) :
    let restarted := s.restartFraming (videoReadOf t i r)
    let data := restarted.plainBytes t r key
    let parsed := restarted.parseRead (videoReadOf t i r) data
    s.parseVideo t i r = parsed.1.respond t.requester parsed.2 (if parsed.2 = true then data else []) := by
  intro restarted data parsed
  unfold State.parseVideo
  simp only [checkedKey_of_holdsKey h]
  show (match parsed with | (parsed, true) => _ | (parsed, false) => _) = _
  obtain ⟨p, b⟩ := parsed
  cases b <;> rfl

/-- A read that R79 lets through is parsed (R81). -/
theorem videoRead_eq_parseVideo {s : State} {t : Transaction} {i : Nat} {r : Region} {f : Framing} {cursor : Nat}
    (h : placementRefusal f cursor (t.address - r.base) t.beats = none) :
    s.videoRead t i r f cursor = s.parseVideo t i r := by
  simp [State.videoRead, h]

/-- A read away from offset 0 restarts nothing (R80). -/
theorem restartFraming_of_offset {s : State} {v : VideoRead} (h : v.offset ≠ 0) : s.restartFraming v = s := by
  simp [State.restartFraming, h]

/-- The response of the subordinate port to a transaction. -/
theorem respond_response (s : State) (requester : Nat) (okay : Bool) (data : List Byte) :
    (s.respond requester okay data).transaction.response =
      some { requester := requester, okay := okay, data := data } :=
  rfl

end Sys2Proof.Machine
end

