-- ==== Sys2Proof/Tests/Slice0.lean ====
section
/-! SUPPORT. Tests: ill-formed commands, the clauses of each directive at boundary values, one step of each other
command, and for each claim with premises a state that meets them. -/

namespace Sys2Proof.Machine.Slice0

/- One theorem after another: the kernel evaluates each of them. -/
set_option Elab.async false

/-! ## Small states -/

/-- A directive of a name with operands laid out in its form. -/
def directive (name : DirectiveName) (widths values : List Nat) (flags : Nat := 0) : Directive :=
  { code := name.code, flags := flags, hostReference := 7, expectedGeneration := 0
    operands := padTo 32 (layout ((widths.zip values).map fun p => ⟨p.1, some p.2⟩)), tag := [], location := 4096
    requester := 0 }

/-- A state in which a directive waits for its owner. -/
def asking (s : State) (d : Directive) : State :=
  s.setDirective { s.directive with executing := some { directive := d, phase := .running } }

/-- The same with the part in LOCKDOWN. -/
def locked (s : State) : State := s.setLockdown { s.lockdown with mode := .lockdown, cause := some .tamper }

/-- The state after a step that answers a next state; the state itself where the step does not. -/
def after (c : Instr) (s : State) : State :=
  match exec c s with
  | .next t => t
  | _ => s

/-- The outcome and detail of the newest reply that waits to be written. -/
def newest (s : State) : Option (OutcomeCode × Detail) :=
  match s.directive.writes.getLast? with
  | some (.reply r) => some (r.outcome, r.detail)
  | _ => none

/-- What a directive is answered, for each list of operand values. -/
def answersOf (s : State) (name : DirectiveName) (widths : List Nat) (cases : List (List Nat)) :
    List (Option (OutcomeCode × Detail)) :=
  cases.map fun values => newest (after name.command (asking s (directive name widths values)))

/-- A job record. -/
def record (number : Nat) (kind : JobKind) (phase : JobPhase) (account inQueue : Nat) : JobRecord :=
  { JobRecord.fresh number kind account 0 0 0 with phase := phase, inQueue := inQueue }

/-- A parked reply. -/
def parked : Parked := { code := 0x23, hostReference := 9, location := 8192 }

/-- A job in a slot with a key of its own. -/
def withJob (s : State) (slot : Nat) (j : JobRecord) : State := (s.setJob slot (some j)).drawKey slot

/-- An account in use with nothing reserved. -/
def account (state : AccountState) (mode : AccountMode) (limit : Nat) (balance : Int) : Account :=
  { Account.unused 0 with state := state, mode := mode, colour := true, creditLimit := limit, balance := balance }

/-- A PAGE region of one page. -/
def page (base slot segment : Nat) (framing : Framing) (cursor : Nat) : Region :=
  { base := base, length := 4096, slot := slot, segment := segment, body := .page framing cursor }

/-- A record of a cartridge that is in a state and holds a yield. -/
def cartridge (state : ConsumableState) (position remaining : Nat) : Consumable :=
  { Consumable.cleared state 0 false with
    chip := some { serial := 9, modelCode := position, remaining := remaining } }

/-- A side record that reserves an amount. -/
def side (kind : SideKind) (reservation : Nat) (complete : Bool) : SideRecord :=
  { kind := kind, mask := 1, monoCost := reservation, colourCost := reservation, reservation := reservation
    dots := { k := 5, c := 0, m := 0, y := 0 }, complete := complete }

/-- A sheet with a front side only. -/
def sheet (name : Nat) (owner : Owner) (account : Nat) (state : SheetState) : Sheet :=
  { name := name, owner := owner, account := account, state := state, front := side .front 3 true, back := none }

/-- Requester 1 PIPELINE, 2 SCAN, 3 VIDEO, 4 STORE. -/
def roles : Vector Role 16 :=
  #v[.control, .pipeline, .scan, .video, .store, .other, .other, .other, .other, .other, .other, .other, .other,
     .other, .other, .other]

/-- The reset state with every role given out. -/
def base : State := State.reset.setTransaction { State.reset.transaction with roles := roles }

/-- An ACTIVE COPY job in slot 0 with a PAGE region at 65,536, a HELD job in slot 1, a CLOSING one with a sheet in
slot 2; account 0 CREDIT, account 1 SUSPENDED, account 3 UNMETERED and owing; cartridges at 0, 1 and 2. -/
def office : State :=
  let jobs := withJob (withJob (withJob base 0 (record 1 .copy .active 0 0)) 1 (record 2 .heldPrint .held 0 0)) 2
    (record 3 .print (.closing { summary := none, deadline := 30000000, parked := parked }) 0 1)
  let regions := jobs.setRegion 0 (some (page 65536 0 0 .atHeader 0))
  let accounts := (((regions.updateAccount 0 fun _ => { account .active .credit 500 1000 with reserved := 3 })
    |>.updateAccount 1 fun _ => account .suspended .prepaid 0 50)
    |>.updateAccount 3 fun _ => account .active .unmetered 0 (-20))
  let sheets := accounts.setSheets [sheet 0 (.job 2) 0 .awaitingBack]
  ((sheets.updateConsumable 0 fun _ => cartridge .genuine 0 70).updateConsumable 1 fun _ =>
    cartridge .rejected 1 5).updateConsumable 2 fun _ =>
      { cartridge .authenticating 2 5 with parkedCheck := some parked }

/-! ## Ill-formed commands -/

/-- A read of one beat. -/
def readBeat : Transaction :=
  { requester := 0, direction := .read, address := 0, beats := 1, data := [], tagVerifies := false }

theorem test_wellFormed_refuses_each_ill_formed_command :
    [Instr.subordinateTransaction { readBeat with requester := 16 },
      .subordinateTransaction { readBeat with address := 2 ^ 40 },
      .subordinateTransaction { readBeat with address := 8 }, .subordinateTransaction { readBeat with beats := 0 },
      .subordinateTransaction { readBeat with beats := 17 }, .subordinateTransaction { readBeat with data := [0] },
      .subordinateTransaction { readBeat with direction := .write, data := List.replicate 15 0 }, .directiveEntry 16,
      .closeDeadline 32, .presenceLineChange 5 true, .presenceRise 5, .presenceFall 5, .replyFrame [] true,
      .restoreAreaRead 0].map Instr.wellFormed = List.replicate 14 false := by
  decide +kernel

theorem test_wellFormed_accepts_the_bounds :
    [Instr.subordinateTransaction { readBeat with requester := 15, address := 2 ^ 40 - 16 },
      .subordinateTransaction { readBeat with beats := 16, direction := .write, data := List.replicate 256 0 },
      .directiveEntry 15, .closeDeadline 31, .presenceLineChange 4 true, .presenceRise 4, .presenceFall 4,
      .replyFrame [default] true, .restoreAreaRead 1].map Instr.wellFormed = List.replicate 9 true := by
  decide +kernel

theorem test_port_carries_no_ill_formed_transaction :
    exec (.subordinateTransaction { readBeat with beats := 17 }) base = .fault .notAtThePort := rfl

theorem test_no_line_for_position_five : exec (.presenceLineChange 5 true) base = .fault .noSuchPosition := rfl

theorem test_no_word_spells_a_command (n w : Nat) (s : State) :
    decodeTableWord n w = none ∧ s.withFetchWord n w = s := ⟨rfl, rfl⟩

/-! ## Each directive's clauses at boundary values -/

theorem test_in_lockdown_all_but_two_directives_are_locked :
    (DirectiveName.all.filter fun n =>
        newest (after n.command (asking (locked office) (directive n [] []))) ≠ some (.locked, .none)) =
      [.status, .recover] := by
  decide +kernel

theorem test_status_is_answered : answersOf office .status [] [[]] = [some (.done, .none)] := by decide +kernel

/-- The notice ring set at an address. -/
def ringed (s : State) : State :=
  s.setDirective { s.directive with ring := some { base := 8192, count := 16, head := 15, written := 4294967295 } }

theorem test_note_clauses :
    answersOf office .note noteForm [[1]] = [some (.refusedState, .noRing)] ∧
      answersOf (ringed office) .note noteForm [[1]] = [some (.done, .none)] := by
  decide +kernel

theorem test_note_wraps_the_head_and_the_written_count :
    (after .note (asking (ringed office) (directive .note noteForm [1]))).directive.ring =
      some { base := 8192, count := 16, head := 0, written := 0 } := by
  decide +kernel

theorem test_setNoticeRing_clauses :
    answersOf (office.own 131072 64 .replyLocation) .setNoticeRing setNoticeRingForm
        [[16, 16], [0, 15], [0, 4097], [2 ^ 40 - 480, 16], [69600, 16], [131104, 16], [2 ^ 40 - 131072, 4096]] =
      [some (.refusedRange, .badOperand), some (.refusedRange, .badOperand), some (.refusedRange, .badOperand),
       some (.refusedRange, .badRange), some (.refusedRange, .overlapRegion), some (.refusedRange, .overlapOwned),
       some (.done, .none)] := by
  decide +kernel

theorem test_attention_clauses :
    answersOf office .setAttentionMask setAttentionMaskForm [[512], [511]] =
        [some (.refusedRange, .badOperand), some (.done, .none)] ∧
      answersOf office .clearAttention [] [[]] = [some (.done, .none)] := by
  decide +kernel

/-- Sixteen role codes. -/
def roleForm : List Nat := List.replicate 16 1

theorem test_setRoles_clauses :
    answersOf base .setRoles roleForm
          [6 :: List.replicate 15 0, List.replicate 16 5, 0 :: List.replicate 15 5] =
        [some (.refusedRange, .roleCode), some (.refusedRange, .noControl), some (.done, .none)] ∧
      answersOf office .setRoles roleForm [0 :: List.replicate 15 5] = [some (.refusedState, .jobsOpen)] := by
  decide +kernel

theorem test_recover_clauses :
    answersOf office .recover [] [[]] = [some (.refusedState, .notLocked)] ∧
      answersOf ((locked base).setTamper false) .recover [] [[]] = [some (.refusedState, .tamper)] ∧
      answersOf (locked base) .recover [] [[]] = [some (.done, .none)] := by
  decide +kernel

theorem test_lockdown_ends_every_job :
    let t := after .lockdown (asking office (directive .lockdown [] []))
    t.lockdown.mode = .lockdown ∧ t.allSlotsFree = true ∧ t.charging.sheets.map Sheet.owner = [.orphan] ∧
      t.directive.attn = true := by
  decide +kernel

theorem test_regionBind_clauses :
    answersOf (office.own 131072 64 .replyLocation) .regionBind regionBindForm
        [[32, 0, 0, 4096, 1], [0, 16, 0, 4096, 1], [0, 0, 0, 4096, 2], [0, 1, 16, 4096, 1], [0, 1, 0, 4112, 1],
         [0, 1, 0, 0, 1], [0, 1, 0, 268439552, 1], [0, 1, 2 ^ 40 - 4096, 8192, 1], [3, 0, 0, 4096, 1],
         [2, 0, 0, 4096, 1], [1, 0, 0, 4096, 0], [0, 0, 0, 4096, 1], [0, 1, 65536, 4096, 1],
         [0, 1, 131072, 4096, 1], [0, 15, 2 ^ 40 - 4096, 4096, 0]] =
      [some (.refusedRange, .badOperand), some (.refusedRange, .badOperand), some (.refusedRange, .badOperand),
       some (.refusedRange, .badRange), some (.refusedRange, .badRange), some (.refusedRange, .badRange),
       some (.refusedRange, .badRange), some (.refusedRange, .badRange), some (.refusedState, .jobState),
       some (.refusedState, .jobState), some (.refusedRange, .kind), some (.duplicate, .segment),
       some (.refusedRange, .overlapRegion), some (.refusedRange, .overlapOwned), some (.done, .none)] := by
  decide +kernel

/-- Every entry of the region table bound for the job in slot 1, 16 of them at most for slot 0. -/
def fullTable (slot : Nat) : State :=
  office.setTransaction
    { office.transaction with regions := tfill 64 fun i => some (page (2 ^ 20 + 4096 * i) slot 0 .atHeader 0) }

theorem test_regionBind_finds_no_room :
    answersOf (fullTable 0) .regionBind regionBindForm [[0, 1, 0, 4096, 1], [1, 1, 0, 4096, 1]] =
      [some (.noRoom, .jobRegions), some (.noRoom, .tableFull)] := by
  decide +kernel

/-- The open side of slot 0 in region 0, which fills sheet 0. -/
def opened : OpenSide :=
  { region := 0, slot := 0, sheet := 0, kind := .simplex, mask := 1, nextBand := 1
    dots := { k := 0, c := 0, m := 0, y := 0 }, bandDots := 0, reservation := 3, lastBand := true }

theorem test_regionUnbind_clauses :
    answersOf office .regionUnbind regionIndexForm [[64], [63], [0]] =
        [some (.refusedRange, .badOperand), some (.refusedState, .notBound), some (.done, .none)] ∧
      answersOf (office.setOpenSide (some opened)) .regionUnbind regionIndexForm [[0]] =
        [some (.refusedState, .openSide)] := by
  decide +kernel

theorem test_reads_refuse_what_does_not_exist :
    answersOf office .regionRead regionIndexForm [[64], [63]] =
        [some (.refusedRange, .badOperand), some (.done, .none)] ∧
      answersOf office .jobRead jobReadForm [[32, 0], [0, 2], [31, 1]] =
        [some (.refusedRange, .badOperand), some (.refusedRange, .badOperand), some (.done, .none)] ∧
      answersOf office .accountRead accountReadForm [[2048, 0], [0, 2], [2047, 1]] =
        [some (.refusedRange, .badOperand), some (.refusedRange, .badOperand), some (.done, .none)] ∧
      answersOf office .sheetsRead sheetsReadForm [[8], [7]] =
        [some (.refusedRange, .badOperand), some (.done, .none)] ∧
      answersOf office .consumableRead consumableReadForm [[5, 0], [0, 2], [4, 1]] =
        [some (.refusedRange, .badOperand), some (.refusedRange, .badOperand), some (.done, .none)] ∧
      answersOf office .meterRead meterReadForm [[3], [2]] =
        [some (.refusedRange, .badOperand), some (.done, .none)] := by
  decide +kernel

theorem test_jobOpen_clauses :
    answersOf office .jobOpen jobOpenForm
          [[7, 5, 0, 0, 0], [0, 0, 0, 0, 0], [7, 0, 2048, 0, 0], [7, 0, 0, 8, 0], [3, 0, 0, 0, 0], [7, 0, 1, 0, 0],
           [65535, 4, 0, 7, 65535]] =
        [some (.refusedRange, .badOperand), some (.refusedRange, .badOperand), some (.refusedRange, .badOperand),
         some (.refusedRange, .tariffClass), some (.duplicate, .jobNumber), some (.refusedState, .account),
         some (.done, .none)] ∧
      answersOf (office.setJobs { slots := .replicate 32 (some (record 9 .copy .active 0 0)) }) .jobOpen jobOpenForm
          [[7, 0, 0, 0, 0]] = [some (.noRoom, .tableFull)] := by
  decide +kernel

theorem test_jobHold_clauses :
    let released := office.setJob 3 (some (record 4 .heldPrint .released 0 0))
    answersOf released .jobHold jobHoldForm [[32, 1], [1, 0], [31, 5], [0, 2], [1, 2], [2, 3], [0, 1], [3, 4]] =
        [some (.refusedRange, .badOperand), some (.refusedRange, .badOperand), some (.refusedState, .noJob),
         some (.refusedState, .noJob), some (.refusedState, .jobState), some (.refusedState, .jobState),
         some (.refusedState, .kind), some (.done, .none)] ∧
      answersOf (released.setOpenSide (some { opened with slot := 3 })) .jobHold jobHoldForm [[3, 4]] =
        [some (.refusedState, .openSide)] := by
  decide +kernel

theorem test_jobRelease_clauses :
    answersOf office .jobRelease jobReleaseForm [[1, 2, 2048], [0, 1, 0], [1, 2, 2047], [1, 2, 0]] =
      [some (.refusedRange, .badOperand), some (.refusedState, .jobState), some (.refusedState, .accountMismatch),
       some (.done, .none)] := by
  decide +kernel

theorem test_jobClose_clauses :
    answersOf (office.own 131072 64 .replyLocation) .jobClose jobCloseForm
        [[0, 1, 32], [0, 1, 2 ^ 40], [2, 3, 2 ^ 64 - 1], [0, 1, 65536], [0, 1, 131072], [0, 1, 2 ^ 40 - 64]] =
      [some (.refusedRange, .badOperand), some (.refusedRange, .badRange), some (.refusedState, .jobState),
       some (.refusedRange, .overlapRegion), some (.refusedRange, .overlapOwned), some (.done, .none)] := by
  decide +kernel

theorem test_accountSet_clauses :
    answersOf office .accountSet accountSetForm
        [[2048, 0, 0, 0], [2, 3, 0, 0], [2, 0, 2, 0], [2, 1, 1, 1000001], [0, 2, 1, 0], [3, 0, 1, 0], [3, 1, 1, 19],
         [3, 1, 1, 20], [2, 2, 1, 1000000]] =
      [some (.refusedRange, .badOperand), some (.refusedRange, .badOperand), some (.refusedRange, .badOperand),
       some (.refusedRange, .badOperand), some (.refusedState, .reserved), some (.refusedRange, .floor),
       some (.refusedRange, .floor), some (.done, .none), some (.done, .none)] := by
  decide +kernel

theorem test_accountAdjust_clauses :
    answersOf office .accountAdjust accountAdjustForm
        [[2048, 0], [2, 1], [0, 2 ^ 32 - 1001001], [0, 1999999001], [0, 2 ^ 32 - 1498], [0, 2 ^ 32 - 1497]] =
      [some (.refusedRange, .badOperand), some (.refusedState, .notInUse), some (.refusedRange, .balanceRange),
       some (.refusedRange, .balanceRange), some (.refusedRange, .floor), some (.done, .none)] := by
  decide +kernel

theorem test_accountAdjust_trial_leaves_the_balance :
    let ask := fun flags => after .accountAdjust (asking office (directive .accountAdjust accountAdjustForm [0, 9] flags))
    ((ask 2).accountAt 0).balance = 1000 ∧ ((ask 0).accountAt 0).balance = 1009 := by
  decide +kernel

theorem test_other_generation_is_stale :
    let edited := office.updateAccount 1 fun a => { a with generation := 5 }
    [DirectiveName.accountSet, .accountAdjust, .accountSuspend, .accountResume, .accountClear].map (fun n =>
        newest (after n.command (asking edited (directive n accountIndexForm [1] 1)))) =
      List.replicate 5 (some (.stale, .none)) := by
  decide +kernel

theorem test_accountSuspend_and_resume_clauses :
    answersOf office .accountSuspend accountIndexForm [[2048], [2], [1], [0]] =
        [some (.refusedRange, .badOperand), some (.refusedState, .notInUse), some (.refusedState, .accountState),
         some (.done, .none)] ∧
      answersOf office .accountResume accountIndexForm [[2048], [2], [0], [1]] =
        [some (.refusedRange, .badOperand), some (.refusedState, .notInUse), some (.refusedState, .accountState),
         some (.done, .none)] := by
  decide +kernel

theorem test_accountClear_clauses :
    let s := (office.setJob 4 (some (record 8 .copy .active 3 0))).setSheets [sheet 0 .orphan 4 .complete]
    let t := s.updateAccount 4 fun _ => account .active .prepaid 0 0
    answersOf t .accountClear accountIndexForm [[2048], [2], [0], [3], [4], [1]] =
      [some (.refusedRange, .badOperand), some (.refusedState, .notInUse), some (.refusedState, .reserved),
       some (.refusedState, .jobNames), some (.refusedState, .orphanSheet), some (.done, .none)] := by
  decide +kernel

theorem test_periodClose_raises_the_period :
    (after .periodClose (asking office (directive .periodClose [] []))).account.period = 1 := by
  decide +kernel

theorem test_setTariff_clauses :
    answersOf office .setTariff setTariffForm [[8, 0, 0, 0], [7, 2, 1, 0], [7, 2, 2, 65535]] =
      [some (.refusedRange, .tariffClass), some (.refusedRange, .colourBelowMono), some (.done, .none)] := by
  decide +kernel

/-- A link queue of eight entries. -/
def crowded (s : State) : State :=
  s.setLink { s.link with queue := List.replicate 8 { position := 0, kind := .sync } }

theorem test_checkNow_clauses :
    answersOf office .checkNow checkNowForm [[5], [4], [2], [1]] =
        [some (.refusedRange, .badOperand), some (.refusedState, .absent), some (.refusedState, .checkPending), none] ∧
      answersOf (crowded office) .checkNow checkNowForm [[0]] = [some (.busy, .none)] := by
  decide +kernel

theorem test_setLowMark_and_setSchedule_clauses :
    answersOf office .setLowMark setLowMarkForm [[5, 0], [4, 2 ^ 32 - 1]] =
        [some (.refusedRange, .badOperand), some (.done, .none)] ∧
      answersOf office .setSchedule setScheduleForm [[5, 0], [4, 65535]] =
        [some (.refusedRange, .badOperand), some (.done, .none)] := by
  decide +kernel

/-- A snapshot that composes. -/
def composing (next : SnapshotPart) : Composing :=
  { base := 2 ^ 20, serial := 1, parked := parked, accepted := 0, totals := Totals.top, next := next, written := [] }

theorem test_snapshot_clauses :
    answersOf (office.own (2 ^ 21) 64 .replyLocation) .snapshot areaForm
          [[32], [2 ^ 40 - 131200], [65536], [2 ^ 21], [2 ^ 40 - 131264]] =
        [some (.refusedRange, .badOperand), some (.refusedRange, .badRange), some (.refusedRange, .overlapRegion),
         some (.refusedRange, .overlapOwned), none] ∧
      answersOf (office.setWork (.composing (composing .header))) .snapshot areaForm [[0]] =
        [some (.busy, .meterBusy)] ∧
      answersOf (office.setMeter { office.meter with cells := { office.meter.cells with serial := 2 ^ 32 - 1 } })
          .snapshot areaForm [[0]] = [some (.refusedRange, .serialEnd)] := by
  decide +kernel

theorem test_restore_clauses :
    answersOf base .restore areaForm [[32], [2 ^ 40 - 131200], [2 ^ 40 - 131264]] =
        [some (.refusedRange, .badOperand), some (.refusedRange, .badRange), none] ∧
      answersOf base.clearPristine .restore areaForm [[0]] = [some (.refusedState, .notPristine)] ∧
      answersOf office .restore areaForm [[0]] = [some (.refusedState, .jobsOpen)] ∧
      answersOf (base.own 64 64 .replyLocation) .restore areaForm [[0]] = [some (.refusedRange, .overlapOwned)] := by
  decide +kernel

/-! ## States that meet the premises of the claims -/

/-! ### The step and transactions -/

theorem test_premises_EmptyQueueRunsTheClock :
    base.pending = [] ∧ base.dueSteps = [] ∧ (crowded office).pending = [] ∧
      (crowded office).dueSteps ≠ [] := by
  decide +kernel

/-- A transaction of zero beats of a requester. -/
def ask (requester : Nat) (direction : Direction) (address beats : Nat) : Transaction :=
  { requester := requester, direction := direction, address := address, beats := beats
    data := match direction with
      | .read => []
      | .write => List.replicate (16 * beats) 1
    tagVerifies := false }

theorem test_premises_TransactionAcrossAPageIsRefused :
    (ask 2 .read 4080 2).wellFormed = true ∧ (4080 / 4096 ≠ (4080 + 16 * 2 - 1) / 4096) ∧
      (ask 2 .read 4080 1).wellFormed = true ∧ 4080 / 4096 = (4080 + 16 * 1 - 1) / 4096 ∧
      (page 4096 0 0 .atHeader 0).base % 4096 = 0 ∧ (page 4096 0 0 .atHeader 0).length % 4096 = 0 := by
  decide +kernel

theorem test_split_is_judged_first :
    (after (.subordinateTransaction (ask 2 .read 4080 2)) (locked base)).directive.notices.map NoticeRequest.kind =
      [.access .split] := by
  decide +kernel

/-- A transaction that stays in its page passes the port. -/
theorem passes_one_page {t : Transaction} (w : t.wellFormed = true) (p : splitsPage t = false) : passesPort t := ⟨w, p⟩

theorem base_has_no_region (i : Nat) : base.region i = none := by
  by_cases h : i < 64
  · simp [State.region, tget, base, State.reset, h]
  · simp [State.region, tget, h]
    rfl

theorem base_outside (t : Transaction) : base.outside t := by
  intro i r h
  rw [base_has_no_region] at h
  exact nomatch h

theorem test_premises_OutsideRegionsAllButScanWritesAndVideoReadsPass :
    passesPort (ask 2 .write 0 1) ∧ passesPort (ask 3 .read 0 1) ∧ passesPort (ask 0 .write 0 1) ∧
      base.lockdown.mode = .normal ∧ base.outside (ask 2 .write 0 1) ∧ base.memoryCanonical ∧
      base.roleOf (ask 2 .write 0 1) = .scan ∧ base.roleOf (ask 3 .read 0 1) = .video ∧
      base.roleOf (ask 0 .write 0 1) = .control :=
  ⟨⟨rfl, rfl⟩, ⟨rfl, rfl⟩, ⟨rfl, rfl⟩, rfl, base_outside _, rfl, rfl, rfl, rfl⟩

theorem locked_base_holds_no_job : (locked base).lockdownHoldsNoJob := by
  intro _
  refine ⟨?_, ?_, ?_, rfl, rfl⟩ <;> decide +kernel

theorem test_premises_InLockdownTheRoleAloneDecides :
    passesPort (ask 1 .read 0 1) ∧ passesPort (ask 4 .read 0 1) ∧ (locked base).lockdown.mode = .lockdown ∧
      (locked base).lockdownHoldsNoJob ∧ (locked base).memoryCanonical :=
  ⟨⟨rfl, rfl⟩, ⟨rfl, rfl⟩, rfl, locked_base_holds_no_job, rfl⟩

/-- A SCAN region at 131,072 of the COPY job, beside the others. -/
def scanning : State :=
  office.setRegion 1 (some { base := 131072, length := 4096, slot := 0, segment := 1, body := .scan 0 })

/-- A region of the HELD job at 262,144. -/
def stored : State := office.setRegion 2 (some (page 262144 1 0 .atHeader 0))

/-- The records and regions of those states. -/
def copyJob : JobRecord := record 1 .copy .active 0 0
def heldJob : JobRecord := record 2 .heldPrint .held 0 0
def copyPage : Region := page 65536 0 0 .atHeader 0
def copyScan : Region := { base := 131072, length := 4096, slot := 0, segment := 1, body := .scan 0 }
def heldPage : Region := page 262144 1 0 .atHeader 0

theorem inRegion_copyPage (requester beats : Nat) (d : Direction) :
    office.inRegion (ask requester d 65536 beats) 0 copyPage copyJob := by
  refine ⟨rfl, ?_, ?_⟩
  · show office.regionOf 65536 = some (0, copyPage)
    decide +kernel
  · decide +kernel

theorem inRegion_copyScan (requester beats : Nat) (d : Direction) :
    scanning.inRegion (ask requester d 131072 beats) 1 copyScan copyJob := by
  refine ⟨rfl, ?_, ?_⟩
  · show scanning.regionOf 131072 = some (1, copyScan)
    decide +kernel
  · decide +kernel

theorem inRegion_heldPage (requester beats : Nat) (d : Direction) :
    stored.inRegion (ask requester d 262144 beats) 2 heldPage heldJob := by
  refine ⟨rfl, ?_, ?_⟩
  · show stored.regionOf 262144 = some (2, heldPage)
    decide +kernel
  · decide +kernel

theorem test_premises_ReadNotDecipheredIsRawOrRefused :
    (passesPort (ask 0 .read 65536 1) ∧ office.inRegion (ask 0 .read 65536 1) 0 copyPage copyJob ∧
        readsDeciphered .copy .active .page .control = false) ∧
      (passesPort (ask 4 .read 262144 1) ∧ stored.inRegion (ask 4 .read 262144 1) 2 heldPage heldJob ∧
        readsDeciphered .heldPrint .held .page .store = false) ∧
      (passesPort (ask 5 .read 65536 1) ∧ office.inRegion (ask 5 .read 65536 1) 0 copyPage copyJob ∧
        readsDeciphered .copy .active .page .other = false) :=
  ⟨⟨⟨rfl, rfl⟩, inRegion_copyPage .., rfl⟩, ⟨⟨rfl, rfl⟩, inRegion_heldPage .., rfl⟩,
    ⟨⟨rfl, rfl⟩, inRegion_copyPage .., rfl⟩⟩

theorem holds_copy : office.holdsKey 0 { draw := 0 } ∧ scanning.holdsKey 0 { draw := 0 } ∧ stored.holdsKey 1 { draw := 1 } := by
  refine ⟨?_, ?_, ?_⟩ <;> (unfold State.holdsKey; decide +kernel)

theorem test_premises_WriteIntoARegionFollowsTheGrantTable :
    (passesPort (ask 2 .write 131072 1) ∧ scanning.inRegion (ask 2 .write 131072 1) 1 copyScan copyJob ∧
        scanning.holdsKey 0 { draw := 0 } ∧ scanning.memoryCanonical ∧ scanning.roleOf (ask 2 .write 131072 1) = .scan) ∧
      (passesPort (ask 1 .write 65536 1) ∧ office.inRegion (ask 1 .write 65536 1) 0 copyPage copyJob ∧
        office.holdsKey 0 { draw := 0 } ∧ office.memoryCanonical ∧ office.roleOf (ask 1 .write 65536 1) = .pipeline) ∧
      (passesPort (ask 4 .write 262144 1) ∧ stored.inRegion (ask 4 .write 262144 1) 2 heldPage heldJob ∧
        stored.holdsKey 1 { draw := 1 } ∧ stored.memoryCanonical ∧ stored.roleOf (ask 4 .write 262144 1) = .store) ∧
      (passesPort (ask 5 .write 65536 1) ∧ office.inRegion (ask 5 .write 65536 1) 0 copyPage copyJob) :=
  ⟨⟨⟨rfl, rfl⟩, inRegion_copyScan .., holds_copy.2.1, rfl, rfl⟩,
    ⟨⟨rfl, rfl⟩, inRegion_copyPage .., holds_copy.1, rfl, rfl⟩,
    ⟨⟨rfl, rfl⟩, inRegion_heldPage .., holds_copy.2.2, rfl, rfl⟩, ⟨rfl, rfl⟩, inRegion_copyPage ..⟩

theorem test_premises_DecipheredReadReturnsTheDecipheredBeats :
    passesPort (ask 1 .read 131072 1) ∧ scanning.inRegion (ask 1 .read 131072 1) 1 copyScan copyJob ∧
      readsDeciphered .copy .active .scan .pipeline = true ∧ scanning.roleOf (ask 1 .read 131072 1) = .pipeline ∧
      scanning.holdsKey 0 { draw := 0 } :=
  ⟨⟨rfl, rfl⟩, inRegion_copyScan .., rfl, rfl, holds_copy.2.1⟩

theorem test_premises_OnlyTheRolesOfTheTableReadDeciphered :
    ∃ u, exec (.subordinateTransaction (ask 0 .read 65536 1)) base = .next u ∧
      ¬ ∃ i r j, base.inRegion (ask 0 .read 65536 1) i r j ∧
        readsDeciphered j.kind j.phase.state r.kind (base.roleOf (ask 0 .read 65536 1)) = true := by
  refine ⟨_, rfl, ?_⟩
  rintro ⟨i, r, j, ⟨-, h, -⟩, -⟩
  have none : base.regionOf 65536 = none := by decide +kernel
  exact nomatch none.symm.trans h

theorem test_premises_PlaintextWrittenIsReadBack :
    passesPort (ask 2 .write 131072 1) ∧ passesPort (ask 1 .read 131072 1) ∧
      scanning.inRegion (ask 2 .write 131072 1) 1 copyScan copyJob ∧
      grantWrite .active .scan .scan false = .enciphered ∧ readsDeciphered .copy .active .scan .pipeline = true ∧
      scanning.holdsKey 0 { draw := 0 } ∧ scanning.memoryCanonical :=
  ⟨⟨rfl, rfl⟩, ⟨rfl, rfl⟩, inRegion_copyScan .., rfl, rfl, holds_copy.2.1, rfl⟩

/-- A second ACTIVE COPY job in slot 3 with a PAGE region at 327,680. -/
def doubled : State :=
  (withJob scanning 3 (record 4 .copy .active 0 0)).setRegion 3 (some (page 327680 3 0 .atHeader 0))

theorem test_premises_PlaintextWrittenIsReadBack_ciphertext :
    doubled.writesEnciphered (ask 2 .write 131072 2) 1 copyScan copyJob { draw := 0 } ∧
      doubled.writesEnciphered (ask 1 .write 65536 1) 0 copyPage copyJob { draw := 0 } ∧
      doubled.writesEnciphered (ask 1 .write 327680 1) 3 (page 327680 3 0 .atHeader 0) (record 4 .copy .active 0 0)
        { draw := 3 } ∧
      ((ask 2 .write 131072 2).data.drop (16 * 1)).take 16 = ((ask 1 .write 65536 1).data.drop (16 * 0)).take 16 ∧
      copyScan.segment ≠ copyPage.segment ∧ doubled.memoryCanonical := by
  unfold State.writesEnciphered passesPort State.inRegion State.holdsKey Region.lawful
  refine ⟨⟨?_, ?_, ?_, ?_⟩, ⟨?_, ?_, ?_, ?_⟩, ⟨?_, ?_, ?_, ?_⟩, ?_, ?_, rfl⟩ <;> decide +kernel

/-- The key of the COPY job is lost. -/
def keyless : State := scanning.setCipher { scanning.cipher with keys := .replicate 32 none }

theorem keyless_fails : keyless.failsKeyCheck 0 := by
  intro key h
  have lost : (tget keyless.cipher.keys 0 : Option KeyEntry) = none := by decide +kernel
  exact nomatch lost.symm.trans h

theorem test_premises_FailedKeyCheckRefusesTheTransaction :
    (passesPort (ask 2 .write 131072 1) ∧ keyless.inRegion (ask 2 .write 131072 1) 1 copyScan copyJob ∧
        keyless.failsKeyCheck 0 ∧ grant .copy .active .scan .scan .write false = .enciphered) ∧
      (passesPort (ask 1 .read 131072 1) ∧ keyless.inRegion (ask 1 .read 131072 1) 1 copyScan copyJob ∧
        grant .copy .active .scan .pipeline .read false = .deciphered) := by
  refine ⟨⟨⟨rfl, rfl⟩, ⟨?_, ?_, ?_⟩, keyless_fails, rfl⟩, ⟨rfl, rfl⟩, ⟨?_, ?_, ?_⟩, rfl⟩ <;> decide +kernel

theorem test_premises_FailedKeyCheckRefusesTheTransaction_video :
    keyless.readsPage (ask 3 .read 65536 1) 0 copyPage copyJob .atHeader 0 ∧
      (keyless.setRegion 0 (some (page 65536 0 0 .atHeader 64))).readsPage (ask 3 .read 65600 2) 0
        (page 65536 0 0 .atHeader 64) copyJob .atHeader 64 ∧
      Framing.atHeader.lets (65600 - 65536) 2 64 ∧
      (keyless.setRegion 0 (some (page 65536 0 0 .atHeader 64))).failsKeyCheck 0 := by
  refine ⟨⟨⟨rfl, rfl⟩, rfl, rfl, ⟨rfl, ?_, rfl⟩, rfl, rfl⟩, ⟨⟨rfl, rfl⟩, rfl, rfl, ⟨rfl, ?_, rfl⟩, rfl, rfl⟩,
    ⟨rfl, by decide⟩, keyless_fails⟩ <;> decide +kernel

theorem test_key_fault_is_reported_and_enters_lockdown :
    let refused := after (.subordinateTransaction (ask 2 .write 131072 1)) keyless
    refused.cipher.reports = [0] ∧ (after .keyFaultReport refused).lockdown.cause = some .keyFault := by
  decide +kernel

/-! ### Directives -/

/-- The bytes of a directive for STATUS. -/
def statusBytes : List Byte := directiveMarker ++ leBytes 2 DirectiveName.status.code ++ List.replicate 54 0

/-- CONTROL writes them at an address. -/
def writesDirective (address : Nat) (verifies : Bool) : Transaction :=
  { requester := 0, direction := .write, address := address, beats := 4, data := statusBytes, tagVerifies := verifies }

theorem test_premises_ControlWriteIsExaminedForADirective :
    base.passesControlWrite (ask 0 .write 0 1) ∧ base.passesControlWrite (writesDirective 64 false) ∧
      base.passesControlWrite (writesDirective 64 true) ∧ (base.own 64 64 .replyLocation).overlapsOwned 64 64 = true ∧
      (writesDirective 64 true).data.take 8 = directiveMarker ∧ base.memoryCanonical :=
  ⟨⟨⟨rfl, rfl⟩, rfl, rfl, .inr (base_outside _)⟩, ⟨⟨rfl, rfl⟩, rfl, rfl, .inr (base_outside _)⟩,
    ⟨⟨rfl, rfl⟩, rfl, rfl, .inr (base_outside _)⟩, rfl, rfl, rfl⟩

theorem test_directive_goes_from_write_to_reply :
    let recognised := after (.subordinateTransaction (writesDirective 64 true)) base
    let answered := after .status (after (.directiveEntry 0) recognised)
    let done := after .replyWriteDone answered
    recognised.directive.owned.length = 1 ∧ newest answered = some (.done, .none) ∧ done.directive.owned = [] ∧
      done.directive.executing = none := by
  decide +kernel

/-- A directive of requester 3 with a code and flags. -/
def entered (code flags : Nat) : Directive :=
  { directive .status [] [] with code := code, flags := flags, requester := 3 }

/-- A state in which those are recognised after one of another requester, with some waiting. -/
def recognising (s : State) (d : Directive) (waiting : List Directive) (executing : Option Executing) : State :=
  s.setDirective
    { s.directive with
      recognised := [directive .status [] [], d], queue := waiting, executing := executing }

theorem test_premises_DirectivesAreEntered :
    (∀ x ∈ [directive .status [] []], x.requester ≠ 3) ∧ (entered 1 0).requester = 3 ∧
      (recognising office (entered 1 0) [] none).directive.recognised =
        [directive .status [] []] ++ entered 1 0 :: [] ∧
      (recognising office (entered 1 0) [] none).directive.queue = [] := by
  decide +kernel

theorem test_entry_answers_by_its_tests :
    let four := List.replicate 4 (directive .status [] [])
    let busy := some { directive := directive .status [] [], phase := ExecutionPhase.running }
    [recognising (locked base) (entered DirectiveName.note.code 0) [] none,
      recognising base (entered 0xFFFF 0) [] none, recognising base (entered DirectiveName.note.code 0) four busy,
      recognising base (entered DirectiveName.note.code 0x8000) [] none,
      recognising base (entered DirectiveName.note.code 0) [] none].map (fun s => newest (after (.directiveEntry 3) s)) =
      [some (.locked, .none), some (.unknown, .none), some (.busy, .none), some (.refusedRange, .badFlag), none] := by
  decide +kernel

/-- STATUS has been answered, its reply is to be written, and another directive waits. -/
def replying (s : State) (waiting : Directive) : State :=
  let u := after .status (asking s (directive .status [] []))
  u.setDirective { u.directive with queue := [waiting] }

theorem test_premises_DirectivesAreExecutedInOrder :
    ∃ r : Reply, (replying office (entered DirectiveName.note.code 0x8000)).directive.writes = .reply r :: [] ∧
      r.location = (directive .status [] []).location ∧
      (replying office (entered DirectiveName.note.code 0x8000)).directive.executing =
        some { directive := directive .status [] [], phase := .replying } ∧
      newest (after .replyWriteDone (replying office (entered DirectiveName.note.code 0x8000))) =
        some (.refusedRange, .badFlag) ∧
      newest (after .replyWriteDone (replying (locked base) (entered DirectiveName.note.code 0))) =
        some (.locked, .none) ∧
      newest (after .replyWriteDone (replying office (entered DirectiveName.note.code 0))) = none :=
  ⟨_, rfl, rfl, rfl, by decide +kernel, by decide +kernel, by decide +kernel⟩

/-- One reply, one summary and one notice to be written. -/
def writing (s : State) : State :=
  s.setDirective
    { s.directive with
      writes := [(directive .status [] []).replyOf (.done []) 0 0, .summary 128 (copyJob.summarise 0 .drained 0 0 9)]
      notices := [noticeOf .sheetUnexpected []] }

theorem test_premises_WritersTakeTheirOldestWork :
    (∃ r rest, (writing base).directive.writes = .reply r :: rest) ∧ (writing base).directive.queue = [] ∧
      (∃ m rest, (after .replyWriteDone (writing base)).directive.writes = .summary 128 m :: rest) ∧
      (∃ q rest, (writing base).directive.notices = q :: rest) ∧ (writing base).directive.ring = none ∧
      (ringed (writing base)).directive.ring ≠ none ∧ (writing base).memoryCanonical ∧
      (∃ r rest, (replying office (entered DirectiveName.note.code 0)).directive.writes = .reply r :: rest ∧
        (replying office (entered DirectiveName.note.code 0)).awaitsReplyAt r.location = true) ∧
      (replying office (entered DirectiveName.note.code 0)).directive.queue ≠ [] :=
  ⟨⟨_, _, rfl⟩, rfl, ⟨_, _, rfl⟩, ⟨_, _, rfl⟩, rfl, by decide +kernel, rfl, ⟨_, _, rfl, by decide +kernel⟩,
    by decide +kernel⟩

theorem test_writers_drain :
    let t := after .noticeWrite (after .summaryWriteDone (after .replyWriteDone (ringed (writing base))))
    t.directive.writes = [] ∧ t.directive.notices = [] ∧ Memory.readBytes t.memory 128 summaryMark.length = summaryMark := by
  decide +kernel

theorem test_premises_DirectivesNotDoneChangeNothing :
    (asking (locked office) (directive .setRoles [] [])).awaitsOwner .setRoles (directive .setRoles [] []) ∧
      (asking (locked office) (directive .note [] [])).awaitsOwner .note (directive .note [] []) ∧
      (asking (locked office) (directive .note [] [])).lockdown.mode = .lockdown ∧
      ∃ t, exec .note (asking office (directive .note [] [])) = .next t ∧
        t.directive.executing = some { directive := directive .note [] [], phase := .replying } :=
  ⟨⟨rfl, rfl⟩, ⟨rfl, rfl⟩, rfl, _, rfl, by decide +kernel⟩

/-! ### The band parser -/

/-- The PAGE region of the COPY job stands at a framing and a cursor; memory holds its bytes enciphered from there. -/
def inked (s : State) (f : Framing) (cursor : Nat) (plain : List Byte) : State :=
  { s.setRegion 0 (some (page 65536 0 0 f cursor)) with
    memory :=
      Memory.writeBytes [] (65536 + cursor)
        (encipherBeats { draw := 0 } 0 (cursor / 16) (plain.length / 16) plain) }

/-- What VIDEO reads there deciphers to those bytes. -/
theorem inked_plain (s : State) (f : Framing) (cursor beats : Nat) (plain : List Byte)
    (h : plain.length = 16 * beats) :
    plain =
      decipherBeats { draw := 0 } 0 (cursor / 16) beats
        ((inked s f cursor plain).stored (ask 3 .read (65536 + cursor) beats)) := by
  have count : plain.length / 16 = beats := by omega
  have read :=
    Memory.readBytes_writeBytes (m := []) (a := 65536 + cursor)
      (bs := encipherBeats { draw := 0 } 0 (cursor / 16) beats plain) rfl
  rw [length_encipherBeats] at read
  show plain = decipherBeats _ 0 (cursor / 16) beats (Memory.readBytes (Memory.writeBytes [] _ _) (65536 + cursor) (16 * beats))
  rw [count, read, decipher_encipher _ _ _ _ _ h]

/-- 32 header bytes whose check holds. -/
def header (flags kind mask plane number units : Nat) : List Byte :=
  let body := bandSync ++ [BitVec.ofNat 8 flags, BitVec.ofNat 8 kind, BitVec.ofNat 8 mask, BitVec.ofNat 8 plane] ++
    leBytes 2 number ++ leBytes 2 units ++ List.replicate 19 0
  body ++ [BitVec.ofNat 8 (256 - (body.map BitVec.toNat).sum % 256)]

/-- The open side after its first band. -/
def second : OpenSide := { opened with nextBand := 2 }

/-- The judgement of a header at offset 64 of the region. -/
def judged (bytes : List Byte) (o : Option OpenSide) : HeaderVerdict := judgeHeader (.ofBytes bytes) 4096 64 o

theorem test_header_clauses :
    [judged (List.replicate 32 0) none, judged (0x5B :: (header 1 0 1 0 0 1).tail) none,
        judged ((header 1 0 1 0 0 1).set 31 0) none, judged (header 1 0 1 4 0 1) none, judged (header 1 0 1 0 0 0) none,
        judged (header 1 0 1 0 0 4097) none, judged (header 1 3 1 0 0 1) none, judged (header 1 0 16 0 0 1) none,
        judged (header 1 0 1 0 0 126) none, judged (header 1 0 1 1 0 1) none, judged (header 1 0 1 0 1 1) none,
        judged (header 1 2 15 3 0 125) none, judged (header 0 0 0 0 1 1) none,
        judged (header 0 0 0 1 1 1) (some second),
        judged (header 0 0 0 0 2 1) (some second), judged (header 0 9 0 0 1 1) (some second),
        judged (header 0 0 0 0 65535 1) (some { opened with nextBand := 65537 })] =
      [.error .badSync, .error .badSync, .error .badCheck, .error .badField, .error .badField, .error .badField,
        .error .badField, .error .badField, .error .length, .error .plane, .error .sequence, .starts .back .y,
        .error .noSide, .error .plane, .error .sequence, .continues .k, .error .sequence] := by
  decide +kernel

/-- VIDEO reads the region at an offset, wherever it stands. -/
theorem readsPage_copy (f : Framing) (cursor offset beats : Nat) (plain : List Byte)
    (p : passesPort (ask 3 .read (65536 + offset) beats))
    (h : (inked office f cursor plain).regionOf (65536 + offset) = some (0, page 65536 0 0 f cursor)) :
    (inked office f cursor plain).readsPage (ask 3 .read (65536 + offset) beats) 0 (page 65536 0 0 f cursor) copyJob f
      cursor :=
  ⟨p, rfl, rfl, ⟨rfl, h, rfl⟩, rfl, rfl⟩

/-- Two bands of one SIMPLEX side: number 0 with SIDE_START, number 1 with SIDE_END (R77, example 5.8). -/
def twoBands : List Byte :=
  header 1 0 1 0 0 1 ++ List.replicate 32 0xFF ++ (header 2 0 0 0 1 1 ++ List.replicate 32 1)

theorem test_a_side_of_two_bands_is_read :
    let s := (office.setSheets []).updateConsumable 4 fun _ => cartridge .genuine 4 9
    let read := s.parseRead { requester := 3, index := 0, slot := 0, length := 4096, offset := 0, beats := 8 } twoBands
    read.2 = true ∧ read.1.parser.openSide = none ∧ read.1.framingOf 0 = some (.atHeader, 128) ∧
      read.1.charging.sheets.map (fun h => (h.state, h.front.dots.k)) =
        [(.complete, 32 * 12 + 32)] ∧
      (read.1.consumableAt 0).partialDots = 32 * 12 + 32 := by
  decide +kernel

theorem test_premises_FramingIsJudgedByPlaceAndByHeader :
    (inked office .broken 64 []).readsPage (ask 3 .read 65632 1) 0 (page 65536 0 0 .broken 64) copyJob .broken 64 ∧
      (inked office .atHeader 64 []).readsPage (ask 3 .read 65632 1) 0 (page 65536 0 0 .atHeader 64) copyJob .atHeader
        64 ∧
      (inked office .atHeader 64 []).readsPage (ask 3 .read 65600 1) 0 (page 65536 0 0 .atHeader 64) copyJob .atHeader
        64 ∧
      (inked office (.inPayload 32 .k) 64 []).readsPage (ask 3 .read 65632 1) 0 (page 65536 0 0 (.inPayload 32 .k) 64)
        copyJob (.inPayload 32 .k) 64 ∧
      (inked office (.inPayload 32 .k) 64 []).readsPage (ask 3 .read 65600 3) 0 (page 65536 0 0 (.inPayload 32 .k) 64)
        copyJob (.inPayload 32 .k) 64 ∧
      (inked office .broken 64 []).readsPage (ask 3 .read 65536 1) 0 (page 65536 0 0 .broken 64) copyJob .broken 64 ∧
      (inked office .broken 64 []).holdsKey 0 { draw := 0 } ∧ 64 + 32 < 64 + 16 * 3 ∧
      64 + 16 * 3 < 64 + 32 + 32 := by
  refine ⟨readsPage_copy .broken 64 96 1 [] ⟨rfl, rfl⟩ ?_, readsPage_copy .atHeader 64 96 1 [] ⟨rfl, rfl⟩ ?_,
    readsPage_copy .atHeader 64 64 1 [] ⟨rfl, rfl⟩ ?_, readsPage_copy (.inPayload 32 .k) 64 96 1 [] ⟨rfl, rfl⟩ ?_,
    readsPage_copy (.inPayload 32 .k) 64 64 3 [] ⟨rfl, rfl⟩ ?_, readsPage_copy .broken 64 0 1 [] ⟨rfl, rfl⟩ ?_,
    holds_copy.1, ?_, ?_⟩ <;> decide +kernel

theorem holdsKey_inked {s : State} {key : JobKey} (f : Framing) (cursor : Nat) (plain : List Byte)
    (h : s.holdsKey 0 key) : (inked s f cursor plain).holdsKey 0 key := h

theorem regionOf_inked (s : State) (f : Framing) (cursor a : Nat) (plain : List Byte) :
    (inked s f cursor plain).regionOf a = (inked s f cursor []).regionOf a := rfl

/-- VIDEO meets bytes at a header at a cursor. -/
theorem meetsHeader_copy (cursor beats : Nat) (plain : List Byte) (two : 2 ≤ beats) (h : plain.length = 16 * beats)
    (p : passesPort (ask 3 .read (65536 + cursor) beats))
    (region : (inked office .atHeader cursor []).regionOf (65536 + cursor) =
      some (0, page 65536 0 0 .atHeader cursor)) :
    (inked office .atHeader cursor plain).meetsHeader (ask 3 .read (65536 + cursor) beats) 0
      (page 65536 0 0 .atHeader cursor) copyJob cursor { draw := 0 } plain := by
  refine ⟨?_, ?_, two, ?_, ?_⟩
  · exact readsPage_copy .atHeader cursor cursor beats plain p ((regionOf_inked ..).trans region)
  · exact Nat.add_sub_cancel_left 65536 cursor
  · exact holdsKey_inked _ _ _ holds_copy.1
  · exact inked_plain office _ cursor beats plain h

theorem region_at_header : (inked office .atHeader 64 []).regionOf 65600 = some (0, page 65536 0 0 .atHeader 64) := by
  decide +kernel

theorem region_at_start : (inked office .atHeader 0 []).regionOf 65536 = some (0, page 65536 0 0 .atHeader 0) := by
  decide +kernel

theorem test_premises_FramingIsJudgedByPlaceAndByHeader_header :
    (inked office .atHeader 64 (List.replicate 32 0)).meetsHeader (ask 3 .read 65600 2) 0 (page 65536 0 0 .atHeader 64)
        copyJob 64 { draw := 0 } (List.replicate 32 0) ∧
      judgeHeader (.ofBytes ((List.replicate 32 0).take 32)) (page 65536 0 0 .atHeader 64).length 64
        ((inked office .atHeader 64 (List.replicate 32 0)).openSideIn 0) = .error .badSync :=
  ⟨meetsHeader_copy 64 2 _ (by decide) rfl ⟨rfl, rfl⟩ region_at_header, by decide +kernel⟩

/-- What VIDEO reads of some of the beats there deciphers to some of the bytes. -/
theorem inked_part (s : State) (f : Framing) (cursor : Nat) {k n beats : Nat} (plain : List Byte)
    (h : plain.length = 16 * beats) (part : k + n ≤ beats) (aligned : cursor % 16 = 0) :
    decipherBeats { draw := 0 } 0 ((cursor + 16 * k) / 16) n
        (Memory.readBytes (inked s f cursor plain).memory (65536 + cursor + 16 * k) (16 * n)) =
      (plain.drop (16 * k)).take (16 * n) := by
  have count : plain.length / 16 = beats := by omega
  have read :=
    Memory.readBytes_writeBytes (m := []) (a := 65536 + cursor)
      (bs := encipherBeats { draw := 0 } 0 (cursor / 16) beats plain) rfl
  rw [length_encipherBeats] at read
  have first : (cursor + 16 * k) / 16 = cursor / 16 + k := by omega
  show decipherBeats _ 0 _ n (Memory.readBytes (Memory.writeBytes [] _ _) _ _) = _
  rw [Memory.readBytes_part _ _ (l := 16 * beats) (by omega), count, read, first]
  exact decipher_encipher_part _ _ _ _ h part

/-- An open side of the COPY job's region has 32 payload bytes of its band left, before other bytes. -/
def ending (next : List Byte) : State :=
  (inked office (.inPayload 32 .k) 64 (List.replicate 32 0 ++ next)).setOpenSide (some { opened with lastBand := false })

/-- The region as it stands there. -/
def endingPage : Region := page 65536 0 0 (.inPayload 32 .k) 64

/-- The bytes of the first beats from there. -/
def firstBytes (next : List Byte) (n : Nat) : List Byte := (List.replicate 32 0 ++ next).take (16 * n)

/-- The parse of those beats. -/
def firstBeats (next : List Byte) (n : Nat) : State × Bool :=
  (ending next).parseRead (videoReadOf (ask 3 .read 65600 n) 0 endingPage) (firstBytes next n)

/-- The state after them. -/
def ended (next : List Byte) (n : Nat) : State := (firstBeats next n).1.respond 3 true (firstBytes next n)

/-- They pass and leave the region at a header where they end. -/
abbrev bandEnds (next : List Byte) (n : Nat) : Prop :=
  ((List.replicate 32 (0 : Byte) ++ next).length % 16 = 0 ∧ 16 * n ≤ (List.replicate 32 (0 : Byte) ++ next).length ∧
      0 < n) ∧
    ((ask 3 .read 65600 n).wellFormed = true ∧ splitsPage (ask 3 .read 65600 n) = false) ∧
    (ending next).regionOf 65600 = some (0, endingPage) ∧
    (placementRefusal (.inPayload 32 .k) 64 64 n = none ∧ (firstBeats next n).2 = true) ∧
    (((ended next n).region 0).map Region.body = some (.page .atHeader (64 + 16 * n)) ∧
      (ended next n).lockdown.mode = .normal ∧
      (ended next n).regionOf (65600 + 16 * n) = some (0, page 65536 0 0 .atHeader (64 + 16 * n)) ∧
      (ended next n).jobAt 0 = some copyJob)

/-- The offset of those reads in the region. -/
theorem offset_ending (n : Nat) : (ask 3 .read 65600 n).address - endingPage.base = 64 := by
  show 65600 - 65536 = 64
  norm_num

theorem readsPage_ending {next : List Byte} (beats : Nat) (h : (ending next).regionOf 65600 = some (0, endingPage))
    (p : passesPort (ask 3 .read 65600 beats)) :
    (ending next).readsPage (ask 3 .read 65600 beats) 0 endingPage copyJob (.inPayload 32 .k) 64 :=
  ⟨p, rfl, rfl, ⟨rfl, h, rfl⟩, rfl, rfl⟩

theorem holdsKey_ending (next : List Byte) : (ending next).holdsKey endingPage.slot { draw := 0 } := holds_copy.1

/-- Beats from the cursor of that region on decipher to the bytes they were enciphered from. -/
theorem plain_ending {next : List Byte} {beats k n : Nat}
    (h : (List.replicate 32 (0 : Byte) ++ next).length = 16 * beats) (part : k + n ≤ beats) :
    decipherBeats { draw := 0 } 0 ((64 + 16 * k) / 16) n
        (Memory.readBytes (ending next).memory (65536 + 64 + 16 * k) (16 * n)) =
      ((List.replicate 32 0 ++ next).drop (16 * k)).take (16 * n) :=
  inked_part office (.inPayload 32 .k) 64 (List.replicate 32 0 ++ next) h part rfl

theorem exec_ending {next : List Byte} {n : Nat} (h : bandEnds next n) :
    exec (.subordinateTransaction (ask 3 .read 65600 n)) (ending next) = .next (ended next n) := by
  obtain ⟨⟨whole, covers, -⟩, port, region, ⟨placed, passes⟩, -⟩ := h
  have key := holdsKey_ending next
  have stays : (ending next).restartFraming (videoReadOf (ask 3 .read 65600 n) 0 endingPage) = ending next :=
    restartFraming_of_offset (by
      show (ask 3 .read 65600 n).address - endingPage.base ≠ 0
      rw [offset_ending]
      decide)
  have bytes : (ending next).plainBytes (ask 3 .read 65600 n) endingPage { draw := 0 } = firstBytes next n := by
    have plain := plain_ending (beats := (List.replicate 32 (0 : Byte) ++ next).length / 16) (k := 0) (n := n)
      (next := next) (by omega) (by omega)
    simp only [Nat.mul_zero, Nat.add_zero, List.drop_zero] at plain
    unfold State.plainBytes Region.beatOffset
    rw [offset_ending]
    exact plain
  rw [← stays] at key
  rw [exec_readsPage (readsPage_ending n region port), videoRead_eq_parseVideo (by rw [offset_ending]; exact placed),
    parseVideo_of_holdsKey key]
  simp only [stays, bytes]
  unfold firstBeats at passes
  rw [passes]
  rfl

theorem partOf_ask (beats n : Nat) : partOf (ask 3 .read 65600 beats) 0 n = ask 3 .read 65600 n := rfl

theorem passesTo_ending {next : List Byte} {n : Nat} (h : bandEnds next n) (beats : Nat) (more : n < beats)
    (p : passesPort (ask 3 .read 65600 beats)) :
    (ending next).passesTo (ended next n) (ask 3 .read 65600 beats) 0 endingPage copyJob { draw := 0 } n := by
  refine ⟨h.1.2.2, more, ⟨_, _, readsPage_ending beats h.2.2.1 p⟩, holdsKey_ending next, ?_, ⟨_, respond_response ..⟩,
    ?_, page 65536 0 0 .atHeader (64 + 16 * n), copyJob, h.2.2.2.2.2.1, h.2.2.2.2.2.2.1, h.2.2.2.2.2.2.2⟩
  · rw [partOf_ask]
    exact exec_ending h
  · rw [offset_ending]
    exact h.2.2.2.2.1

/-- The header of the side's next band. -/
def nextHeader : List Byte := header 0 0 0 0 1 1

/-- Bytes that are no header. -/
def noHeader : List Byte := List.replicate 32 0

theorem bandEnds_nextHeader : bandEnds nextHeader 2 := by decide +kernel

theorem bandEnds_noHeader : bandEnds noHeader 2 := by decide +kernel

/-- A whole band follows. -/
theorem bandEnds_nextBand : bandEnds (nextHeader ++ List.replicate 32 0) 6 := by decide +kernel

theorem test_premises_FramingIsJudgedByPlaceAndByHeader_split :
    (ending (nextHeader ++ List.replicate 32 0)).passesTo (ended (nextHeader ++ List.replicate 32 0) 6)
        (ask 3 .read 65600 7) 0 endingPage copyJob { draw := 0 } 6 ∧ 32 ≠ 16 * 6 :=
  ⟨passesTo_ending bandEnds_nextBand 7 (by decide) ⟨rfl, rfl⟩, by decide⟩

theorem test_premises_FramingIsJudgedByPlaceAndByHeader_continues :
    (ending nextHeader).passesTo (ended nextHeader 2) (ask 3 .read 65600 4) 0 endingPage copyJob { draw := 0 } 2 ∧
      decipherBeats { draw := 0 } 0 ((64 + 16 * 2) / 16) 2
          (Memory.readBytes (ending nextHeader).memory (65536 + 64 + 16 * 2) (16 * 2)) = nextHeader ∧
      judgeHeader (.ofBytes nextHeader) 4096 96 ((ended nextHeader 2).openSideIn 0) = .continues .k :=
  ⟨passesTo_ending bandEnds_nextHeader 4 (by decide) ⟨rfl, rfl⟩,
    plain_ending (beats := 4) (k := 2) (n := 2) rfl (by decide), by decide +kernel⟩

theorem test_premises_FramingIsJudgedByPlaceAndByHeader_refused :
    (ending noHeader).passesTo (ended noHeader 2) (ask 3 .read 65600 4) 0 endingPage copyJob { draw := 0 } 2 ∧
      decipherBeats { draw := 0 } 0 ((64 + 16 * 2) / 16) 2
          (Memory.readBytes (ending noHeader).memory (65536 + 64 + 16 * 2) (16 * 2)) = noHeader ∧
      judgeHeader (.ofBytes noHeader) 4096 96 ((ended noHeader 2).openSideIn 0) = .error .badSync :=
  ⟨passesTo_ending bandEnds_noHeader 4 (by decide) ⟨rfl, rfl⟩,
    plain_ending (beats := 4) (k := 2) (n := 2) rfl (by decide), by decide +kernel⟩

/-- The premises hold beside an open side as well: it is no part of them. -/
theorem readsPage_opened {s : State} {t : Transaction} {i : Nat} {r : Region} {j : JobRecord} {f : Framing}
    {cursor : Nat} (o : OpenSide) (h : s.readsPage t i r j f cursor) :
    (s.setOpenSide (some o)).readsPage t i r j f cursor := h

theorem meetsHeader_opened {s : State} {t : Transaction} {i : Nat} {r : Region} {j : JobRecord} {cursor : Nat}
    {key : JobKey} {plain : List Byte} (o : OpenSide) (h : s.meetsHeader t i r j cursor key plain) :
    (s.setOpenSide (some o)).meetsHeader t i r j cursor key plain := h

theorem test_premises_RestartAndSideStartAbandonTheOpenSide :
    (inked office .broken 64 []).readsPage (ask 3 .read 65536 1) 0 (page 65536 0 0 .broken 64) copyJob .broken 64 ∧
      ((inked office .atHeader 64 (header 1 0 1 0 0 1)).setOpenSide (some opened)).meetsHeader (ask 3 .read 65600 2) 0
        (page 65536 0 0 .atHeader 64) copyJob 64 { draw := 0 } (header 1 0 1 0 0 1) ∧
      ((inked office .atHeader 0 (header 1 0 1 0 0 1)).setOpenSide (some { opened with region := 1 })).meetsHeader
        (ask 3 .read 65536 2) 0 (page 65536 0 0 .atHeader 0) copyJob 0 { draw := 0 } (header 1 0 1 0 0 1) ∧
      judged ((header 1 0 1 0 0 1).take 32) (some opened) = .starts .simplex .k ∧
      judged ((header 1 0 1 0 0 1).take 32) none = .starts .simplex .k ∧
      judgeHeader (.ofBytes ((header 1 0 1 0 0 1).take 32)) 4096 0 none = .starts .simplex .k := by
  refine ⟨readsPage_copy .broken 64 0 1 [] ⟨rfl, rfl⟩ ?_,
    meetsHeader_opened opened (meetsHeader_copy 64 2 _ (by decide) rfl ⟨rfl, rfl⟩ region_at_header),
    meetsHeader_opened _ (meetsHeader_copy 0 2 _ (by decide) rfl ⟨rfl, rfl⟩ region_at_start), ?_, ?_, ?_⟩ <;>
  decide +kernel

theorem test_premises_SideStartsWhereEveryCheckPasses :
    (inked office .atHeader 64 (header 1 0 1 0 0 1)).meetsHeader (ask 3 .read 65600 2) 0 (page 65536 0 0 .atHeader 64)
        copyJob 64 { draw := 0 } (header 1 0 1 0 0 1) ∧
      (ask 3 .read 65600 2).beats = 2 ∧ (inked office .atHeader 64 (header 1 0 1 0 0 1)).parser.openSide = none ∧
      judged (header 1 0 1 0 0 1) none = .starts .simplex .k :=
  ⟨meetsHeader_copy 64 2 _ (by decide) rfl ⟨rfl, rfl⟩ region_at_header, rfl, rfl, by decide +kernel⟩

/-- What refuses a side of a job, kind and mask at the office. -/
def sideAnswer (s : State) (j : JobRecord) (kind : SideKind) (mask : PlaneMask) : Option SideReason :=
  s.sideRefusal 0 j kind mask

theorem test_side_checks :
    let supplied := office.updateConsumable 4 fun _ => cartridge .genuine 4 9
    let mono := supplied.updateAccount 0 fun a => { a with colour := false }
    let dear := supplied.setCharging { supplied.charging with tariffs := .replicate 8 ⟨1498, 1498, 0⟩ }
    let full := supplied.setSheets (List.replicate 8 (sheet 0 .orphan 0 .complete))
    [sideAnswer supplied { copyJob with phase := .held } .simplex 1,
      sideAnswer supplied { copyJob with limit := 2, mono := 1, colour := 1 } .simplex 1,
      sideAnswer supplied { copyJob with account := 1 } .simplex 1, sideAnswer mono copyJob .simplex 3,
      sideAnswer dear copyJob .simplex 1, sideAnswer office copyJob .simplex 1, sideAnswer supplied copyJob .simplex 3,
      sideAnswer full copyJob .simplex 1, sideAnswer supplied copyJob .back 1, sideAnswer supplied copyJob .front 1] =
      [some .jobState, some .limit, some .account, some .colourDenied, some .funds, some .consumable,
        some .consumable, some .sheetQueue, some .sheetQueue, none] := by
  decide +kernel

theorem test_premises_PayloadIsCountedAndEndsBandAndSide :
    ((inked office (.inPayload 64 .k) 64 []).setOpenSide (some opened)).readsPage (ask 3 .read 65600 2) 0
        (page 65536 0 0 (.inPayload 64 .k) 64) copyJob (.inPayload 64 .k) 64 ∧
      ((inked office (.inPayload 32 .k) 64 []).setOpenSide (some opened)).readsPage (ask 3 .read 65600 2) 0
        (page 65536 0 0 (.inPayload 32 .k) 64) copyJob (.inPayload 32 .k) 64 ∧
      65600 - 65536 = 64 ∧ 16 * 2 ≤ 32 ∧ office.holdsKey 0 { draw := 0 } ∧ opened.region = 0 ∧ opened.lastBand = true :=
  ⟨readsPage_opened opened (readsPage_copy (.inPayload 64 .k) 64 64 2 [] ⟨rfl, rfl⟩ (by rfl)),
    readsPage_opened opened (readsPage_copy (.inPayload 32 .k) 64 64 2 [] ⟨rfl, rfl⟩ (by rfl)), rfl, by decide,
    holds_copy.1, rfl, rfl⟩

/-- A side of the COPY job is open in its region and fills the sheet after the one that waits. -/
def printing : State :=
  let sided := ((office.setSheets (office.charging.sheets ++ [sheet 1 (.job 0) 0 .fillingFront])).setOpenSide
    (some { opened with sheet := 1 })).setJob 0 (some { copyJob with inQueue := 1 })
  (sided.updateAccount 0 fun a => { a with reserved := 6 }).setRegion 0 (some (page 65536 0 0 (.inPayload 32 .k) 64))

theorem test_premises_OpenSideIsAbandoned :
    printing.parser.openSide = some { opened with sheet := 1 } ∧
      printing.sheetNamed 1 = some (sheet 1 (.job 0) 0 .fillingFront) ∧
      printing.jobAt 0 = some { copyJob with inQueue := 1 } ∧
      printing.region 0 = some (page 65536 0 0 (.inPayload 32 .k) 64) ∧
      (printing.abandon .jam).region 0 = some (page 65536 0 0 .broken 64) ∧
      (printing.abandon .restart).region 0 = some (page 65536 0 0 .atHeader 0) ∧
      ((printing.abandon .jam).accountAt 0).reserved = 3 := by
  decide +kernel

/-- The job of that side is CLOSING, and this is its last side in the queue. -/
def draining : State :=
  printing.setJob 0
    (some (record 1 .copy (.closing { summary := some 8192, deadline := 9, parked := parked }) 0 1))

theorem test_premises_OpenSideIsAbandoned_closing :
    draining.parser.openSide = some { opened with sheet := 1 } ∧
      draining.sheetNamed 1 = some (sheet 1 (.job 0) 0 .fillingFront) ∧
      draining.region 0 = some (page 65536 0 0 (.inPayload 32 .k) 64) ∧
      (draining.abandon .jam).jobAt 0 = none ∧ (draining.abandon .jam).directive.writes.length = 2 ∧
      ((draining.abandon .closeTimeout).jobAt 0).map JobRecord.inQueue = some 0 := by
  decide +kernel

theorem test_premises_YieldIsDrawnAndSettled :
    (office.consumableAt 4).chip = none ∧ (∃ c, (office.consumableAt 0).chip = some c ∧ c.remaining = 70) ∧
      (∃ r : Consumable, (office.updateConsumable 0 fun r => { r with syncCapture := some 0 }).consumableAt 0 = r ∧
        r.syncCapture = some 0 ∧ r.chip.isSome = true) ∧
      ((office.drawUnit 0).consumableAt 0).chip.map Chip.remaining = some 69 :=
  ⟨by decide +kernel, ⟨_, rfl, rfl⟩, ⟨_, rfl, by decide +kernel, by decide +kernel⟩, by decide +kernel⟩

theorem test_dot_levels_draw_units_and_a_failed_sync_takes_the_record_out :
    let handed := office.handDots .k 131073
    (handed.consumableAt 0).partialDots = 1 ∧ (handed.consumableAt 0).unsynced = 2 ∧
      ((office.syncFailed 0).consumableAt 0).state = .linkFault ∧
      ((office.syncFailed 1).consumableAt 1).state = .rejected := by
  decide +kernel

/-- The record of position 0 falls to EXHAUSTED beside a full link queue. -/
def starved : State := (crowded (office.updateConsumable 0 fun _ => cartridge .genuine 0 1)).drawUnit 0

theorem test_a_refused_sync_is_asked_for_again_at_the_next_unit_drawn :
    let freed := starved.setLink { starved.link with queue := [] }
    (starved.consumableAt 0).state = .exhausted ∧ (starved.consumableAt 0).syncRefused = true ∧
      (freed.drawUnit 0).link.queue = [{ position := 0, kind := .sync }] ∧
      ((freed.drawUnit 0).consumableAt 0).syncRefused = false ∧
      (((freed.drawUnit 0).setLink { freed.link with queue := [] }).drawUnit 0).link.queue = [] := by
  decide +kernel

/-! ### The engine lines -/

/-- A sheet with both sides in the queue, in a state, with its back side open or not. -/
def backed (state : SheetState) : Sheet :=
  { sheet 0 (.job 2) 0 state with back := some (side .back 2 (state == .complete)) }

/-- The oldest sheet of the queue replaced, with the open side that fills it, if one does. -/
def queued (h : Sheet) (o : Option OpenSide) : State := (office.setSheets [h]).setOpenSide o

theorem test_premises_EngineSheetCommitsTheOldestSheet :
    (queued (backed .complete) none).charging.sheets = [backed .complete] ∧ (backed .complete).account < 2048 ∧
      office.charging.sheets = [sheet 0 (.job 2) 0 .awaitingBack] ∧
      ((queued (backed .fillingBack) (some { opened with kind := .back, slot := 2 })).abandon
          .earlySheet).charging.sheets = [sheet 0 (.job 2) 0 .awaitingBack] ∧
      (queued (sheet 0 (.job 0) 0 .fillingFront) (some opened)).charging.sheets =
        [sheet 0 (.job 0) 0 .fillingFront] ∧
      base.charging.sheets = [] := by
  decide +kernel

theorem test_engine_sheet_charges_the_account_and_ends_a_closing_job :
    let t := after .engSheet office
    (t.accountAt 0).balance = 997 ∧ (t.accountAt 0).reserved = 0 ∧ t.charging.sheets = [] ∧ t.jobAt 2 = none ∧
      t.meter.working.sheets = 1 ∧ t.meter.working.mono = 1 ∧ t.directive.writes.length = 1 := by
  decide +kernel

theorem test_premises_EngineJamDropsEverySheet :
    office.parser.openSide = none ∧ (∃ o, printing.parser.openSide = some o) ∧
      (after .engJam office).charging.sheets = [] ∧ (after .engJam office).jobAt 2 = none ∧
      ((after .engJam office).accountAt 0).lifeJammed = 1 ∧ (after .engJam printing).parser.openSide = none :=
  ⟨rfl, ⟨_, rfl⟩, by decide +kernel, by decide +kernel, by decide +kernel, by decide +kernel⟩

/-- The last scan write came from the COPY job, and a scan costs more than its account can pay. -/
def scanned (cost : Nat) : State :=
  let written := scanning.setTransaction { scanning.transaction with lastScanWrite := some 0 }
  written.setCharging { written.charging with tariffs := .replicate 8 { mono := 0, colour := 0, scan := cost } }

theorem test_premises_ScanPageIsChargedToItsJob :
    office.transaction.lastScanWrite = none ∧ (scanned 9).transaction.lastScanWrite = some 0 ∧
      (scanned 9).jobAt 0 = some copyJob ∧ copyJob.account < 2048 ∧
      ((after .scnPage (scanned 9)).accountAt 0).balance = 991 ∧
      ((after .scnPage (scanned 1497)).jobAt 0).map JobRecord.scanStop = some false ∧
      ((after .scnPage (scanned 1498)).jobAt 0).map JobRecord.scanStop = some true ∧
      (after .scnPage office).meter.working.scans = 1 := by
  decide +kernel

/-! ### Directives that are taken -/

/-- The owner may take a directive at a state in which it has been asked. -/
abbrev isAsked (s : State) (n : DirectiveName) (widths values : List Nat) : Prop :=
  (asking s (directive n widths values)).awaitsOwner n (directive n widths values)

/-- The same in NORMAL mode. -/
abbrev isTaken (s : State) (n : DirectiveName) (widths values : List Nat) : Prop :=
  (asking s (directive n widths values)).takes n (directive n widths values)

theorem test_premises_ReadingDirectivesAnswerAndChangeNothing :
    isAsked (locked office) .status [] [] ∧
      isTaken office .regionRead regionIndexForm [63] ∧
      (directive .regionRead regionIndexForm [63]).arg regionIndexForm 0 ≤ 63 ∧
      isTaken office .jobRead jobReadForm [31, 1] ∧
      (directive .jobRead jobReadForm [31, 1]).arg jobReadForm 0 ≤ 31 ∧
      (directive .jobRead jobReadForm [31, 1]).arg jobReadForm 1 ≤ 1 ∧
      isTaken office .accountRead accountReadForm [2047, 1] ∧
      (directive .accountRead accountReadForm [2047, 1]).arg accountReadForm 0 ≤ 2047 ∧
      (directive .accountRead accountReadForm [2047, 1]).arg accountReadForm 1 ≤ 1 ∧
      isTaken office .sheetsRead sheetsReadForm [7] ∧
      (directive .sheetsRead sheetsReadForm [7]).arg sheetsReadForm 0 ≤ 7 ∧
      isTaken office .consumableRead consumableReadForm [4, 1] ∧
      (directive .consumableRead consumableReadForm [4, 1]).arg consumableReadForm 0 ≤ 4 ∧
      (directive .consumableRead consumableReadForm [4, 1]).arg consumableReadForm 1 ≤ 1 ∧
      isTaken office .meterRead meterReadForm [2] ∧
      (directive .meterRead meterReadForm [2]).arg meterReadForm 0 ≤ 2 :=
  ⟨⟨rfl, rfl⟩, ⟨⟨rfl, rfl⟩, rfl⟩, by decide +kernel, ⟨⟨rfl, rfl⟩, rfl⟩, by decide +kernel, by decide +kernel, ⟨⟨rfl,
    rfl⟩, rfl⟩, by decide +kernel, by decide +kernel, ⟨⟨rfl, rfl⟩, rfl⟩, by decide +kernel, ⟨⟨rfl, rfl⟩, rfl⟩, by
    decide +kernel, by decide +kernel, ⟨⟨rfl, rfl⟩, rfl⟩, by decide +kernel⟩

theorem test_premises_NoticeRingIsSetAndNotedIn :
    isTaken (ringed office) .note noteForm [1] ∧
      (asking (ringed office) (directive .note noteForm [1])).directive.ring ≠ none ∧
      (asking (ringed office) (directive .note noteForm [1])).directive.notices = [] ∧
      (ringed office).memoryCanonical ∧
      isTaken office .note noteForm [1] ∧
      (asking office (directive .note noteForm [1])).directive.ring = none ∧
      isTaken office .setNoticeRing setNoticeRingForm [0, 16] :=
  ⟨⟨⟨rfl, rfl⟩, rfl⟩, by decide +kernel, rfl, rfl, ⟨⟨rfl, rfl⟩, rfl⟩, rfl, ⟨⟨rfl, rfl⟩, rfl⟩⟩

theorem test_premises_AttentionIsMaskedAndCleared :
    isTaken office .setAttentionMask setAttentionMaskForm [511] ∧
      isTaken office .clearAttention [] [] :=
  ⟨⟨⟨rfl, rfl⟩, rfl⟩, ⟨⟨rfl, rfl⟩, rfl⟩⟩

theorem test_premises_RolesAreSet :
    isTaken base .setRoles roleForm (0 :: List.replicate 15 5) ∧
      (directive .setRoles roleForm (0 :: List.replicate 15 5)).operands.length = 32 :=
  ⟨⟨⟨rfl, rfl⟩, rfl⟩, by decide +kernel⟩

theorem test_premises_RegionIsBoundAndUnbound :
    isTaken office .regionBind regionBindForm [0, 1, 0, 4096, 1] ∧
      isTaken office .regionUnbind regionIndexForm [0] :=
  ⟨⟨⟨rfl, rfl⟩, rfl⟩, ⟨⟨rfl, rfl⟩, rfl⟩⟩

/-- The COPY job's key fault has been reported. -/
def reported (s : State) : State := s.setCipher { s.cipher with reports := [0] }

theorem test_premises_EveryCauseEntersLockdown :
    isTaken office .lockdown [] [] ∧
      office.lockdown.tamperHigh = true ∧
      office.lockdown.mode = .normal ∧
      (locked office).lockdown.tamperHigh = true ∧
      (locked office).lockdown.mode = .lockdown ∧
      (reported office).cipher.reports = 0 :: [] ∧
      (reported office).lockdown.mode = .normal ∧
      (reported (locked office)).cipher.reports = 0 :: [] ∧
      (reported (locked office)).lockdown.mode = .lockdown ∧
      (office.setTamper false).lockdown.tamperHigh = false ∧
      office.cipher.reports = [] :=
  ⟨⟨⟨rfl, rfl⟩, rfl⟩, rfl, rfl, rfl, rfl, rfl, rfl, rfl, rfl, rfl, rfl⟩

theorem test_premises_RecoverReturnsToNormal :
    isAsked office .recover [] [] ∧
      isAsked ((locked office).setTamper false) .recover [] [] ∧
      isAsked (locked office) .recover [] [] :=
  ⟨⟨rfl, rfl⟩, ⟨rfl, rfl⟩, ⟨rfl, rfl⟩⟩

theorem test_premises_JobIsOpened :
    isAsked office .jobOpen jobOpenForm [7, 0, 0, 0, 0] :=
  ⟨rfl, rfl⟩

theorem test_premises_JobIsHeldAndReleased :
    isAsked office .jobHold jobHoldForm [1, 2] ∧
      isAsked office .jobRelease jobReleaseForm [1, 2, 0] :=
  ⟨⟨rfl, rfl⟩, ⟨rfl, rfl⟩⟩

theorem test_premises_JobCloseIsAccepted :
    isAsked office .jobClose jobCloseForm [0, 1, 64] :=
  ⟨rfl, rfl⟩

/-- The time counter stands at a time. -/
def atTime (s : State) (t : Nat) : State := s.setDirective { s.directive with time := t }

/-- The fields of the CLOSING job. -/
def closing : Closing := { summary := none, deadline := 30000000, parked := parked }

theorem test_premises_CloseTimesOutAtItsDeadline :
    (atTime office 30000000).jobAt 2 = some (record 3 .print (.closing closing) 0 1) ∧ closing.deadline ≤ (atTime
      office 30000000).now ∧ (atTime office 30000000).parser.openSide = none ∧ (atTime office 29999999).now <
      closing.deadline ∧ ((atTime office 30000000).setOpenSide (some { opened with slot := 2 })).parser.openSide =
        some { opened with slot := 2 } :=
  by
  decide +kernel

theorem test_access_notice_carries_the_moment_of_refusal :
    (after (.subordinateTransaction (ask 2 .read 4080 2)) (atTime base 9)).directive.notices.map NoticeRequest.stamp =
      [some 9] := by
  decide +kernel

theorem test_close_deadline :
    let t := after (.closeDeadline 2) (atTime office 30000000)
    t.jobAt 2 = none ∧ t.charging.sheets.map Sheet.owner = [.orphan] ∧ t.directive.writes.length = 1 ∧
      (after (.closeDeadline 2) (atTime office 29999999)).directive.writes = [] := by
  decide +kernel

theorem test_premises_AccountIsSet :
    isTaken office .accountSet accountSetForm [0, 1, 1, 500] ∧
      (directive .accountSet accountSetForm [0, 1, 1, 500]).arg accountSetForm 0 ≤ 2047 :=
  ⟨⟨⟨rfl, rfl⟩, rfl⟩, by decide +kernel⟩

theorem test_premises_AccountIsAdjusted :
    isTaken office .accountAdjust accountAdjustForm [0, 5] ∧
      (directive .accountAdjust accountAdjustForm [0, 5]).arg accountAdjustForm 0 ≤ 2047 :=
  ⟨⟨⟨rfl, rfl⟩, rfl⟩, by decide +kernel⟩

theorem test_premises_AccountIsSuspendedResumedAndCleared :
    isAsked office .accountSuspend accountIndexForm [0] ∧
      isAsked office .accountResume accountIndexForm [1] ∧
      isAsked office .accountClear accountIndexForm [1] :=
  ⟨⟨rfl, rfl⟩, ⟨rfl, rfl⟩, ⟨rfl, rfl⟩⟩

theorem test_premises_PeriodIsClosed :
    isTaken office .periodClose [] [] :=
  ⟨⟨rfl, rfl⟩, rfl⟩

theorem test_premises_TariffIsSet :
    isAsked office .setTariff setTariffForm [7, 2, 2, 9] :=
  ⟨rfl, rfl⟩

theorem test_premises_CheckIsRequested :
    isAsked office .checkNow checkNowForm [1] :=
  ⟨rfl, rfl⟩

theorem test_premises_LowMarkAndScheduleAreSet :
    isAsked office .setLowMark setLowMarkForm [4, 9] ∧
      isAsked office .setSchedule setScheduleForm [4, 9] :=
  ⟨⟨rfl, rfl⟩, ⟨rfl, rfl⟩⟩

theorem test_premises_SnapshotAndRestoreAreAccepted :
    isAsked office .snapshot areaForm [0] ∧
      isAsked office .restore areaForm [0] :=
  ⟨⟨rfl, rfl⟩, ⟨rfl, rfl⟩⟩

/-! ### Consumables and the cartridge bus -/

/-- The presence line of a position has changed at time 0. -/
def changed (s : State) (p : Nat) (level : Bool) : State :=
  s.setConsumables
    { s.consumable with
      presence := tset s.consumable.presence p { level := level, settled := !level, since := 0 } }

theorem test_premises_PresenceIsTakenWhenSettled :
    (atTime (changed office 4 true) 50000).settles 4 true ∧ (atTime (changed office 2 false) 50000).settles 2 false ∧
      ¬(atTime (changed office 4 true) 49999).settles 4 true ∧ ¬office.settles 4 false := by
  refine ⟨⟨?_, ?_, ?_, ?_⟩, ⟨?_, ?_, ?_, ?_⟩, ?_, ?_⟩
  case refine_9 => exact fun h => absurd h.2.2.2 (by decide +kernel)
  case refine_10 => exact fun h => absurd h.2.2.1 (by decide +kernel)
  all_goals decide +kernel

theorem test_presence_rises_and_falls :
    let risen := after (.presenceRise 4) (atTime (changed office 4 true) 50000)
    let fallen := after (.presenceFall 2) (atTime (changed office 2 false) 50000)
    (risen.consumableAt 4).state = .authenticating ∧ risen.link.queue = [{ position := 4, kind := .authenticate }] ∧
      (fallen.consumableAt 2).state = .absent ∧ fallen.directive.writes.length = 1 := by
  decide +kernel

theorem test_presence_line_change_starts_the_time :
    tget (after (.presenceLineChange 4 true) (atTime office 9)).consumable.presence 4 =
      { level := true, settled := false, since := 9 } := by
  decide +kernel

/-- A recheck of position 0 is due, and a SYNC of position 1 would be if it were GENUINE. -/
def due : State := (atTime office 1000000).updateConsumable 0 fun r => { r with recheckDue := some 1 }

theorem test_premises_EpochBoundaryRunsTheSchedule :
    due.consumable.lastEpoch < due.now / 1000000 ∧ due.link.queue.length ≤ 3 ∧
      8 ≤ (crowded due).link.queue.length ∧ office.now / 1000000 ≤ office.consumable.lastEpoch := by
  decide +kernel

theorem test_epoch_boundary_requests_a_recheck :
    (after .epochBoundary due).link.queue = [{ position := 0, kind := .recheck }] ∧
      ((after .epochBoundary due).consumableAt 0).recheckDue = some 3601 ∧
      ((after .epochBoundary (crowded due)).consumableAt 0).recheckDue = some 1 := by
  decide +kernel

/-- What IDENTIFY gives of a chip. -/
def chipIdentity : Identity := { serial := 9, modelCode := 9, storedYield := 5 }

theorem test_premises_AuthenticationIsJudged :
    ∃ r : Consumable, office.consumableAt 1 = r ∧ r.judge 1 chipIdentity true = .passed ∧
      CheckResult.passed ≠ .removed ∧ some chipIdentity ≠ none ∧ CheckResult.linkFailed ≠ .removed ∧
      (CheckResult.linkFailed = .passed → (none : Option Identity) ≠ none) ∧
      ((office.authenticateEnd 1 .passed (some chipIdentity)).consumableAt 1).state = .genuine ∧
      ((office.recheckEnd 0 .badResponse (some chipIdentity)).consumableAt 0).state = .rejected :=
  ⟨_, rfl, by decide +kernel, by decide, by decide, by decide, by decide, by decide +kernel, by decide +kernel⟩

theorem test_link_failed_answers_the_parked_check :
    let t := office.authenticateEnd 2 .linkFailed none
    (t.consumableAt 2).state = .linkFault ∧ (t.consumableAt 2).parkedCheck = none ∧ t.directive.writes.length = 1 := by
  decide +kernel

/-- An entry waits on an IDLE line, or on a QUIET one. -/
def waiting (kind : LinkKind) (quietSince : Option Nat) : State :=
  (atTime office 20000).setLink { queue := [{ position := 0, kind := kind }], running := none, quietSince := quietSince }

/-- The entry runs in a phase. -/
def running (kind : LinkKind) (second again : Bool) (phase : LinePhase) : State :=
  (waiting kind none).setLink
    { (waiting kind none).link with
      running :=
        some
          { Running.fresh (some 0) with
            secondExchange := second, secondAttempt := again, phase := phase, chipYield := some 70
            identity := some { serial := 9, modelCode := 0, storedYield := 70 } } }

theorem test_premises_OldestLinkEntryBeginsWithARequestFrame :
    (waiting .sync none).link.queue = { position := 0, kind := .sync } :: [] ∧
      (waiting .sync none).link.running = none ∧ (waiting .sync none).link.quietSince = none ∧
      (waiting .sync (some 0)).link.quietSince ≠ none ∧
      ∃ r frame, (after .linkEntryStart (waiting .sync none)).link.running = some r ∧ r.phase = .sending frame :=
  ⟨rfl, rfl, rfl, by decide +kernel, _, _, rfl, rfl⟩

theorem test_request_frame_is_sent :
    (after .requestFrameSent (after .linkEntryStart (waiting .sync none))).link.running.map Running.phase =
      some (.awaitingReply 20000) := by
  decide +kernel

/-- The running entry waits for a reply, or has received the first bytes of one. -/
def hearing (kind : LinkKind) (second again : Bool) (got : List LinkByte) : State :=
  running kind second again (if got = [] then .awaitingReply 0 else .receiving (got.map LinkByte.value) 0)

theorem received_hearing (kind : LinkKind) (second again : Bool) (got : List LinkByte) :
    ∃ r, (hearing kind second again got).runs { position := 0, kind := kind } [] r ∧ r.received got ∧
      r.secondExchange = second ∧ r.secondAttempt = again := by
  refine ⟨_, ⟨rfl, rfl⟩, ?_, rfl, rfl⟩
  by_cases h : got = []
  · exact .inl ⟨h, 0, by simp [h]⟩
  · exact .inr ⟨0, by simp [h]⟩

theorem test_premises_AcceptedReplyCompletesTheExchange :
    (∀ kind ∈ [LinkKind.authenticate, .recheck, .sync], ∀ second ∈ [false, true], ∀ again ∈ [false, true],
      ∀ m ∈ [0, 3],
        let data := List.replicate ((kind.command second).replyLength 0) (0 : Byte)
        data.length = (kind.command second).replyLength 0 ∧ m < (chipReply 0 0 data).length ∧
          ∃ r, (hearing kind second again ((chipReply 0 0 data).take m)).runs { position := 0, kind := kind } [] r ∧
            r.received ((chipReply 0 0 data).take m) ∧ r.secondExchange = second) ∧
      LinkKind.sync.command true = .writeYield ∧ (leBytes 4 70).length = LinkCommand.writeYield.replyLength 2 ∧
      4 < (chipReply 0 2 (leBytes 4 70)).length ∧ 0 + 3 < (chipReply 0 2 (leBytes 4 70)).length ∧
      fieldAt (List.replicate 4 (0 : Byte)) 0 4 ≠ 70 ∧ fieldAt (leBytes 4 70) 0 4 = 70 := by
  refine ⟨?_, by decide +kernel, by decide +kernel, by decide +kernel, by decide +kernel, by decide +kernel,
    by decide +kernel⟩
  intro kind hk second hs again ha m hm
  refine ⟨List.length_replicate, ?_, ?_⟩
  · revert kind second m
    decide +kernel
  · obtain ⟨r, runs, got, two, -⟩ := received_hearing kind second again
      ((chipReply 0 0 (List.replicate ((kind.command second).replyLength 0) 0)).take m)
    exact ⟨r, runs, got, two⟩

theorem test_reply_frame_of_a_sync_ends_the_entry :
    let t := after (.replyFrame (chipReply 0 0 (leBytes 4 70)) true) (running .sync true false (.awaitingReply 0))
    t.link.queue = [] ∧ t.link.quietSince = none := by
  decide +kernel

theorem test_reply_with_a_bad_byte_fails_the_attempt :
    (after (.replyFrame [withOddParity 129] true) (running .sync true false (.awaitingReply 0))).link.running.map
        Running.phase = some (.quiet 20000) ∧
      (after (.replyFrame [⟨128, true⟩] true) (running .sync true true (.awaitingReply 0))).link.quietSince =
        some 20000 := by
  decide +kernel

/-- A reply of a chip to READ_YIELD. -/
def yieldReply : List LinkByte := chipReply 0 0 (leBytes 4 70)

theorem test_bytes_that_fail_a_reply_test :
    [(0, ⟨128, true⟩), (0, withOddParity 129), (1, withOddParity 2), (1, withOddParity 3), (2, withOddParity 5),
      (7, withOddParity 0), (8, withOddParity 9)].map (fun (x : Nat × LinkByte) =>
        (newest (after (.replyFrame (yieldReply.take x.1 ++ [x.2]) true) (hearing .sync false false [])),
          (after (.replyFrame (yieldReply.take x.1 ++ [x.2]) true)
            (hearing .sync false false [])).link.running.map Running.phase)) =
      List.replicate 7 (none, some (.quiet 20000)) := by
  decide +kernel

theorem test_premises_FailedAttemptIsMadeAgainOnce_bytes :
    (leBytes 4 70).length = (LinkKind.sync.command false).replyLength 0 ∧ yieldReply.length = 9 ∧
      failsTest .readYield yieldReply 4 ⟨70, true⟩ ∧ failsTest .readYield yieldReply 0 (withOddParity 129) ∧
      failsTest .readYield yieldReply 1 (withOddParity 2) ∧ failsTest .writeYield yieldReply 1 (withOddParity 3) ∧
      failsTest .readYield yieldReply 2 (withOddParity 5) ∧ failsTest .readYield yieldReply 7 (withOddParity 0) ∧
      failsTest .readYield yieldReply 8 (withOddParity 9) ∧
      (∃ r, (hearing .sync false true (yieldReply.take 3)).runs { position := 0, kind := .sync } [] r ∧
        r.received (yieldReply.take 3) ∧ r.secondAttempt = true) ∧
      3 ≤ 4 ∧ 2 < (chipReply 0 1 []).length ∧
      ∃ r, (hearing .sync true false ((chipReply 0 1 []).take 2)).runs { position := 0, kind := .sync } [] r ∧
        r.received ((chipReply 0 1 []).take 2) := by
  have first := received_hearing .sync false true (yieldReply.take 3)
  have second := received_hearing .sync true false ((chipReply 0 1 []).take 2)
  obtain ⟨r, runs, got, -, again⟩ := first
  obtain ⟨q, runs', got', -, -⟩ := second
  refine ⟨?_, ?_, ?_, ?_, ?_, ?_, ?_, ?_, ?_, ⟨r, runs, got, again⟩, ?_, ?_, q, runs', got'⟩ <;>
    first | decide +kernel | (unfold failsTest; decide +kernel)

theorem test_premises_FailedAttemptIsMadeAgainOnce :
    (∃ r, (running .sync false true (.receiving [] 0)).runs { position := 0, kind := .sync } [] r ∧
        r.phase = .receiving [] 0 ∧ r.secondAttempt = true) ∧
      0 + 20000 ≤ (running .sync false true (.receiving [] 0)).now ∧
      (∃ r, (running .sync true false (.quiet 0)).runs { position := 0, kind := .sync } [] r ∧ r.phase = .quiet 0 ∧
        LinkKind.sync.command r.secondExchange ≠ .challenge) ∧
      (∃ r, (running .recheck true false (.quiet 0)).runs { position := 0, kind := .recheck } [] r ∧
        r.phase = .quiet 0 ∧ LinkKind.recheck.command r.secondExchange = .challenge) ∧
      (waiting .sync (some 0)).link.quietSince = some 0 ∧ (waiting .sync (some 0)).link.running = none ∧
      ((waiting .sync (some 0)).setLink { queue := [], running := none, quietSince := some 0 }).link.queue = [] :=
  ⟨⟨_, ⟨rfl, rfl⟩, rfl, rfl⟩, by decide +kernel,
    ⟨_, ⟨rfl, rfl⟩, rfl, by decide⟩, ⟨_, ⟨rfl, rfl⟩, rfl, rfl⟩, rfl, rfl, rfl⟩

theorem test_times_of_the_line :
    (after .replyTimeout (running .sync false false (.awaitingReply 0))).link.running.map Running.phase =
        some (.quiet 20000) ∧
      (after .quietEnd (running .sync false false (.quiet 0))).link.running.map Running.secondAttempt = some true ∧
      (after .quietEnd (waiting .sync (some 0))).link.running.isSome = true := by
  decide +kernel

/-! ### The meter unit -/

/-- A bank runs, with a serial and another trigger waiting. -/
def banking : State :=
  base.setMeter
    { base.meter with
      bank := some { captured := base.meter.working, serial := some { serial := 1, tag := 0 }, began := 0 }
      bankAgain := true, work := .banking 0 1 parked }

theorem test_premises_BanksBeginAndComplete :
    base.meter.pwrWarn = false ∧ (base.setMeter { base.meter with pwrWarn := true }).meter.pwrWarn = true ∧
      (∃ b, banking.meter.bank = some b) ∧ banking.meter.bankAgain = true ∧ banking.meter.work.code = 2 :=
  ⟨rfl, rfl, ⟨_, rfl⟩, rfl, rfl⟩

theorem test_power_warning_banks_once :
    let warned := after .pwrWarn base
    warned.meter.bank.isSome = true ∧ (after .pwrWarn warned).meter.bankAgain = false ∧
      (after .pwrWarnRelease warned).meter.pwrWarn = false := by
  decide +kernel

theorem test_bank_completes :
    let t := after .bankComplete banking
    t.meter.cells.serial = 1 ∧ t.meter.bank.isSome = true ∧ t.meter.work = .none ∧ t.directive.writes.length = 1 := by
  decide +kernel

theorem test_premises_SnapshotIsComposed :
    (base.setWork (.composing (composing (.image 2047)))).meter.work = .composing (composing (.image 2047)) ∧
      (composing (.image 2047)).next ≠ .trailer ∧ (composing .header).next ≠ .trailer ∧
      (base.setWork (.composing (composing .trailer))).meter.work = .composing (composing .trailer) ∧
      (composing .trailer).next = .trailer ∧ (base.setWork (.composing (composing .trailer))).memoryCanonical :=
  ⟨rfl, by decide, by decide, rfl, rfl, rfl⟩

theorem test_zero_bytes_of_a_snapshot_are_not_read :
    let image := (Account.unused 7).image 0
    [image, image.set 3 1, image.set 60 255, image.set 2 254, image.set 0 9, image.set 4 1].map imageOk =
      [true, true, true, true, false, false] := by
  decide +kernel

theorem test_snapshot_is_composed :
    let t := after .snapshotImageCopy (base.setWork (.composing (composing (.image 2047))))
    let u := after .snapshotCompositionEnd (base.setWork (.composing (composing .trailer)))
    (match t.meter.work with
      | .composing c => c.next == .trailer && c.written.length == 64
      | _ => false) = true ∧
      u.meter.work = .banking (2 ^ 20) 1 parked ∧ u.meter.bank.isSome = true := by
  decide +kernel

/-- A restore that has read an area of zeros. -/
def restoring (bytes : Nat) : State := base.setWork (.restoring 64 parked (List.replicate bytes 0))

theorem test_premises_RestoreLoadsWhatPassesEveryTest :
    (restoring 0).meter.work = .restoring 64 parked [] ∧
      (restoring 131264).meter.work = .restoring 64 parked (List.replicate 131264 0) ∧
      (List.replicate 131264 (0 : Byte)).length = 131264 :=
  ⟨rfl, rfl, List.length_replicate⟩

theorem test_restore_reads_beats_in_order :
    (after (.restoreAreaRead 2) (after (.restoreAreaRead 1) (restoring 0))).meter.work =
      .restoring 64 parked (List.replicate 48 0) := by
  decide +kernel

/-! ### Lines, reset, and what every step keeps -/

theorem test_tamper_line :
    let fallen := after .tamperFall office
    fallen.lockdown.mode = .lockdown ∧ fallen.lockdown.tamperHigh = false ∧
      (after .tamperFall (after .tamperRise fallen)).directive.notices.getLast?.map NoticeRequest.kind =
        some .lockdownRepeat := by
  decide +kernel

theorem test_reset_lines :
    (after .powerOn office).allSlotsFree = true ∧ (after .resetN office).lockdown.resetCause = .resetLine ∧
      (after .powerOn (office.setTamper false)).lockdown.mode = .lockdown ∧ (after .resetN office).account.pristine = true := by
  decide +kernel

/-- Each law below is met by a state from which a step is taken. -/
def stepping : State := { State.reset with pending := [.engSheet] }

theorem stepping_steps : ∃ t, step stepping = .next t := ⟨_, rfl⟩

theorem region_reset (i : Nat) : State.reset.region i = none := base_has_no_region i

theorem key_reset (slot : Nat) : (tget State.reset.cipher.keys slot : Option KeyEntry) = none := by
  by_cases h : slot < 32
  · simp [tget, State.reset, h]
  · simp [tget, h]
    rfl

theorem job_reset (slot : Nat) : State.reset.jobAt slot = none := by
  by_cases h : slot < 32
  · simp [State.jobAt, tget, State.reset, h]
  · simp [State.jobAt, tget, h]
    rfl

theorem account_reset (i : Nat) (h : i < 2048) : State.reset.accountAt i = .unused 0 := by
  simp [State.accountAt, tget, State.reset, h]

theorem test_premises_MemoryKeepsItsCanonicalForm : stepping.memoryCanonical ∧ ∃ t, step stepping = .next t :=
  ⟨rfl, stepping_steps⟩

theorem test_premises_TablesThatNameAJobStayInStep :
    office.tablesAgree ∧ office.lockdownHoldsNoJob ∧ (∃ t, step office = .next t) ∧
      (locked base).lockdownHoldsNoJob := by
  refine ⟨⟨?_, ?_, ?_, ?_⟩, ?_, ⟨_, rfl⟩, locked_base_holds_no_job⟩
  case refine_5 => intro h; exact nomatch h
  all_goals decide +kernel

set_option synthInstance.maxSize 512 in
theorem test_premises_RegionsAndOwnedAreasNeverOverlap :
    (scanning.own 64 64 .replyLocation).areasLawful ∧ (scanning.own 64 64 .replyLocation).lockdownHoldsNoJob ∧
      ∃ t, step (scanning.own 64 64 .replyLocation) = .next t := by
  refine ⟨⟨?_, ?_, ?_, ?_⟩, ?_, ⟨_, rfl⟩⟩
  case refine_1 => unfold Region.lawful; decide +kernel
  case refine_5 => intro h; exact nomatch h
  all_goals decide +kernel

theorem test_premises_QueuesStayWithinTheirCapacity :
    (waiting .sync none).queuesWithinCapacity ∧ ∃ t, step (waiting .sync none) = .next t := by
  refine ⟨⟨?_, ?_, ?_, ?_, ?_⟩, ⟨_, rfl⟩⟩ <;> decide +kernel

theorem test_premises_WorkingTotalsAndSerialNeverFall :
    banking.metersOrdered ∧ banking.serialInFlight ∧ (∃ t, step banking = .next t) ∧
      banking.pending.head? ≠ some .powerOn ∧ banking.pending.head? ≠ some .resetN := by
  refine ⟨⟨?_, ?_, ?_⟩, ⟨rfl, _, rfl, .inl ⟨rfl, rfl⟩⟩, ⟨_, rfl⟩, by decide +kernel, by decide +kernel⟩
  · unfold Totals.le; decide +kernel
  · unfold Totals.le; decide +kernel
  · intro b h
    cases h
    unfold Totals.le
    decide +kernel

theorem test_premises_NoAccountFallsBelowItsFloor :
    stepping.ledgerBalanced ∧ ∃ t, step stepping = .next t := by
  refine ⟨⟨?_, ⟨?_, ?_, ?_⟩, ?_, ?_, ?_⟩, stepping_steps⟩
  · intro i h
    have zero : stepping.accountAt i = .unused 0 := account_reset i h
    unfold State.accountLawful
    rw [zero]
    refine ⟨rfl, ?_, ?_, ?_, ?_, ?_, ?_, ?_⟩ <;> simp [Account.unused]
  · decide +kernel
  · intro h mem; exact nomatch mem
  · intro h mem; exact nomatch mem
  · intro slot _ j mem
    have none : stepping.jobAt slot = none := job_reset slot
    rw [none] at mem
    exact nomatch mem
  · decide +kernel
  · intro _ i h; exact account_reset i h

end Sys2Proof.Machine.Slice0
end

section
/-! The areas of the address space: the places of the bound regions (R5) and the owned-area list (R31), and what each
operation does to them. Most operations leave them; the others free regions or take areas off the list. -/

namespace Sys2Proof.Machine

/-! ### Areas -/

/-- A region without the fields of its kind: what the laws of the region table speak of (R5, R6). -/
def Region.place (r : Region) : Region := { r with body := .scan 0 }

/-- The places of the bound regions by index, and the owned-area list. -/
structure Areas where
  places : Nat → Option Region
  owned  : List OwnedArea

theorem place_eq_iff {r q : Region} :
    r.place = q.place ↔ r.base = q.base ∧ r.length = q.length ∧ r.slot = q.slot ∧ r.segment = q.segment := by
  simp [Region.place]

/-- The areas of a state. -/
def State.areas (s : State) : Areas :=
  { places := fun i => (s.region i).map Region.place, owned := s.directive.owned }

/-- Every place of one is a place of the other, and the owned areas of one are some of the other's. -/
def Areas.within (x y : Areas) : Prop :=
  (∀ i r, x.places i = some r → y.places i = some r) ∧ x.owned.Sublist y.owned

/-- The areas of a state are those of another, less those freed. -/
def Shrinks (s t : State) : Prop := t.areas.within s.areas

theorem Areas.within_refl (x : Areas) : x.within x := ⟨fun _ _ h => h, List.Sublist.refl _⟩

theorem Areas.within_trans {x y z : Areas} (h : x.within y) (h' : y.within z) : x.within z :=
  ⟨fun i r hr => h'.1 i r (h.1 i r hr), h.2.trans h'.2⟩

@[simp] theorem shrinks_refl (s : State) : Shrinks s s := Areas.within_refl _

theorem Shrinks.trans {s t u : State} (h : Shrinks s t) (h' : Shrinks t u) : Shrinks s u := Areas.within_trans h' h

theorem Shrinks.of_eq {s t : State} (h : t.areas = s.areas) : Shrinks s t := by
  rw [Shrinks, h]
  exact Areas.within_refl _

/-- What leaves the areas of a state leaves them within those of another. -/
theorem Shrinks.keep {s a b : State} (h : Shrinks s a) (e : b.areas = a.areas) : Shrinks s b :=
  h.trans (.of_eq e)

/-- The areas are read from the regions and the owned-area list alone. -/
theorem areas_congr {s t : State} (hr : t.transaction.regions = s.transaction.regions)
    (ho : t.directive.owned = s.directive.owned) : t.areas = s.areas := by
  simp only [State.areas, State.region, hr, ho]

/-- What touches neither the transaction unit nor the directive unit leaves the areas. -/
theorem areas_of_touches {ps : List Part} {s t : State} (h : Touches ps s t) (hT : .transaction ∉ ps)
    (hD : .directive ∉ ps) : t.areas = s.areas := by
  have transaction : t.transaction = s.transaction := h _ hT
  have directive : t.directive = s.directive := h _ hD
  exact areas_congr (by rw [transaction]) (by rw [directive])

/-- A bound region of a state within another is bound there at the same place. -/
theorem Shrinks.region {s t : State} (h : Shrinks s t) {i : Nat} {r : Region} (hr : t.region i = some r) :
    ∃ q, s.region i = some q ∧ q.place = r.place := by
  have placed : s.areas.places i = some r.place := h.1 i _ (by simp [State.areas, hr])
  simpa [State.areas] using placed

variable (a : State)

/-! ### The units -/

@[simp] theorem areas_setMemory (m : List Host.Cell) : (a.setMemory m).areas = a.areas := rfl
@[simp] theorem areas_setCipher (u : CipherUnit) : (a.setCipher u).areas = a.areas := rfl
@[simp] theorem areas_setJobs (u : JobUnit) : (a.setJobs u).areas = a.areas := rfl
@[simp] theorem areas_setParser (u : BandParser) : (a.setParser u).areas = a.areas := rfl
@[simp] theorem areas_setCharging (u : ChargingUnit) : (a.setCharging u).areas = a.areas := rfl
@[simp] theorem areas_setAccounts (u : AccountUnit) : (a.setAccounts u).areas = a.areas := rfl
@[simp] theorem areas_setConsumables (u : ConsumableUnit) : (a.setConsumables u).areas = a.areas := rfl
@[simp] theorem areas_setLink (u : LinkUnit) : (a.setLink u).areas = a.areas := rfl
@[simp] theorem areas_setMeter (u : MeterUnit) : (a.setMeter u).areas = a.areas := rfl
@[simp] theorem areas_setLockdown (u : LockdownControl) : (a.setLockdown u).areas = a.areas := rfl

@[simp] theorem areas_setDirective (u : DirectiveUnit) (h : u.owned = a.directive.owned) :
    (a.setDirective u).areas = a.areas := areas_congr rfl h

@[simp] theorem areas_setTransaction (u : TransactionUnit) (h : u.regions = a.transaction.regions) :
    (a.setTransaction u).areas = a.areas := areas_congr h rfl

/-! ### Ops -/

@[simp] theorem areas_store (x : Nat) (bs : List Byte) : (a.store x bs).areas = a.areas := rfl
@[simp] theorem areas_respond (q : Nat) (ok : Bool) (bs : List Byte) : (a.respond q ok bs).areas = a.areas := rfl
@[simp] theorem areas_setJob (i : Nat) (j : Option JobRecord) : (a.setJob i j).areas = a.areas := rfl
@[simp] theorem areas_updateJob (i : Nat) (g : JobRecord → JobRecord) : (a.updateJob i g).areas = a.areas := rfl
@[simp] theorem areas_setKey (i : Nat) (k : Option KeyEntry) : (a.setKey i k).areas = a.areas := rfl
@[simp] theorem areas_updateConsumable (p : Nat) (g : Consumable → Consumable) :
    (a.updateConsumable p g).areas = a.areas := rfl
@[simp] theorem areas_setOpenSide (o : Option OpenSide) : (a.setOpenSide o).areas = a.areas := rfl
@[simp] theorem areas_setSheets (q : List Sheet) : (a.setSheets q).areas = a.areas := rfl
@[simp] theorem areas_setWork (w : MeterWork) : (a.setWork w).areas = a.areas := rfl
@[simp] theorem areas_askNotice (k : NoticeKind) (vs : List Val) : (a.askNotice k vs).areas = a.areas := rfl
@[simp] theorem areas_askStamped (k : NoticeKind) (vs : List Val) : (a.askStamped k vs).areas = a.areas := rfl
@[simp] theorem areas_handWriter (w : WriterItem) : (a.handWriter w).areas = a.areas := rfl
@[simp] theorem areas_reply (d : Directive) (x : Answer) : (a.reply d x).areas = a.areas := rfl
@[simp] theorem areas_replyParked (p : Parked) (x : Answer) : (a.replyParked p x).areas = a.areas := rfl
@[simp] theorem areas_finish (d : Directive) (x : Answer) : (a.finish d x).areas = a.areas := rfl

/-- A write to one entry of the region table changes that entry and no other. -/
theorem region_setRegion (i k : Nat) (r : Option Region) (hi : i < 64) :
    (a.setRegion i r).region k = if k = i then r else a.region k := by
  simp only [State.region, setRegion_transaction]
  by_cases h : k = i
  · rw [if_pos h, h]; exact tget_tset_same _ _ hi
  · rw [if_neg h]; exact tget_tset_other _ _ h

/-- An index beyond the region table holds no region. -/
theorem region_beyond {i : Nat} (h : 64 ≤ i) : a.region i = none := by
  rw [State.region, tget, dif_neg (by omega)]
  rfl

/-- A bound region's index lies in the table. -/
theorem lt_of_region {i : Nat} {r : Region} (h : a.region i = some r) : i < 64 := by
  by_contra beyond
  rw [region_beyond a (by omega)] at h
  cases h

/-- A region written back at its place changes no place. -/
theorem areas_setRegion {i : Nat} {r q : Region} (h : a.region i = some q) (hp : r.place = q.place) :
    (a.setRegion i (some r)).areas = a.areas := by
  have hi := lt_of_region a h
  simp only [State.areas, Areas.mk.injEq]
  refine ⟨funext fun k => ?_, rfl⟩
  rw [region_setRegion a i k _ hi]
  by_cases hk : k = i
  · rw [if_pos hk, hk, h, Option.map_some, Option.map_some, hp]
  · rw [if_neg hk]

@[simp] theorem areas_deliver (q : NoticeRequest) : (a.deliver q).areas = a.areas := by
  unfold State.deliver
  split <;> rfl

@[simp] theorem areas_deliverAll (qs : List NoticeRequest) : (a.deliverAll qs).areas = a.areas := by
  induction qs generalizing a with
  | nil => rfl
  | cons q qs ih => rw [State.deliverAll, ih, areas_deliver]

@[simp] theorem areas_takeNotice : a.takeNotice.areas = a.areas := by
  unfold State.takeNotice
  split <;> simp

@[simp] theorem areas_dispatchNext : a.dispatchNext.areas = a.areas := by
  simp only [State.dispatchNext]
  (repeat' split) <;> rfl

@[simp] theorem areas_conclude (d : Directive) (v : Verdict) : (a.conclude d v).areas = a.areas := by
  cases v <;> simp [State.conclude]

/-! ### The link queue and the consumable unit -/

@[simp] theorem areas_requestLink (p : Nat) (k : LinkKind) : (a.requestLink p k).1.areas = a.areas := by
  rw [requestLink_eq]; rfl

@[simp] theorem areas_requestSync (p : Nat) : (a.requestSync p).areas = a.areas := by
  rw [requestSync_eq]; rfl

@[simp] theorem areas_dropPosition (p : Nat) : (a.dropPosition p).areas = a.areas := by
  unfold State.dropPosition
  split <;> simp

@[simp] theorem areas_noticeExhausted (p : Nat) : (a.noticeExhausted p).areas = a.areas := rfl

@[simp] theorem areas_noticeLowIf (p : Nat) (b : Bool) : (a.noticeLowIf p b).areas = a.areas := by
  rw [noticeLowIf_eq]; rfl

@[simp] theorem areas_noticeCheck (n : NoticeKind) (p : Nat) (k : LinkKind) (r : CheckResult) (i : Option Identity) :
    (a.noticeCheck n p k r i).areas = a.areas := rfl

@[simp] theorem areas_requestSyncIfNeeded (p : Nat) : (a.requestSyncIfNeeded p).areas = a.areas := by
  unfold State.requestSyncIfNeeded
  split <;> simp

@[simp] theorem areas_syncAfterDraw (p : Nat) : (a.syncAfterDraw p).areas = a.areas := by
  simp only [State.syncAfterDraw]
  split <;> simp

@[simp] theorem areas_drawUnit (p : Nat) : (a.drawUnit p).areas = a.areas := by
  simp only [State.drawUnit]
  (repeat' split) <;> simp

@[simp] theorem areas_drawUnits (p n : Nat) : (a.drawUnits p n).areas = a.areas := by
  induction n generalizing a with
  | zero => rfl
  | succ n ih => rw [State.drawUnits, ih, areas_drawUnit]

@[simp] theorem areas_handDots (p : Plane) (n : Nat) : (a.handDots p n).areas = a.areas := by
  simp only [State.handDots]
  split <;> simp

@[simp] theorem areas_drawImaging : a.drawImaging.areas = a.areas := by
  simp [State.drawImaging]

@[simp] theorem areas_failCheck (p : Nat) (k : LinkKind) (r : CheckResult) (i : Option Identity) :
    (a.failCheck p k r i).areas = a.areas := rfl

@[simp] theorem areas_acceptCheck (p : Nat) (i : Identity) : (a.acceptCheck p i).areas = a.areas := by
  simp [State.acceptCheck]

@[simp] theorem areas_answerCheck (p : Nat) (r : CheckResult) : (a.answerCheck p r).areas = a.areas := by
  unfold State.answerCheck
  split <;> simp

@[simp] theorem areas_authenticateEffect (p : Nat) (r : CheckResult) (i : Option Identity) :
    (a.authenticateEffect p r i).areas = a.areas := by
  unfold State.authenticateEffect
  (repeat' split) <;> simp

@[simp] theorem areas_authenticateEnd (p : Nat) (r : CheckResult) (i : Option Identity) :
    (a.authenticateEnd p r i).areas = a.areas := by
  simp [State.authenticateEnd]

@[simp] theorem areas_recheckEnd (p : Nat) (r : CheckResult) (i : Option Identity) :
    (a.recheckEnd p r i).areas = a.areas := by
  unfold State.recheckEnd
  (repeat' split) <;> simp

@[simp] theorem areas_syncEnd (p c w : Nat) : (a.syncEnd p c w).areas = a.areas := by
  simp only [State.syncEnd]
  (repeat' split) <;> simp

@[simp] theorem areas_syncFailed (p : Nat) : (a.syncFailed p).areas = a.areas := by
  simp only [State.syncFailed]
  split <;> simp

@[simp] theorem areas_setPresence (p : Nat) (l : PresenceLine) : (a.setPresence p l).areas = a.areas := rfl

@[simp] theorem areas_requestAuthenticate (p : Nat) : (a.requestAuthenticate p).areas = a.areas := by
  simp [State.requestAuthenticate]

@[simp] theorem areas_presenceRise (p : Nat) : (a.presenceRise p).areas = a.areas := by
  unfold State.presenceRise
  split <;> simp

@[simp] theorem areas_presenceFall (p : Nat) : (a.presenceFall p).areas = a.areas := by
  simp only [State.presenceFall]
  (repeat' split) <;> simp

/-! ### The account, job and meter units -/

@[simp] theorem areas_chargeAccount (i : Nat) (g : Account → Account) : (a.chargeAccount i g).areas = a.areas := rfl
@[simp] theorem areas_reserve (i n : Nat) : (a.reserve i n).areas = a.areas := rfl
@[simp] theorem areas_release (i n : Nat) : (a.release i n).areas = a.areas := rfl
@[simp] theorem areas_dropAccount (i n : Nat) : (a.dropAccount i n).areas = a.areas := rfl

@[simp] theorem areas_commitAccount (i : Nat) (b : Bool) (c r : Nat) : (a.commitAccount i b c r).areas = a.areas := by
  simp only [State.commitAccount]
  split <;> simp

@[simp] theorem areas_decideScan (i n : Nat) : (a.decideScan i n).1.areas = a.areas := by
  unfold State.decideScan
  (repeat' split) <;> simp

@[simp] theorem areas_handSummary (c : Closing) (m : JobSummary) : (a.handSummary c m).areas = a.areas := by
  unfold State.handSummary
  split <;> simp

@[simp] theorem areas_countSide (b : Bool) : (a.countSide b).areas = a.areas := rfl
@[simp] theorem areas_countScan : a.countScan.areas = a.areas := rfl
@[simp] theorem areas_beginBank (t : Option SerialTag) : (a.beginBank t).areas = a.areas := rfl

@[simp] theorem areas_triggerBank (t : Option SerialTag) : (a.triggerBank t).areas = a.areas := by
  unfold State.triggerBank
  split <;> simp

@[simp] theorem areas_updateWorking (g : Totals → Totals) : (a.updateWorking g).areas = a.areas := rfl

@[simp] theorem areas_countSheet : a.countSheet.areas = a.areas := by
  simp only [State.countSheet]
  split <;> simp

@[simp] theorem areas_powerWarning : a.powerWarning.areas = a.areas := rfl

@[simp] theorem areas_pwrWarn : a.pwrWarn.areas = a.areas := by
  simp only [State.pwrWarn]
  split <;> simp

@[simp] theorem areas_loadSnapshot (bs : List Byte) : (a.loadSnapshot bs).areas = a.areas := by
  simp [State.loadSnapshot]

/-! ### The charging unit -/

@[simp] theorem areas_updateSheet (n : Nat) (g : Sheet → Sheet) : (a.updateSheet n g).areas = a.areas := rfl
@[simp] theorem areas_addSheet (i j : Nat) (r : SideRecord) : (a.addSheet i j r).areas = a.areas := rfl
@[simp] theorem areas_attachBack (n : Nat) (r : SideRecord) : (a.attachBack n r).areas = a.areas := rfl
@[simp] theorem areas_orphanSheetsOf (i : Nat) : (a.orphanSheetsOf i).areas = a.areas := rfl
@[simp] theorem areas_orphanAllSheets : a.orphanAllSheets.areas = a.areas := rfl
@[simp] theorem areas_takeScanRecord : a.takeScanRecord.areas = a.areas := rfl

@[simp] theorem areas_abandonSheet (n : Nat) (k : SideKind) : (a.abandonSheet n k).areas = a.areas := by
  cases k <;> rfl

@[simp] theorem areas_commitJob (o : Owner) (b : Bool) : (a.commitJob o b).areas = a.areas := by
  cases o <;> rfl

@[simp] theorem areas_commitSide (h : Sheet) (r : SideRecord) : (State.commitSide h a r).areas = a.areas := by
  simp [State.commitSide]

@[simp] theorem areas_commitSides (h : Sheet) (l : List SideRecord) :
    (l.foldl (State.commitSide h) a).areas = a.areas := by
  induction l generalizing a with
  | nil => rfl
  | cons r l ih => rw [List.foldl_cons, ih, areas_commitSide]

@[simp] theorem areas_dropJob (o : Owner) (n : Nat) : (a.dropJob o n).areas = a.areas := by
  cases o <;> rfl

@[simp] theorem areas_chargeScan (i : Nat) (j : JobRecord) : (a.chargeScan i j).areas = a.areas := by
  simp only [State.chargeScan]
  split <;> simp

@[simp] theorem areas_scnPage : a.scnPage.areas = a.areas := by
  simp only [State.scnPage]
  split <;> simp

/-! ### The band parser -/

@[simp] theorem areas_setFraming (i : Nat) (f : Framing) (c : Nat) : (a.setFraming i f c).areas = a.areas := by
  unfold State.setFraming
  split
  case h_1 r _ bound _ => exact areas_setRegion a bound rfl
  case h_2 => rfl

@[simp] theorem areas_breakRegion (i : Nat) : (a.breakRegion i).areas = a.areas := by
  unfold State.breakRegion
  split <;> simp

@[simp] theorem areas_frameAbandoned (i : Nat) (c : AbandonCause) : (a.frameAbandoned i c).areas = a.areas := by
  cases c <;> simp [State.frameAbandoned]

@[simp] theorem areas_handBand (p : Option Plane) (n : Nat) : (a.handBand p n).areas = a.areas := by
  unfold State.handBand
  (repeat' split) <;> simp

@[simp] theorem areas_releaseSide (o : OpenSide) : (a.releaseSide o).areas = a.areas := by
  unfold State.releaseSide
  split <;> simp

@[simp] theorem areas_abandonSide (o : OpenSide) (c : AbandonCause) : (a.abandonSide o c).areas = a.areas := by
  simp [State.abandonSide]

@[simp] theorem areas_noticeFraming (r : VideoRead) (x : FramingReason) (y : ParserState) (c : Nat) :
    (a.noticeFraming r x y c).areas = a.areas := rfl

@[simp] theorem areas_noticeSide (r : VideoRead) (j : JobRecord) (k : SideKind) (m : PlaneMask) (o : Nat)
    (x : SideReason) : (a.noticeSide r j k m o x).areas = a.areas := rfl

@[simp] theorem areas_placeSide (i j : Nat) (k : SideKind) (r : SideRecord) :
    (a.placeSide i j k r).areas = a.areas := by
  cases k <;> rfl

@[simp] theorem areas_makeSide (r : VideoRead) (j : JobRecord) (k : SideKind) (m : PlaneMask) :
    (a.makeSide r j k m).areas = a.areas := by
  simp [State.makeSide]

@[simp] theorem areas_consumeHeader (i o : Nat) (h : BandHeader) (p : Plane) :
    (a.consumeHeader i o h p).areas = a.areas := by
  simp [State.consumeHeader]

@[simp] theorem areas_countPayload (i : Nat) (p : Plane) (bs : List Byte) :
    (a.countPayload i p bs).areas = a.areas := by
  unfold State.countPayload
  split <;> simp

@[simp] theorem areas_completeSide (o : OpenSide) : (a.completeSide o).areas = a.areas := by
  simp [State.completeSide]

@[simp] theorem areas_endBand (i : Nat) (p : Plane) (c : Nat) : (a.endBand i p c).areas = a.areas := by
  simp only [State.endBand]
  (repeat' split) <;> simp

/-! ### The subordinate port, lockdown control and the directive unit -/

@[simp] theorem areas_refuseAccess (t : Transaction) (r : Role) (x : AccessReason) (i : Option Nat) :
    (a.refuseAccess t r x i).areas = a.areas := rfl

@[simp] theorem areas_forward (t : Transaction) : (a.forward t).areas = a.areas := by
  unfold State.forward
  split <;> simp

@[simp] theorem areas_keyFault (t : Transaction) (q : Role) (i : Nat) (r : Region) :
    (a.keyFault t q i r).areas = a.areas := rfl

/-- A SCAN write counted in the region it lies in. -/
theorem areas_countScanWrite {i : Nat} {r : Region} (n : Nat) (h : a.region i = some r) :
    (a.countScanWrite i r n).areas = a.areas := by
  have counted := areas_setRegion a (r := { r with body := r.body.countBeats n }) h rfl
  rw [← counted]
  exact areas_congr rfl rfl

theorem areas_encipherWrite (t : Transaction) (q : Role) {i : Nat} {r : Region} (h : a.region i = some r) :
    (a.encipherWrite t q i r).areas = a.areas := by
  simp only [State.encipherWrite]
  split
  · simp
  · split
    · rw [areas_countScanWrite]
      · simp
      · exact h
    · simp

@[simp] theorem areas_decipherRead (t : Transaction) (q : Role) (i : Nat) (r : Region) :
    (a.decipherRead t q i r).areas = a.areas := by
  unfold State.decipherRead
  split <;> simp

@[simp] theorem areas_eraseKeys : a.eraseKeys.areas = a.areas := rfl
@[simp] theorem areas_enterMode (e : CauseEvent) : (a.enterMode e).areas = a.areas := rfl
@[simp] theorem areas_recover : a.recover.areas = a.areas := rfl
@[simp] theorem areas_setTamper (b : Bool) : (a.setTamper b).areas = a.areas := rfl
@[simp] theorem areas_replyAtOnce (d : Directive) (o : OutcomeCode) : (a.replyAtOnce d o).areas = a.areas := rfl
@[simp] theorem areas_popWriter : a.popWriter.areas = a.areas := rfl
@[simp] theorem areas_setRoles (l : List Role) : (a.setRoles l).areas = a.areas := rfl

/-- Directives answered one after another. -/
@[simp] theorem areas_replies (l : List Directive) (x : State → Directive → Answer) :
    (l.foldl (fun a d => a.reply d (x a d)) a).areas = a.areas := by
  induction l generalizing a with
  | nil => rfl
  | cons d l ih => rw [List.foldl_cons, ih, areas_reply]

@[simp] theorem areas_answerWaiting : a.answerWaiting.areas = a.areas := by
  simp [State.answerWaiting]

@[simp] theorem areas_enter (d : Directive) : (a.enter d).areas = a.areas := by
  unfold State.enter
  (repeat' split) <;> simp

@[simp] theorem areas_directiveEntry (q : Nat) : (a.directiveEntry q).areas = a.areas := by
  unfold State.directiveEntry
  split <;> simp

@[simp] theorem areas_afterReply (l : Nat) : (a.afterReply l).areas = a.areas := by
  unfold State.afterReply
  split <;> simp

@[simp] theorem areas_takeAllNotices : a.takeAllNotices.areas = a.areas := by
  simp [State.takeAllNotices]

@[simp] theorem areas_afterLockdown (before : State) : (before.afterLockdown a).areas = a.areas := by
  unfold State.afterLockdown
  split <;> simp

/-! ### The link unit -/

@[simp] theorem areas_setRunning (r : Running) : (a.setRunning r).areas = a.areas := rfl
@[simp] theorem areas_removeRunning (q : Option Nat) : (a.removeRunning q).areas = a.areas := rfl

@[simp] theorem areas_beginAttempt (e : LinkEntry) (r : Running) : (a.beginAttempt e r).areas = a.areas := by
  simp only [State.beginAttempt]
  split <;> simp

@[simp] theorem areas_reportFailure (e : LinkEntry) (r : Running) : (a.reportFailure e r).areas = a.areas := by
  unfold State.reportFailure
  split <;> simp

@[simp] theorem areas_failAttempt (e : LinkEntry) (r : Running) : (a.failAttempt e r).areas = a.areas := by
  unfold State.failAttempt
  split <;> simp

@[simp] theorem areas_reportChallenge (e : LinkEntry) (i : Identity) (b : Bool) :
    (a.reportChallenge e i b).areas = a.areas := by
  simp only [State.reportChallenge]
  split <;> simp

@[simp] theorem areas_exchangeReply (e : LinkEntry) (r : Running) (bs : List Byte) (b : Bool) :
    (a.exchangeReply e r bs b).areas = a.areas := by
  unfold State.exchangeReply
  (repeat' split) <;> simp [State.secondExchange]

@[simp] theorem areas_receiveBytes (e : LinkEntry) (r : Running) (g : List Byte) (bs : List LinkByte) (b : Bool) :
    (a.receiveBytes e r g bs b).areas = a.areas := by
  unfold State.receiveBytes
  (repeat' split) <;> simp

@[simp] theorem areas_replyFrame (bs : List LinkByte) (b : Bool) : (a.replyFrame bs b).areas = a.areas := by
  unfold State.replyFrame
  (repeat' split) <;> simp

@[simp] theorem areas_replyTimeout : a.replyTimeout.areas = a.areas := by
  unfold State.replyTimeout
  (repeat' split) <;> simp

end Sys2Proof.Machine
end

section
/-! Operations that free regions or take areas off the owned-area list. -/

namespace Sys2Proof.Machine

variable {s a : State}

/-! ### Jobs and the meter unit -/

theorem shrinks_disown (b : Nat) (x : AreaSource) (h : Shrinks s a) : Shrinks s (a.disown b x) :=
  h.trans ⟨fun _ _ hr => hr, List.filter_sublist⟩

theorem shrinks_disownRing (h : Shrinks s a) : Shrinks s a.disownRing :=
  h.trans ⟨fun _ _ hr => hr, List.filter_sublist⟩

/-- The entries left bound when a slot's regions are freed stand as they were (R10). -/
theorem region_freeRegions {slot i : Nat} {r : Region} (h : (a.freeRegions slot).region i = some r) :
    a.region i = some r := by
  have hi := lt_of_region _ h
  have entry : (a.freeRegions slot).region i = freeIfOf slot (a.region i) := tget_tmap _ _ hi
  rw [entry] at h
  unfold freeIfOf at h
  split at h
  · split at h
    · cases h
    · rwa [‹a.region i = _›]
  · cases h

theorem shrinks_freeRegions (slot : Nat) (h : Shrinks s a) : Shrinks s (a.freeRegions slot) := by
  refine h.trans ⟨fun i r hr => ?_, List.Sublist.refl _⟩
  simp only [State.areas, Option.map_eq_some_iff] at hr ⊢
  obtain ⟨q, hq, place⟩ := hr
  exact ⟨q, region_freeRegions hq, place⟩

/-- An entry that becomes FREE frees its place (R8). -/
theorem shrinks_unbind (i : Nat) (h : Shrinks s a) : Shrinks s (a.setRegion i none) := by
  refine h.trans ⟨fun k r hr => ?_, List.Sublist.refl _⟩
  simp only [State.areas, Option.map_eq_some_iff] at hr ⊢
  obtain ⟨q, hq, place⟩ := hr
  have inside := lt_of_region _ hq
  by_cases hi : i < 64
  · rw [region_setRegion a i k none hi] at hq
    split at hq
    · cases hq
    · exact ⟨q, hq, place⟩
  · rw [State.region, setRegion_transaction, tset_beyond _ _ (by omega)] at hq
    exact ⟨q, hq, place⟩

theorem shrinks_completeClose (slot : Nat) (reason : CloseReason) (x y : Nat) (h : Shrinks s a) :
    Shrinks s (a.completeClose slot reason x y) := by
  unfold State.completeClose
  split
  · split
    · rw [Shrinks, areas_replyParked, areas_setJob]
      exact shrinks_freeRegions _ (h.keep (by simp))
    all_goals exact h
  · exact h

theorem shrinks_drainTest (slot : Nat) (h : Shrinks s a) : Shrinks s (a.drainTest slot) := by
  unfold State.drainTest
  split
  · split
    · exact shrinks_completeClose _ _ _ _ h
    · exact h
  · exact h

theorem shrinks_drainOwner (o : Owner) (h : Shrinks s a) : Shrinks s (a.drainOwner o) := by
  cases o with
  | job slot => exact shrinks_drainTest slot h
  | orphan => exact h

theorem shrinks_endWork (b : Nat) (x : AreaSource) (p : Parked) (w : Answer) (h : Shrinks s a) :
    Shrinks s (a.endWork b x p w) := by
  rw [Shrinks, State.endWork, areas_replyParked]
  exact shrinks_disown b x (h.keep (by simp))

theorem shrinks_snapshotBanked (h : Shrinks s a) : Shrinks s a.snapshotBanked := by
  unfold State.snapshotBanked
  split
  · rw [Shrinks, areas_replyParked]
    exact shrinks_disown _ _ (h.keep (by simp))
  all_goals exact h

theorem shrinks_bankComplete (h : Shrinks s a) : Shrinks s a.bankComplete := by
  simp only [State.bankComplete]
  split
  · exact h
  · split
    · refine shrinks_snapshotBanked ?_
      split <;> exact h.keep (by simp)
    · split <;> exact h.keep (by simp)

theorem shrinks_restoreReadEnd (h : Shrinks s a) : Shrinks s a.restoreReadEnd := by
  unfold State.restoreReadEnd
  split
  · split
    · split
      · exact shrinks_endWork _ _ _ _ h
      · exact shrinks_endWork _ _ _ _ (h.keep (areas_loadSnapshot _ _))
    · exact h
  all_goals exact h

theorem shrinks_meterEntry (h : Shrinks s a) : Shrinks s a.meterEntry := by
  unfold State.meterEntry
  split
  · exact h
  · exact shrinks_endWork _ _ _ _ h
  · split
    · exact h
    · exact shrinks_endWork _ _ _ _ (h.keep (by simp))
  · exact shrinks_endWork _ _ _ _ h

/-! ### Sheets and sides -/

theorem shrinks_deliverSheet (x : Sheet) (l : List SideRecord) (h : Shrinks s a) : Shrinks s (a.deliverSheet x l) :=
  shrinks_drainOwner _ (h.keep (by simp))

theorem shrinks_dropSheet (x : Sheet) (h : Shrinks s a) : Shrinks s (a.dropSheet x) :=
  shrinks_drainOwner _ (h.keep (by simp))

theorem shrinks_dropSheets (l : List Sheet) (h : Shrinks s a) : Shrinks s (l.foldl State.dropSheet a) := by
  induction l generalizing a with
  | nil => exact h
  | cons x l ih => exact ih (shrinks_dropSheet x h)

theorem shrinks_abandon (c : AbandonCause) (h : Shrinks s a) : Shrinks s (a.abandon c) := by
  unfold State.abandon
  split
  · split
    · exact shrinks_drainTest _ (h.keep (by simp))
    · exact h.keep (by simp)
  · exact h

theorem shrinks_restartFraming (v : VideoRead) (h : Shrinks s a) : Shrinks s (a.restartFraming v) := by
  unfold State.restartFraming
  split
  · rw [Shrinks, areas_setFraming]
    split
    · exact shrinks_abandon _ h
    · exact h
  · exact h

theorem shrinks_framingError (v : VideoRead) (o : Nat) (x : FramingReason) (h : Shrinks s a) :
    Shrinks s (a.framingError v o x) := by
  rw [Shrinks, State.framingError, areas_noticeFraming, areas_setFraming]
  split
  · exact shrinks_abandon _ h
  · exact h

theorem shrinks_startSide (v : VideoRead) (o : Nat) (x : BandHeader) (k : SideKind) (p : Plane) (h : Shrinks s a) :
    Shrinks s (a.startSide v o x k p).1 := by
  have cleared : Shrinks s (a.abandonForStart v.index) := shrinks_abandon _ h
  simp only [State.startSide]
  (repeat' split) <;> exact cleared.keep (by simp)

theorem shrinks_takeHeader (v : VideoRead) (o : Nat) (bs : List Byte) (h : Shrinks s a) :
    Shrinks s (a.takeHeader v o bs).1 := by
  simp only [State.takeHeader]
  split
  · exact shrinks_framingError _ _ _ h
  · exact h.keep (by simp)
  · exact shrinks_startSide _ _ _ _ _ h

/-- One turn of the parser after another: payload is counted, a header is taken (R81). -/
theorem shrinks_parseFrom (v : VideoRead) (n o : Nat) (bs : List Byte) (h : Shrinks s a) :
    Shrinks s (State.parseFrom v n a o bs).1 := by
  induction n generalizing a o bs with
  | zero => exact h
  | succ n ih =>
    cases bs with
    | nil => exact h
    | cons b bs =>
      simp only [State.parseFrom]
      split
      · split
        · exact ih _ _ (h.keep (by simp))
        · exact h.keep (by simp)
      · split
        · exact h.keep (by simp)
        · have taken := shrinks_takeHeader v o ((b :: bs).take 32) h
          split
          · rename_i passed
            rw [passed] at taken
            exact ih _ _ taken
          · rename_i refused
            rw [refused] at taken
            exact taken
      · exact h
      · exact h

theorem shrinks_parseRead (v : VideoRead) (bs : List Byte) (h : Shrinks s a) : Shrinks s (a.parseRead v bs).1 :=
  shrinks_parseFrom v _ _ bs h

theorem shrinks_parseVideo (t : Transaction) (i : Nat) (r : Region) (h : Shrinks s a) :
    Shrinks s (a.parseVideo t i r) := by
  have restarted := shrinks_restartFraming (videoReadOf t i r) h
  simp only [State.parseVideo]
  split
  · exact restarted.keep (by simp)
  · rename_i key _
    have parsed := shrinks_parseRead (videoReadOf t i r)
      ((a.restartFraming (videoReadOf t i r)).plainBytes t r key) restarted
    split
    all_goals
      rename_i result
      rw [result] at parsed
      exact parsed.keep (by simp)

theorem shrinks_decipheredRead (t : Transaction) (q : Role) (i : Nat) (r : Region) (h : Shrinks s a) :
    Shrinks s (a.decipheredRead t q i r) := by
  unfold State.decipheredRead
  split
  · unfold State.videoRead
    split
    · exact h.keep (by simp)
    · exact shrinks_parseVideo t i r h
  · exact h.keep (by simp)

/-! ### The engine lines and the close deadline -/

theorem shrinks_engSheet (h : Shrinks s a) : Shrinks s a.engSheet := by
  unfold State.engSheet
  split
  · unfold State.sheetDelivered
    split
    · exact shrinks_deliverSheet _ _ h
    · rw [Shrinks, areas_askNotice]
      exact shrinks_deliverSheet _ _ h
    · rw [Shrinks, areas_askNotice]
      exact shrinks_deliverSheet _ _ (shrinks_abandon _ h)
    · rw [Shrinks, areas_askNotice]
      exact shrinks_abandon _ h
  · exact h.keep (by simp)

theorem shrinks_engJam (h : Shrinks s a) : Shrinks s a.engJam := by
  rw [Shrinks, State.engJam, areas_askNotice]
  refine shrinks_dropSheets _ ?_
  rw [Shrinks, areas_setSheets]
  exact shrinks_abandon _ h

theorem shrinks_closeDeadline (slot : Nat) (h : Shrinks s a) : Shrinks s (a.closeDeadline slot) := by
  unfold State.closeDeadline
  split
  · split
    · refine shrinks_completeClose _ _ _ _ ?_
      rw [Shrinks, areas_askNotice, areas_updateJob, areas_orphanSheetsOf]
      split
      · exact shrinks_abandon _ h
      · exact h
    · exact h
  · exact h

/-! ### Lockdown -/

/-- Where every region is freed, the areas left are some of the owned ones. -/
theorem shrinks_of_no_region {t : State} (hr : ∀ i, t.region i = none)
    (ho : t.directive.owned.Sublist s.directive.owned) : Shrinks s t :=
  ⟨fun i r h => by simp [State.areas, hr i] at h, ho⟩

/-- The entries of a table of one value; beyond the table stands the default. -/
theorem tget_replicate {α : Type} [Inhabited α] {n : Nat} (x : α) (i : Nat) (h : n ≤ i → x = default) :
    tget (Vector.replicate n x) i = x := by
  unfold tget
  split
  · exact Vector.getElem_replicate ..
  · exact (h (by omega)).symm

theorem shrinks_freeAllRegions (h : Shrinks s a) : Shrinks s a.freeAllRegions :=
  shrinks_of_no_region (fun _ => tget_replicate _ _ fun _ => rfl) h.2

theorem shrinks_lockClose (j : Option JobRecord) (h : Shrinks s a) : Shrinks s (a.lockClose j) := by
  unfold State.lockClose
  split
  · rw [Shrinks, areas_replyParked]
    unfold State.disownSummary
    split
    · exact shrinks_disown _ _ h
    · exact h
  all_goals exact h

theorem shrinks_freeAllSlots (h : Shrinks s a) : Shrinks s a.freeAllSlots := by
  rw [Shrinks, State.freeAllSlots, areas_setJobs]
  induction tlist a.job.slots generalizing a with
  | nil => exact h
  | cons j l ih => exact ih (shrinks_lockClose j h)

theorem shrinks_enterBlocks (e : CauseEvent) (h : Shrinks s a) : Shrinks s (a.enterBlocks e) := by
  refine shrinks_meterEntry (shrinks_freeAllSlots (shrinks_freeAllRegions ?_))
  rw [Shrinks, areas_eraseKeys, areas_orphanAllSheets]
  exact shrinks_abandon _ (h.keep (by simp))

theorem shrinks_takeCause (e : CauseEvent) (h : Shrinks s a) : Shrinks s (a.takeCause e) := by
  unfold State.takeCause
  split
  · exact h.keep (by simp)
  · rw [Shrinks, areas_answerWaiting]
    exact shrinks_enterBlocks e h

theorem shrinks_keyFaultReport (h : Shrinks s a) : Shrinks s a.keyFaultReport := by
  unfold State.keyFaultReport
  split
  · exact shrinks_takeCause _ (h.keep (by simp))
  · exact h

/-! ### The directive unit -/

theorem shrinks_replyWriteDone (h : Shrinks s a) : Shrinks s a.replyWriteDone := by
  unfold State.replyWriteDone
  split
  · rw [Shrinks, areas_afterReply]
    exact shrinks_disown _ _ (h.keep (by simp))
  all_goals exact h

theorem shrinks_summaryWriteDone (h : Shrinks s a) : Shrinks s a.summaryWriteDone := by
  unfold State.summaryWriteDone
  split
  · exact shrinks_disown _ _ (h.keep (by simp))
  all_goals exact h

end Sys2Proof.Machine
end

section
/-! The laws of the region table and of the owned-area list (R6, R31) under every step. -/

namespace Sys2Proof.Machine

/-! ### Tables and the searches over them -/

/-- The entries of a table are those at its indices. -/
theorem mem_tlist {α : Type} [Inhabited α] {n : Nat} {v : Vector α n} {x : α} :
    x ∈ tlist v ↔ ∃ i < n, tget v i = x := by
  simp only [tlist, Array.mem_toList_iff, Vector.mem_toArray_iff, Vector.mem_iff_getElem]
  constructor
  · rintro ⟨i, hi, rfl⟩
    exact ⟨i, hi, dif_pos hi⟩
  · rintro ⟨i, hi, rfl⟩
    exact ⟨i, hi, (dif_pos hi).symm⟩

/-- A bound region is an entry of the table. -/
theorem mem_regions {s : State} {i : Nat} {r : Region} (h : s.region i = some r) :
    some r ∈ tlist s.transaction.regions :=
  mem_tlist.mpr ⟨i, lt_of_region s h, h⟩

theorem overlaps_comm (b l b' l' : Nat) : overlaps b l b' l' = overlaps b' l' b l := Bool.and_comm _ _

theorem overlaps_of_overlapsRegion {s : State} {b l i : Nat} {r : Region} (h : s.overlapsRegion b l = false)
    (hr : s.region i = some r) : overlaps b l r.base r.length = false :=
  Bool.not_eq_true _ ▸ List.any_eq_false.mp h _ (mem_regions hr)

theorem overlapsRegion_eq_false {s : State} {b l : Nat}
    (h : ∀ i r, s.region i = some r → overlaps b l r.base r.length = false) : s.overlapsRegion b l = false := by
  refine List.any_eq_false.mpr fun e he => ?_
  obtain ⟨i, _, rfl⟩ := mem_tlist.mp he
  cases hr : (tget s.transaction.regions i : Option Region) with
  | none => simp
  | some r => simp [h i r hr]

theorem overlaps_of_overlapsOwned {s : State} {b l : Nat} {x : OwnedArea} (h : s.overlapsOwned b l = false)
    (hx : x ∈ s.directive.owned) : overlaps b l x.base x.length = false :=
  Bool.not_eq_true _ ▸ List.any_eq_false.mp h _ hx

theorem segment_ne_of_segmentTaken {s : State} {slot segment i : Nat} {r : Region}
    (h : s.segmentTaken slot segment = false) (hr : s.region i = some r) (hs : r.slot = slot) :
    r.segment ≠ segment := by
  intro he
  have := List.any_eq_false.mp h _ (mem_regions hr)
  simp [hs, he] at this

/-- The list of the region table's entries is in the order of their indices. -/
theorem getElem_regions {s : State} {k : Nat} (hk : k < (tlist s.transaction.regions).length) :
    (tlist s.transaction.regions)[k] = s.region k := by
  simp only [tlist, Array.length_toList, Vector.size_toArray] at hk
  simp [tlist, State.region, tget, hk]

/-- The search for the region that holds an address (R12). -/
theorem regionOf_eq (s : State) (x : Nat) :
    s.regionOf x =
      ((tlist s.transaction.regions).findIdx? fun e => e.any fun r => r.holds x).bind fun i =>
        (s.region i).map fun r => (i, r) := by
  have search : ∀ p : Option Region → Bool, (∀ e, p e = e.any fun r => r.holds x) →
      (match (tlist s.transaction.regions).findIdx? p with
        | some i => (s.region i).map fun r => (i, r)
        | none => none) =
      ((tlist s.transaction.regions).findIdx? fun e => e.any fun r => r.holds x).bind fun i =>
        (s.region i).map fun r => (i, r) := by
    intro p hp
    rw [funext hp]
    cases (tlist s.transaction.regions).findIdx? fun e => e.any fun r => r.holds x <;> rfl
  exact search _ fun e => by cases e <;> rfl

/-- The region an address lies in is the lowest-numbered one that holds it (R12). -/
theorem regionOf_eq_some_iff {s : State} {x i : Nat} {r : Region} :
    s.regionOf x = some (i, r) ↔
      s.region i = some r ∧ r.holds x = true ∧ ∀ k < i, ∀ q, s.region k = some q → q.holds x = false := by
  rw [regionOf_eq]
  constructor
  · intro h
    obtain ⟨k, found, bound⟩ := Option.bind_eq_some_iff.mp h
    obtain ⟨q, hq, same⟩ := Option.map_eq_some_iff.mp bound
    cases same
    obtain ⟨inside, held, first⟩ := List.findIdx?_eq_some_iff_getElem.mp found
    rw [getElem_regions inside, hq] at held
    refine ⟨hq, held, fun m hm p hp => ?_⟩
    have missed := first m hm
    rw [getElem_regions (hm.trans inside), hp] at missed
    simpa using missed
  · rintro ⟨bound, held, first⟩
    have inside : i < (tlist s.transaction.regions).length := by
      simpa [tlist] using lt_of_region s bound
    have found : (tlist s.transaction.regions).findIdx? (fun e => e.any fun r => r.holds x) = some i := by
      have here : ((tlist s.transaction.regions)[i]).any (fun r => r.holds x) = true := by
        rw [getElem_regions inside, bound]
        exact held
      refine List.findIdx?_eq_some_iff_getElem.mpr ⟨inside, here, fun m hm => ?_⟩
      rw [getElem_regions (hm.trans inside)]
      cases hp : s.region m with
      | none => simp
      | some p => simp [first m hm p hp]
    simp [found, bound]

/-- An address in a bound region lies in one (R12). -/
theorem regionOf_isSome {s : State} {x i : Nat} {r : Region} (hr : s.region i = some r) (hx : r.holds x = true) :
    (s.regionOf x).isSome = true := by
  classical
  have held : ∃ k, ∃ q, s.region k = some q ∧ q.holds x = true := ⟨i, r, hr, hx⟩
  obtain ⟨q, bound, holds⟩ := Nat.find_spec held
  have found : s.regionOf x = some (Nat.find held, q) :=
    regionOf_eq_some_iff.mpr
      ⟨bound, holds, fun k hk p hp => Bool.eq_false_iff.mpr fun h => Nat.find_min held hk ⟨p, hp, h⟩⟩
  rw [found]
  rfl

/-! ### The laws under an operation -/

theorem Shrinks.areasLawful {s t : State} (h : Shrinks s t) (hs : s.areasLawful) : t.areasLawful := by
  obtain ⟨lawful, apart, owned, separate⟩ := hs
  refine ⟨?_, ?_, owned.sublist h.2, ?_⟩
  · intro i hi r hr
    obtain ⟨q, hq, place⟩ := h.region hr
    have : q.place.lawful := lawful i hi q hq
    rw [place] at this
    exact this
  · intro i hi k hk ne r hr q hq
    obtain ⟨r', hr', place⟩ := h.region hr
    obtain ⟨q', hq', place'⟩ := h.region hq
    have := apart i hi k hk ne r' hr' q' hq'
    obtain ⟨b, l, x, g⟩ := place_eq_iff.mp place
    obtain ⟨b', l', x', g'⟩ := place_eq_iff.mp place'
    rwa [b, l, x, g, b', l', x', g'] at this
  · intro i hi r hr x hx
    obtain ⟨q, hq, place⟩ := h.region hr
    have := separate i hi q hq x (h.2.subset hx)
    obtain ⟨b, l, _⟩ := place_eq_iff.mp place
    rwa [b, l] at this

/-- An area joins the list where it overlaps nothing (R32). -/
theorem areasLawful_own {s : State} {b l : Nat} (x : AreaSource) (hs : s.areasLawful)
    (hr : s.overlapsRegion b l = false) (ho : s.overlapsOwned b l = false) : (s.own b l x).areasLawful := by
  obtain ⟨lawful, apart, owned, separate⟩ := hs
  refine ⟨lawful, apart, ?_, ?_⟩
  · refine List.pairwise_append.mpr ⟨owned, List.pairwise_singleton _ _, ?_⟩
    intro y hy z hz
    rw [List.mem_singleton.mp hz, overlaps_comm]
    exact overlaps_of_overlapsOwned ho hy
  · intro i hi r bound y hy
    rcases List.mem_append.mp hy with old | new
    · exact separate i hi r bound y old
    · rw [List.mem_singleton.mp new, overlaps_comm]
      exact overlaps_of_overlapsRegion hr bound

/-- A region is bound where it overlaps nothing and its segment number is not taken (R6). -/
theorem areasLawful_setRegion {s : State} {i : Nat} {r : Region} (hi : i < 64) (hs : s.areasLawful) (hl : r.lawful)
    (hg : s.segmentTaken r.slot r.segment = false) (hr : s.overlapsRegion r.base r.length = false)
    (ho : s.overlapsOwned r.base r.length = false) : (s.setRegion i (some r)).areasLawful := by
  obtain ⟨lawful, apart, owned, separate⟩ := hs
  have entry : ∀ {k q}, q ∈ (s.setRegion i (some r)).region k → k = i ∧ q = r ∨ k ≠ i ∧ s.region k = some q := by
    intro k q hq
    rw [region_setRegion s i k _ hi] at hq
    by_cases hk : k = i
    · rw [if_pos hk] at hq
      exact .inl ⟨hk, (Option.some.inj hq).symm⟩
    · rw [if_neg hk] at hq
      exact .inr ⟨hk, hq⟩
  refine ⟨?_, ?_, owned, ?_⟩
  · intro k hk q hq
    rcases entry hq with ⟨_, rfl⟩ | ⟨_, old⟩
    · exact hl
    · exact lawful k hk q old
  · intro k hk m hm ne p hp q hq
    rcases entry hp with ⟨rfl, rfl⟩ | ⟨_, old⟩
    · rcases entry hq with ⟨rfl, _⟩ | ⟨_, old'⟩
      · exact absurd rfl ne
      · exact ⟨overlaps_of_overlapsRegion hr old',
          fun slot => (segment_ne_of_segmentTaken hg old' slot.symm).symm⟩
    · rcases entry hq with ⟨rfl, rfl⟩ | ⟨_, old'⟩
      · rw [overlaps_comm]
        exact ⟨overlaps_of_overlapsRegion hr old, fun slot => segment_ne_of_segmentTaken hg old slot⟩
      · exact apart k hk m hm ne p old q old'
  · intro k hk q hq x hx
    rcases entry hq with ⟨_, rfl⟩ | ⟨_, old⟩
    · exact overlaps_of_overlapsOwned ho hx
    · exact separate k hk q old x hx

/-! ### The subordinate port -/

/-- The region that a treatment names is the one the address lies in (R12, R20). -/
theorem regionOf_of_treatment {s : State} {q : Role} {d : Direction} {x i : Nat} {r : Region} {y : Treatment}
    (h : s.treatment q d x = (y, some (i, r))) : s.regionOf x = some (i, r) := by
  unfold State.treatment at h
  split at h
  · exact congrArg Prod.snd h
  · split at h
    · cases h
    · split at h <;> (cases h; assumption)

/-- The grant table answers no transaction PASS (R69). -/
theorem grant_ne_pass (k : JobKind) (p : JobState) (g : RegionKind) (q : Role) (d : Direction) (b : Bool) :
    grant k p g q d b ≠ .pass := by
  cases d
  · simp only [grant, grantRead]
    (repeat' split) <;> simp
  · simp only [grant, grantWrite]
    (repeat' split) <;> simp

/-- A transaction treated PASS lies in no bound region, or the part is in LOCKDOWN (R11, R20). -/
theorem regionOf_of_pass {s : State} {q : Role} {d : Direction} {x : Nat} {y : Option (Nat × Region)}
    (h : s.treatment q d x = (.pass, y)) : s.lockdown.mode = .lockdown ∨ s.regionOf x = none := by
  unfold State.treatment at h
  split at h
  · rename_i locked
    exact .inl (by simpa [State.locked] using locked)
  · split at h
    · exact .inr ‹_›
    · split at h
      · exact (grant_ne_pass _ _ _ _ _ _ (congrArg Prod.fst h)).elim
      · cases h

/-- The location of a candidate that lies outside all bound regions overlaps none: regions begin and end at multiples of
4 KiB (R5, R23). -/
theorem overlapsRegion_of_regionOf {s : State} {x : Nat} (hs : s.areasLawful) (h : s.regionOf x = none)
    (aligned : x % 64 = 0) : s.overlapsRegion x 64 = false := by
  refine overlapsRegion_eq_false fun i r hr => ?_
  obtain ⟨base, length, _⟩ := hs.1 i (lt_of_region s hr) r hr
  have outside : ¬(r.base ≤ x ∧ x < r.base + r.length) := by
    rintro ⟨low, high⟩
    have held := regionOf_isSome hr (x := x) (by simp [Region.holds, low, high])
    rw [h] at held
    cases held
  simp only [overlaps, Bool.and_eq_false_iff, decide_eq_false_iff_not]
  omega

/-- A CONTROL write treated PASS: the location of a directive that is recognised overlaps nothing (R23). -/
theorem areasLawful_examine {s : State} (t : Transaction) (hs : s.areasLawful)
    (hr : t.address % 64 = 0 → s.overlapsRegion t.address 64 = false) : (s.examine t).areasLawful := by
  unfold State.examine
  split
  · exact hs
  · rename_i placed
    split
    · exact hs
    · split
      · exact Shrinks.areasLawful (.of_eq rfl) hs
      · rename_i free
        split
        · exact Shrinks.areasLawful (.of_eq rfl) hs
        · exact Shrinks.areasLawful (s := s.own t.address 64 .replyLocation) (.of_eq rfl)
            (areasLawful_own _ hs (hr (by omega)) (by simpa using free))

theorem areasLawful_passTransaction {s : State} (t : Transaction) (q : Role) (hs : s.areasLawful)
    (hr : t.address % 64 = 0 → s.overlapsRegion t.address 64 = false) : (s.passTransaction t q).areasLawful := by
  have forwarded : (s.forward t).areasLawful := Shrinks.areasLawful (.of_eq (areas_forward s t)) hs
  unfold State.passTransaction
  split
  · refine areasLawful_examine t forwarded fun aligned => ?_
    have same : (s.forward t).transaction.regions = s.transaction.regions := by
      unfold State.forward
      split <;> rfl
    rw [State.overlapsRegion, same]
    exact hr aligned
  · exact forwarded

theorem areasLawful_takeTransaction {s : State} (t : Transaction) (hs : s.areasLawful) (hl : s.lockdownHoldsNoJob) :
    (s.takeTransaction t).areasLawful := by
  simp only [State.takeTransaction]
  split
  · exact Shrinks.areasLawful (.of_eq rfl) hs
  · split
    · rename_i treated
      refine areasLawful_passTransaction t _ hs fun aligned => ?_
      rcases regionOf_of_pass treated with locked | outside
      · obtain ⟨_, _, regions, _⟩ := hl locked
        refine overlapsRegion_eq_false fun i r hr => ?_
        rw [regions i (lt_of_region s hr)] at hr
        cases hr
      · exact overlapsRegion_of_regionOf hs outside aligned
    · exact Shrinks.areasLawful (.of_eq (areas_forward s t)) hs
    · exact Shrinks.areasLawful (.of_eq rfl) hs
    · rename_i treated
      obtain ⟨_, bound, _⟩ := regionOf_some (regionOf_of_treatment treated)
      exact Shrinks.areasLawful (.of_eq (areas_encipherWrite s t _ bound)) hs
    · exact Shrinks.areasLawful (shrinks_decipheredRead t _ _ _ (shrinks_refl s)) hs
    · exact hs
    · exact hs

/-! ### Directives -/

/-- A directive keeps the laws where its owner does. -/
theorem areasLawful_runDirective {s : State} (name : DirectiveName) {owner : Directive → State → Verdict × State}
    (hs : s.areasLawful) (h : ∀ d, (owner d s).2.areasLawful) : (s.runDirective name owner).areasLawful := by
  unfold State.runDirective
  split
  · split
    · split
      · exact Shrinks.areasLawful (.of_eq rfl) hs
      · exact Shrinks.areasLawful (.of_eq (areas_conclude _ _ _)) (h _)
    · exact hs
  · exact hs

/-- An owner that touches neither the transaction unit nor the directive unit keeps them. -/
theorem areasLawful_of_touches {ps : List Part} {s : State} (name : DirectiveName)
    {owner : Directive → State → Verdict × State} (hs : s.areasLawful)
    (h : ∀ d a, Touches ps s (owner d a).2 ↔ Touches ps s a) (hT : .transaction ∉ ps) (hD : .directive ∉ ps) :
    (s.runDirective name owner).areasLawful :=
  areasLawful_runDirective name hs fun d =>
    Shrinks.areasLawful (.of_eq (areas_of_touches ((h d s).mpr (touches_refl _ s)) hT hD)) hs

theorem areasLawful_ownNote {s : State} (d : Directive) (hs : s.areasLawful) : (ownNote d s).2.areasLawful := by
  unfold ownNote
  split
  · exact hs
  · exact Shrinks.areasLawful (.of_eq (by simp)) hs

/-- The ring's area takes the place of the one before (R35). -/
theorem areasLawful_ownSetNoticeRing {s : State} (d : Directive) (hs : s.areasLawful) :
    (ownSetNoticeRing d s).2.areasLawful := by
  simp only [ownSetNoticeRing]
  split
  · exact hs
  · rename_i passes
    simp only [State.ringRefusal] at passes
    (repeat' split at passes) <;> try cases passes
    rename_i region other
    have others : s.disownRing.overlapsOwned (d.arg setNoticeRingForm 0) (32 * d.arg setNoticeRingForm 1) = false := by
      refine List.any_eq_false.mpr fun x hx => ?_
      obtain ⟨old, source⟩ := List.mem_filter.mp hx
      have apart := List.any_eq_false.mp (Bool.eq_false_iff.mpr other) x old
      simpa [source] using apart
    exact Shrinks.areasLawful (s := s.disownRing.own _ _ .noticeRing) (.of_eq rfl)
      (areasLawful_own _ ((shrinks_disownRing (shrinks_refl s)).areasLawful hs)
        (Bool.eq_false_iff.mpr region) others)

/-- The lowest-numbered FREE entry is in the table (R7). -/
theorem lt_of_lowestFreeRegion {s : State} {i : Nat} (h : s.lowestFreeRegion = some i) : i < 64 := by
  simpa [tlist] using (List.findIdx?_eq_some_iff_getElem.mp h).1

/-- The region that REGION_BIND binds passes the tests of R6. -/
theorem areasLawful_ownRegionBind {s : State} (d : Directive) (hs : s.areasLawful) :
    (ownRegionBind d s).2.areasLawful := by
  simp only [ownRegionBind]
  split
  · exact hs
  · split
    · exact hs
    · rename_i operands
      split
      · exact hs
      · rename_i range
        split
        · exact hs
        · rename_i kind _ _ _ j _
          simp only [State.bindRegion]
          split
          · exact hs
          · exact hs
          · rename_i passes free
            simp only [State.bindRefusal] at passes
            (repeat' split at passes) <;> try cases passes
            rename_i segment region owned
            simp only [badRange, pageSize, addressEnd, Bool.or_eq_true, bne_iff_ne, decide_eq_true_eq] at range
            refine areasLawful_setRegion (lt_of_lowestFreeRegion free) hs ?_ (Bool.eq_false_iff.mpr segment)
              (Bool.eq_false_iff.mpr region) (Bool.eq_false_iff.mpr owned)
            simp only [Region.lawful]
            omega

theorem areasLawful_ownRegionUnbind {s : State} (d : Directive) (hs : s.areasLawful) :
    (ownRegionUnbind d s).2.areasLawful := by
  simp only [ownRegionUnbind]
  (repeat' split) <;> try exact hs
  exact (shrinks_unbind _ (shrinks_refl s)).areasLawful hs

/-- The summary location joins the list where it overlaps nothing; the close may then complete (R53, R55). -/
theorem areasLawful_ownJobClose {s : State} (d : Directive) (hs : s.areasLawful) : (ownJobClose d s).2.areasLawful := by
  simp only [ownJobClose, withNamedJob]
  split
  · exact hs
  · split
    · exact hs
    · rename_i j _ _ passes
      refine Shrinks.areasLawful (shrinks_drainTest _ (shrinks_refl _)) ?_
      unfold State.ownSummary
      split
      · rename_i location given
        rw [given] at passes
        simp only [State.closeRefusal] at passes
        (repeat' split at passes) <;> try cases passes
        rename_i region owned
        exact areasLawful_own _ (Shrinks.areasLawful (.of_eq rfl) hs) (Bool.eq_false_iff.mpr region)
          (Bool.eq_false_iff.mpr owned)
      · exact Shrinks.areasLawful (.of_eq rfl) hs
  · exact hs

/-- An area that passes the overlap tests of R32 overlaps nothing. -/
theorem overlaps_of_overlapRefusal {s : State} {b l : Nat} (h : s.overlapRefusal b l = none) :
    s.overlapsRegion b l = false ∧ s.overlapsOwned b l = false := by
  unfold State.overlapRefusal at h
  (repeat' split at h) <;> try cases h
  rename_i region owned
  exact ⟨by simpa using region, by simpa using owned⟩

theorem areasLawful_ownSnapshot {s : State} (d : Directive) (hs : s.areasLawful) : (ownSnapshot d s).2.areasLawful := by
  simp only [ownSnapshot]
  split
  · exact hs
  · rename_i passes
    simp only [Option.or_eq_none_iff] at passes
    obtain ⟨_, _, overlap⟩ := passes
    obtain ⟨region, owned⟩ := overlaps_of_overlapRefusal overlap
    exact Shrinks.areasLawful (.of_eq (areas_setWork _ _)) (areasLawful_own _ hs region owned)

theorem areasLawful_ownRestore {s : State} (d : Directive) (hs : s.areasLawful) : (ownRestore d s).2.areasLawful := by
  simp only [ownRestore]
  split
  · exact hs
  · rename_i passes
    simp only [Option.or_eq_none_iff] at passes
    obtain ⟨_, _, _, overlap⟩ := passes
    obtain ⟨region, owned⟩ := overlaps_of_overlapRefusal overlap
    exact Shrinks.areasLawful (.of_eq (areas_setWork _ _)) (areasLawful_own _ hs region owned)

/-! ### Every command -/

@[simp] theorem areas_ownSetRoles (s : State) (d : Directive) : (ownSetRoles d s).2.areas = s.areas := by
  simp only [ownSetRoles]
  (repeat' split) <;> rfl

@[simp] theorem areas_ownRecover (s : State) (d : Directive) : (ownRecover d s).2.areas = s.areas := by
  unfold ownRecover
  (repeat' split) <;> rfl

@[simp] theorem areas_ownSetLowMark (s : State) (d : Directive) : (ownSetLowMark d s).2.areas = s.areas := by
  simp only [ownSetLowMark]
  split <;> simp

@[simp] theorem areas_ownSetAttentionMask (s : State) (d : Directive) :
    (ownSetAttentionMask d s).2.areas = s.areas := by
  simp only [ownSetAttentionMask]
  split <;> rfl

@[simp] theorem areas_ownClearAttention (s : State) (d : Directive) : (ownClearAttention d s).2.areas = s.areas := rfl

/-- Reset leaves no region and no owned area (R21, R33). -/
theorem shrinks_resetTo (s : State) (cause : ResetCause) : Shrinks s (s.resetTo cause) :=
  shrinks_of_no_region (fun _ => tget_replicate _ _ fun _ => rfl) (List.nil_sublist _)

/-- A command whose footprint holds neither the transaction unit nor the directive unit leaves the areas. -/
theorem shrinks_of_footprint {c : Instr} {s t : State} (h : exec c s = .next t) (hT : .transaction ∉ footprint c)
    (hD : .directive ∉ footprint c) : Shrinks s t :=
  .of_eq (areas_of_touches (exec_footprint h) hT hD)

/-- Every command keeps the laws of the region table and of the owned-area list. -/
theorem areasLawful_exec {c : Instr} {s t : State} (hs : s.areasLawful) (hl : s.lockdownHoldsNoJob)
    (h : exec c s = .next t) : t.areasLawful := by
  cases c with
  | subordinateTransaction t =>
    simp only [exec, execSubordinateTransaction] at h
    split at h
    · cases h
      exact areasLawful_takeTransaction t hs hl
    · cases h
  | keyFaultReport =>
    cases h
    exact Shrinks.areasLawful (shrinks_keyFaultReport (shrinks_refl s)) hs
  | directiveEntry q =>
    cases h
    exact Shrinks.areasLawful (.of_eq (areas_directiveEntry s q)) hs
  | replyWriteDone =>
    cases h
    exact Shrinks.areasLawful (shrinks_replyWriteDone (shrinks_refl s)) hs
  | summaryWriteDone =>
    cases h
    exact Shrinks.areasLawful (shrinks_summaryWriteDone (shrinks_refl s)) hs
  | noticeWrite =>
    cases h
    exact Shrinks.areasLawful (.of_eq (areas_takeNotice s)) hs
  | status =>
    cases h
    exact areasLawful_of_touches (ps := []) _ hs (fun d _ => touches_ownStatus d) (by decide) (by decide)
  | note =>
    cases h
    exact areasLawful_runDirective _ hs fun d => areasLawful_ownNote d hs
  | setNoticeRing =>
    cases h
    exact areasLawful_runDirective _ hs fun d => areasLawful_ownSetNoticeRing d hs
  | setAttentionMask =>
    cases h
    exact areasLawful_runDirective _ hs fun d => Shrinks.areasLawful (.of_eq (areas_ownSetAttentionMask s d)) hs
  | clearAttention =>
    cases h
    exact areasLawful_runDirective _ hs fun d => Shrinks.areasLawful (.of_eq (areas_ownClearAttention s d)) hs
  | setRoles =>
    cases h
    exact areasLawful_runDirective _ hs fun d => Shrinks.areasLawful (.of_eq (areas_ownSetRoles s d)) hs
  | lockdown =>
    cases h
    exact Shrinks.areasLawful (.of_eq (areas_afterLockdown _ s))
      (areasLawful_runDirective _ hs fun d => (shrinks_enterBlocks _ (shrinks_refl s)).areasLawful hs)
  | recover =>
    cases h
    exact areasLawful_runDirective _ hs fun d => Shrinks.areasLawful (.of_eq (areas_ownRecover s d)) hs
  | regionBind =>
    cases h
    exact areasLawful_runDirective _ hs fun d => areasLawful_ownRegionBind d hs
  | regionUnbind =>
    cases h
    exact areasLawful_runDirective _ hs fun d => areasLawful_ownRegionUnbind d hs
  | regionRead =>
    cases h
    exact areasLawful_of_touches (ps := []) _ hs (fun d _ => touches_ownRegionRead d) (by decide) (by decide)
  | jobOpen =>
    cases h
    exact areasLawful_of_touches (ps := [.cipher, .job]) _ hs (fun d _ => touches_ownJobOpen d (by decide) (by decide))
      (by decide) (by decide)
  | jobHold =>
    cases h
    exact areasLawful_of_touches (ps := [.job]) _ hs (fun d _ => touches_ownJobHold d (by decide))
      (by decide) (by decide)
  | jobRelease =>
    cases h
    exact areasLawful_of_touches (ps := [.job]) _ hs (fun d _ => touches_ownJobRelease d (by decide))
      (by decide) (by decide)
  | jobClose =>
    cases h
    exact areasLawful_runDirective _ hs fun d => areasLawful_ownJobClose d hs
  | jobRead =>
    cases h
    exact areasLawful_of_touches (ps := []) _ hs (fun d _ => touches_ownJobRead d) (by decide) (by decide)
  | closeDeadline slot =>
    cases h
    exact Shrinks.areasLawful (shrinks_closeDeadline slot (shrinks_refl s)) hs
  | accountSet =>
    cases h
    exact areasLawful_of_touches (ps := [.account]) _ hs (fun d _ => touches_ownAccountSet d (by decide))
      (by decide) (by decide)
  | accountAdjust =>
    cases h
    exact areasLawful_of_touches (ps := [.account]) _ hs (fun d _ => touches_ownAccountAdjust d (by decide))
      (by decide) (by decide)
  | accountSuspend =>
    cases h
    exact areasLawful_of_touches (ps := [.account]) _ hs (fun d _ => touches_ownAccountSuspend d (by decide))
      (by decide) (by decide)
  | accountResume =>
    cases h
    exact areasLawful_of_touches (ps := [.account]) _ hs (fun d _ => touches_ownAccountResume d (by decide))
      (by decide) (by decide)
  | accountRead =>
    cases h
    exact areasLawful_of_touches (ps := []) _ hs (fun d _ => touches_ownAccountRead d) (by decide) (by decide)
  | accountClear =>
    cases h
    exact areasLawful_of_touches (ps := [.account]) _ hs (fun d _ => touches_ownAccountClear d (by decide))
      (by decide) (by decide)
  | periodClose =>
    cases h
    exact areasLawful_of_touches (ps := [.account]) _ hs (fun d _ => touches_ownPeriodClose d (by decide))
      (by decide) (by decide)
  | setTariff =>
    cases h
    exact areasLawful_of_touches (ps := [.charging]) _ hs (fun d _ => touches_ownSetTariff d (by decide))
      (by decide) (by decide)
  | sheetsRead =>
    cases h
    exact areasLawful_of_touches (ps := []) _ hs (fun d _ => touches_ownSheetsRead d) (by decide) (by decide)
  | consumableRead =>
    cases h
    exact areasLawful_of_touches (ps := []) _ hs (fun d _ => touches_ownConsumableRead d) (by decide) (by decide)
  | checkNow =>
    cases h
    exact areasLawful_of_touches (ps := [.consumable, .link]) _ hs (fun d _ => touches_ownCheckNow d (by decide) (by decide))
      (by decide) (by decide)
  | setLowMark =>
    cases h
    exact areasLawful_runDirective _ hs fun d => Shrinks.areasLawful (.of_eq (areas_ownSetLowMark s d)) hs
  | setSchedule =>
    cases h
    exact areasLawful_of_touches (ps := [.consumable]) _ hs (fun d _ => touches_ownSetSchedule d (by decide))
      (by decide) (by decide)
  | snapshot =>
    cases h
    exact areasLawful_runDirective _ hs fun d => areasLawful_ownSnapshot d hs
  | snapshotImageCopy => exact (shrinks_of_footprint h (by simp [footprint]) (by simp [footprint])).areasLawful hs
  | snapshotCompositionEnd => exact (shrinks_of_footprint h (by simp [footprint]) (by simp [footprint])).areasLawful hs
  | restore =>
    cases h
    exact areasLawful_runDirective _ hs fun d => areasLawful_ownRestore d hs
  | restoreReadEnd =>
    cases h
    exact Shrinks.areasLawful (shrinks_restoreReadEnd (shrinks_refl s)) hs
  | meterRead =>
    cases h
    exact areasLawful_of_touches (ps := []) _ hs (fun d _ => touches_ownMeterRead d) (by decide) (by decide)
  | engSheet =>
    cases h
    exact Shrinks.areasLawful (shrinks_engSheet (shrinks_refl s)) hs
  | engJam =>
    cases h
    exact Shrinks.areasLawful (shrinks_engJam (shrinks_refl s)) hs
  | scnPage =>
    cases h
    exact Shrinks.areasLawful (.of_eq (areas_scnPage s)) hs
  | presenceLineChange p l => exact (shrinks_of_footprint h (by simp [footprint]) (by simp [footprint])).areasLawful hs
  | presenceRise p =>
    cases h
    exact Shrinks.areasLawful (.of_eq (areas_presenceRise s p)) hs
  | presenceFall p =>
    cases h
    exact Shrinks.areasLawful (.of_eq (areas_presenceFall s p)) hs
  | epochBoundary => exact (shrinks_of_footprint h (by simp [footprint]) (by simp [footprint])).areasLawful hs
  | linkEntryStart => exact (shrinks_of_footprint h (by simp [footprint]) (by simp [footprint])).areasLawful hs
  | requestFrameSent => exact (shrinks_of_footprint h (by simp [footprint]) (by simp [footprint])).areasLawful hs
  | replyFrame bs b =>
    cases h
    split
    · exact hs
    · exact Shrinks.areasLawful (.of_eq (areas_replyFrame s bs b)) hs
  | replyTimeout =>
    cases h
    exact Shrinks.areasLawful (.of_eq (areas_replyTimeout s)) hs
  | quietEnd => exact (shrinks_of_footprint h (by simp [footprint]) (by simp [footprint])).areasLawful hs
  | pwrWarn =>
    cases h
    exact Shrinks.areasLawful (.of_eq (areas_pwrWarn s)) hs
  | bankComplete =>
    cases h
    exact Shrinks.areasLawful (shrinks_bankComplete (shrinks_refl s)) hs
  | tamperFall =>
    cases h
    split
    · exact Shrinks.areasLawful (shrinks_takeCause _ ((shrinks_refl s).keep (areas_setTamper s false))) hs
    · exact hs
  | tamperRise => exact (shrinks_of_footprint h (by simp [footprint]) (by simp [footprint])).areasLawful hs
  | powerOn =>
    cases h
    exact Shrinks.areasLawful (shrinks_resetTo _ _) hs
  | resetN =>
    cases h
    exact Shrinks.areasLawful (shrinks_resetTo _ _) hs
  | restoreAreaRead n => exact (shrinks_of_footprint h (by simp [footprint]) (by simp [footprint])).areasLawful hs
  | pwrWarnRelease => exact (shrinks_of_footprint h (by simp [footprint]) (by simp [footprint])).areasLawful hs

/-- Settles O57: a command at the front of the queue keeps the laws, and so does the clock, which leaves the areas. -/
theorem regionsAndOwnedAreasNeverOverlap : Obligations.RegionsAndOwnedAreasNeverOverlap := by
  intro s t hs hl h
  unfold step at h
  split at h
  · rename_i c rest _
    exact areasLawful_exec (s := { s with pending := rest }) hs hl h
  · cases h
    unfold State.tick
    split <;> exact hs

end Sys2Proof.Machine
end

section
/-! Transactions by the treatment selected for them (R1, R2, R11, R12, R20), and the statements that follow. -/

namespace Sys2Proof.Machine

/-! ### The treatment selected -/

/-- What the port can carry (R1). -/
theorem transaction_wellFormed_iff (t : Transaction) :
    t.wellFormed = true ↔
      t.requester < 16 ∧ t.address < 2 ^ 40 ∧ t.address % 16 = 0 ∧ 1 ≤ t.beats ∧ t.beats ≤ 16 ∧
        t.data.length = if t.direction = .read then 0 else 16 * t.beats :=
  Laws.WellFormedness.subordinateTransaction t

/-- A transaction that the port can carry is taken (R1). -/
theorem exec_transaction {t : Transaction} (s : State) (h : t.wellFormed = true) :
    exec (.subordinateTransaction t) s = .next (s.takeTransaction t) := by
  simp [exec, execSubordinateTransaction, h]

/-- The treatment of a transaction (R1, R12). -/
def State.treatmentOf (s : State) (t : Transaction) : Treatment × Option (Nat × Region) :=
  s.treatment (s.roleOf t) t.direction t.address

section Treated

variable {s : State} {t : Transaction}

theorem exec_pass {y : Option (Nat × Region)} (h : passesPort t) (ht : s.treatmentOf t = (.pass, y)) :
    exec (.subordinateTransaction t) s = .next (s.passTransaction t (s.roleOf t)) := by
  obtain ⟨formed, whole⟩ := h
  simp only [State.treatmentOf, State.roleOf] at ht ⊢
  simp [exec_transaction s formed, State.takeTransaction, whole, ht]

theorem exec_refused {y : Option (Nat × Region)} {reason : AccessReason} (h : passesPort t)
    (ht : s.treatmentOf t = (.refused reason, y)) :
    exec (.subordinateTransaction t) s = .next (s.refuseAccess t (s.roleOf t) reason (y.map Prod.fst)) := by
  obtain ⟨formed, whole⟩ := h
  simp only [State.treatmentOf, State.roleOf] at ht ⊢
  simp [exec_transaction s formed, State.takeTransaction, whole, ht]

theorem exec_enciphered {i : Nat} {r : Region} (h : passesPort t)
    (ht : s.treatmentOf t = (.enciphered, some (i, r))) :
    exec (.subordinateTransaction t) s = .next (s.encipherWrite t (s.roleOf t) i r) := by
  obtain ⟨formed, whole⟩ := h
  simp only [State.treatmentOf, State.roleOf] at ht ⊢
  simp [exec_transaction s formed, State.takeTransaction, whole, ht]

/-- A read answered DECIPHERED that is not a VIDEO read of a PAGE region is not seen by the band parser (R15). -/
theorem exec_deciphered {i : Nat} {r : Region} (h : passesPort t)
    (ht : s.treatmentOf t = (.deciphered, some (i, r))) (hv : ¬(s.roleOf t = .video ∧ r.kind = .page)) :
    exec (.subordinateTransaction t) s = .next (s.decipherRead t (s.roleOf t) i r) := by
  obtain ⟨formed, whole⟩ := h
  have unparsed : s.decipheredRead t (s.roleOf t) i r = s.decipherRead t (s.roleOf t) i r := by
    unfold State.decipheredRead
    split
    · rename_i role body
      exact absurd ⟨role, by simp [Region.kind, body]⟩ hv
    · rfl
  rw [← unparsed]
  simp only [State.treatmentOf, State.roleOf] at ht ⊢
  simp [exec_transaction s formed, State.takeTransaction, whole, ht]

theorem treatment_outside (normal : s.lockdown.mode = .normal) (h : s.outside t) :
    s.treatmentOf t = (outsideTreatment (s.roleOf t) t.direction, none) := by
  simp [State.treatmentOf, State.treatment, State.locked, normal, regionOf_eq_none h]

theorem treatment_locked (locked : s.lockdown.mode = .lockdown) (h : s.outside t) :
    s.treatmentOf t = (lockedTreatment (s.roleOf t), none) := by
  simp [State.treatmentOf, State.treatment, State.locked, locked, regionOf_eq_none h]

theorem treatment_inRegion {i : Nat} {r : Region} {j : JobRecord} (h : s.inRegion t i r j) :
    s.treatmentOf t = (grant j.kind j.phase.state r.kind (s.roleOf t) t.direction j.scanStop, some (i, r)) := by
  obtain ⟨normal, region, job⟩ := h
  simp [State.treatmentOf, State.treatment, State.locked, normal, region, job]

/-- In LOCKDOWN every transaction lies outside all regions, since none is bound (R20, R168). -/
theorem outside_of_locked (locked : s.lockdown.mode = .lockdown) (h : s.lockdownHoldsNoJob) : s.outside t := by
  intro i r bound
  obtain ⟨_, _, none, _⟩ := h locked
  rw [none i (lt_of_region s bound)] at bound
  cases bound

end Treated

/-! ### SPLIT (R2) -/

/-- All bytes of a transaction that stays in its page lie in a region that begins and ends at pages, or none does. -/
theorem holds_of_same_page {t : Transaction} {r : Region} (h : t.wellFormed = true)
    (page : t.address / 4096 = (t.address + 16 * t.beats - 1) / 4096) (base : r.base % 4096 = 0)
    (length : r.length % 4096 = 0) {a : Nat} (low : t.address ≤ a) (high : a < t.address + 16 * t.beats) :
    r.holds a = r.holds t.address := by
  obtain ⟨_, _, _, beats, _⟩ := (transaction_wellFormed_iff t).mp h
  have sameLow : decide (r.base ≤ a) = decide (r.base ≤ t.address) := decide_eq_decide.mpr (by omega)
  have sameHigh : decide (a < r.base + r.length) = decide (t.address < r.base + r.length) :=
    decide_eq_decide.mpr (by omega)
  simp only [Region.holds, sameLow, sameHigh]

/-- Settles O3: the SPLIT test is the first that a transaction meets. -/
theorem transactionAcrossAPageIsRefused : Obligations.TransactionAcrossAPageIsRefused := by
  refine ⟨fun t s formed across => ?_, fun t r formed page base length a low high =>
    holds_of_same_page formed page base length low high⟩
  refine ⟨_, exec_transaction s formed, ?_⟩
  rw [State.takeTransaction, if_pos (splitsPage_iff.mpr across)]
  exact refuseAccess_refuses .split none

/-- Settles O4, by the table of R11. -/
theorem outsideRegionsAllButScanWritesAndVideoReadsPass :
    Obligations.OutsideRegionsAllButScanWritesAndVideoReadsPass := by
  intro t s port normal outside canonical
  have treated := treatment_outside normal outside
  split
  · rename_i refused
    have noRegion : outsideTreatment (s.roleOf t) t.direction = .refused .noRegion := by
      rcases refused with ⟨role, direction⟩ | ⟨role, direction⟩ <;> rw [role, direction] <;> rfl
    rw [noRegion] at treated
    exact ⟨_, exec_refused port treated, refuseAccess_refuses .noRegion none⟩
  · rename_i others
    have passed : outsideTreatment (s.roleOf t) t.direction = .pass := by
      cases role : s.roleOf t <;> cases direction : t.direction <;> simp_all [outsideTreatment]
    rw [passed] at treated
    exact ⟨_, exec_pass port treated, passTransaction_passes canonical⟩

/-- Settles O5, by the table of R20. -/
theorem inLockdownTheRoleAloneDecides : Obligations.InLockdownTheRoleAloneDecides := by
  intro t s port locked noJob canonical
  have treated := treatment_locked locked (outside_of_locked (t := t) locked noJob)
  split
  · rename_i refused
    have lockdown : lockedTreatment (s.roleOf t) = .refused .lockdown := by
      rcases refused with role | role | role <;> rw [role] <;> rfl
    rw [lockdown] at treated
    exact ⟨_, exec_refused port treated, refuseAccess_refuses .lockdown none⟩
  · rename_i others
    have passed : lockedTreatment (s.roleOf t) = .pass := by
      cases role : s.roleOf t <;> simp_all [lockedTreatment]
    rw [passed] at treated
    exact ⟨_, exec_pass port treated, passTransaction_passes canonical⟩

/-! ### Reads answered DECIPHERED (R12, R66) -/

/-- A deciphered read under a key that passes its check. -/
theorem decipherRead_of_holdsKey {s : State} {t : Transaction} {i : Nat} {r : Region} {key : JobKey} (role : Role)
    (h : s.holdsKey r.slot key) :
    s.decipherRead t role i r = s.respond t.requester true (s.plainBytes t r key) := by
  simp [State.decipherRead, checkedKey_of_holdsKey h]

/-- A read that the grant table answers DECIPHERED and the band parser does not see, under a key that passes its
check. -/
theorem exec_decipherRead {s : State} {t : Transaction} {i : Nat} {r : Region} {j : JobRecord} {key : JobKey}
    (port : passesPort t) (read : t.direction = .read) (inside : s.inRegion t i r j)
    (grants : readsDeciphered j.kind j.phase.state r.kind (s.roleOf t) = true)
    (unparsed : ¬(s.roleOf t = .video ∧ r.kind = .page)) (holds : s.holdsKey r.slot key) :
    exec (.subordinateTransaction t) s = .next (s.respond t.requester true (s.plainBytes t r key)) := by
  have treated := treatment_inRegion inside
  simp only [read, grant, grantRead, grants, if_true] at treated
  rw [exec_deciphered port treated unparsed, decipherRead_of_holdsKey _ holds]

/-- Settles O8. -/
theorem decipheredReadReturnsTheDecipheredBeats : Obligations.DecipheredReadReturnsTheDecipheredBeats := by
  intro t s i r j key port read inside grants unparsed holds
  refine ⟨_, exec_decipherRead port read inside grants unparsed holds, rfl, ?_⟩
  apply Touches.changesOnly
  simp

end Sys2Proof.Machine
end

section
/-! What is written enciphered and what is read back (R18, R66). -/

namespace Sys2Proof.Machine

/-! ### The region an address lies in -/

/-- A region that takes another body still holds what it held: an address lies in it as before. -/
theorem regionOf_of_setRegion {s t : State} {x i : Nat} {r r' : Region} (h : s.regionOf x = some (i, r))
    (hp : r'.place = r.place) (ht : ∀ k, t.region k = if k = i then some r' else s.region k) :
    t.regionOf x = some (i, r') := by
  obtain ⟨bound, held, first⟩ := regionOf_eq_some_iff.mp h
  obtain ⟨base, length, _⟩ := place_eq_iff.mp hp
  refine regionOf_eq_some_iff.mpr ⟨by rw [ht, if_pos rfl], ?_, fun k hk q hq => ?_⟩
  · rw [← held, Region.holds, Region.holds, base, length]
  · rw [ht, if_neg (Nat.ne_of_lt hk)] at hq
    exact first k hk q hq

/-! ### Writes answered ENCIPHERED -/

/-- An enciphered write under a key that passes its check stores the ciphertext, is answered OKAY, and counts a SCAN
write (R12, R13, R16). -/
theorem encipherWrite_of_holdsKey {s : State} {t : Transaction} {i : Nat} {r : Region} {key : JobKey} (role : Role)
    (h : s.holdsKey r.slot key) :
    s.encipherWrite t role i r =
      if role = .scan then
        ((s.store t.address (encipherBeats key r.segment (r.beatOffset t.address) t.beats t.data)).respond t.requester
          true []).countScanWrite i r t.beats
      else
        (s.store t.address (encipherBeats key r.segment (r.beatOffset t.address) t.beats t.data)).respond t.requester
          true [] := by
  simp [State.encipherWrite, checkedKey_of_holdsKey h]

/-- A write that the grant table answers ENCIPHERED. -/
theorem exec_encipherWrite {s : State} {t : Transaction} {i : Nat} {r : Region} {j : JobRecord}
    (port : passesPort t) (write : t.direction = .write) (inside : s.inRegion t i r j)
    (grants : grantWrite j.phase.state r.kind (s.roleOf t) j.scanStop = .enciphered) :
    exec (.subordinateTransaction t) s = .next (s.encipherWrite t (s.roleOf t) i r) := by
  have treated := treatment_inRegion inside
  simp only [write, grant, grants] at treated
  exact exec_enciphered port treated

section Enciphered

variable {s : State} {w : Transaction} {i : Nat} {r : Region} {key : JobKey} {role : Role}

theorem encipherWrite_memory (h : s.holdsKey r.slot key) :
    (s.encipherWrite w role i r).memory =
      Memory.writeBytes s.memory w.address (encipherBeats key r.segment (r.beatOffset w.address) w.beats w.data) := by
  rw [encipherWrite_of_holdsKey role h]
  split <;> rfl

/-- An enciphered write leaves every part but the transaction unit and page memory. -/
theorem touches_encipherWrite_of_holdsKey (h : s.holdsKey r.slot key) :
    Touches [.transaction, .memory] s (s.encipherWrite w role i r) := by
  rw [encipherWrite_of_holdsKey role h]
  split <;> simp

theorem encipherWrite_roles (h : s.holdsKey r.slot key) :
    (s.encipherWrite w role i r).transaction.roles = s.transaction.roles := by
  rw [encipherWrite_of_holdsKey role h]
  split <;> rfl

/-- The region that an enciphered write lies in, after it (R13). -/
def Region.afterWrite (r : Region) (role : Role) (beats : Nat) : Region :=
  if role = .scan then { r with body := r.body.countBeats beats } else r

theorem afterWrite_place (beats : Nat) : (r.afterWrite role beats).place = r.place := by
  unfold Region.afterWrite
  split <;> rfl

theorem afterWrite_kind (beats : Nat) : (r.afterWrite role beats).kind = r.kind := by
  unfold Region.afterWrite
  split
  · simp only [Region.kind]
    cases r.body <;> rfl
  · rfl

theorem encipherWrite_region (h : s.holdsKey r.slot key) (bound : s.region i = some r) (k : Nat) :
    (s.encipherWrite w role i r).region k = if k = i then some (r.afterWrite role w.beats) else s.region k := by
  rw [encipherWrite_of_holdsKey role h, Region.afterWrite]
  split
  · exact region_setRegion s i k _ (lt_of_region s bound)
  · split
    · rename_i same
      rw [same]
      exact bound
    · rfl

/-- After an enciphered write a transaction at the same address lies in the region written to, with its key. -/
theorem inRegion_encipherWrite {q : Transaction} {j : JobRecord} (h : s.holdsKey r.slot key)
    (inside : s.inRegion w i r j) (same : q.address = w.address) :
    (s.encipherWrite w role i r).inRegion q i (r.afterWrite role w.beats) j := by
  obtain ⟨normal, region, job⟩ := inside
  have touched := touches_encipherWrite_of_holdsKey (w := w) (i := i) (role := role) h
  have lockdown : (s.encipherWrite w role i r).lockdown = s.lockdown := touched .lockdown (by simp)
  have jobs : (s.encipherWrite w role i r).job = s.job := touched .job (by simp)
  obtain ⟨bound, _, _⟩ := regionOf_eq_some_iff.mp region
  have place := afterWrite_place (r := r) (role := role) w.beats
  obtain ⟨_, _, slot, _⟩ := place_eq_iff.mp place
  refine ⟨by rw [lockdown, normal], ?_, ?_⟩
  · rw [same]
    exact regionOf_of_setRegion region place (encipherWrite_region h bound)
  · rw [slot, State.jobAt, jobs]
    exact job

end Enciphered

/-- The plaintext of a write is what a deciphered read of its beats gives back. -/
theorem plainBytes_encipherWrite {s : State} {w q : Transaction} {i : Nat} {r : Region} {key : JobKey} (role : Role)
    (h : s.holdsKey r.slot key) (canonical : s.memoryCanonical) (address : q.address = w.address)
    (beats : q.beats = w.beats) (length : w.data.length = 16 * w.beats) :
    (s.encipherWrite w role i r).plainBytes q (r.afterWrite role w.beats) key = w.data := by
  obtain ⟨base, _, _, segment⟩ := place_eq_iff.mp (afterWrite_place (r := r) (role := role) w.beats)
  have back := Memory.readBytes_writeBytes (a := w.address)
    (bs := encipherBeats key r.segment (r.beatOffset w.address) w.beats w.data) canonical
  rw [length_encipherBeats] at back
  rw [State.plainBytes, State.bytesAt, encipherWrite_memory h, address, beats, back, Region.beatOffset, segment, base]
  exact decipher_encipher key _ _ _ _ length

/-! ### Beats of ciphertext -/

/-- Beat number `k` of an enciphered write is stored enciphered under the beat's own tweak (R66). -/
theorem readBytes_encipherWrite {s : State} {w : Transaction} {i : Nat} {r : Region} {key : JobKey} (role : Role)
    (h : s.holdsKey r.slot key) (canonical : s.memoryCanonical) {k : Nat} (hk : k < w.beats) :
    Memory.readBytes (s.encipherWrite w role i r).memory (w.address + 16 * k) 16 =
      bytesOfBeat
        (Config.cipher key { segment := r.segment, beat := (w.address - r.base) / 16 + k } (beatAt w.data k)) := by
  have back := Memory.readBytes_writeBytes (a := w.address)
    (bs := encipherBeats key r.segment (r.beatOffset w.address) w.beats w.data) canonical
  rw [length_encipherBeats] at back
  rw [encipherWrite_memory h, Memory.readBytes_part _ _ (l := 16 * w.beats) (by omega), back]
  exact flatMap_beat _ (fun _ => length_bytesOfBeat _) _ _ hk

theorem bytesOfBeat_injective : Function.Injective bytesOfBeat :=
  Function.LeftInverse.injective beatOfBytes_bytesOfBeat

/-- A beat of a transaction in a region has an offset of 24 bits (R5, R66). -/
theorem beatOffset_lt {t : Transaction} {r : Region} {k : Nat} (port : passesPort t) (lawful : r.lawful)
    (held : r.holds t.address = true) (hk : k < t.beats) : (t.address - r.base) / 16 + k < 2 ^ 24 := by
  obtain ⟨formed, whole⟩ := port
  obtain ⟨base, length, _, short, _⟩ := lawful
  have page : t.address / 4096 = (t.address + 16 * t.beats - 1) / 4096 := by
    by_contra across
    rw [splitsPage_iff.mpr across] at whole
    cases whole
  have inside := (holds_of_same_page formed page base length (a := t.address + 16 * k) (by omega) (by omega)).trans held
  simp only [Region.holds, Bool.and_eq_true, decide_eq_true_eq] at inside held
  omega

/-- Settles O10: the read turns the enciphering back; and equal ciphertexts of one plaintext have one key and one tweak,
by the law of the cipher. -/
theorem plaintextWrittenIsReadBack : Obligations.PlaintextWrittenIsReadBack := by
  constructor
  · intro w q s i r j key portW portQ write read address beats inside grantsW grantsQ unparsed holds canonical
    have length : w.data.length = 16 * w.beats := by
      obtain ⟨_, _, _, _, _, length⟩ := (transaction_wellFormed_iff w).mp portW.1
      simpa [write] using length
    obtain ⟨_, _, slot, _⟩ := place_eq_iff.mp (afterWrite_place (r := r) (role := s.roleOf w) w.beats)
    have kind := afterWrite_kind (r := r) (role := s.roleOf w) w.beats
    have role : (s.encipherWrite w (s.roleOf w) i r).roleOf q = s.roleOf q := by
      rw [State.roleOf, encipherWrite_roles holds, State.roleOf]
    have keys : (s.encipherWrite w (s.roleOf w) i r).cipher = s.cipher :=
      touches_encipherWrite_of_holdsKey holds .cipher (by simp)
    have holdsAfter : (s.encipherWrite w (s.roleOf w) i r).holdsKey (r.afterWrite (s.roleOf w) w.beats).slot key := by
      rw [State.holdsKey, keys, slot]
      exact holds
    refine ⟨_, _, exec_encipherWrite portW write inside grantsW,
      exec_decipherRead portQ read (inRegion_encipherWrite holds inside address) (by rw [kind, role]; exact grantsQ)
        (by rw [kind, role]; exact unparsed) holdsAfter, ?_⟩
    rw [respond_response, plainBytes_encipherWrite _ holds canonical address beats length]
  · intro w w' s i i' r r' j j' key key' k k' first second canonical hk hk' plain differs
    obtain ⟨port, write, inside, grants, holds, lawful, draw⟩ := first
    obtain ⟨port', write', inside', grants', holds', lawful', draw'⟩ := second
    refine ⟨_, _, exec_encipherWrite port write inside grants, exec_encipherWrite port' write' inside' grants', ?_⟩
    rw [readBytes_encipherWrite _ holds canonical hk, readBytes_encipherWrite _ holds' canonical hk']
    intro same
    have beat : beatAt w.data k = beatAt w'.data k' := congrArg beatOfBytes plain
    rw [beat] at same
    obtain ⟨_, held, _⟩ := regionOf_eq_some_iff.mp inside.2.1
    obtain ⟨_, held', _⟩ := regionOf_eq_some_iff.mp inside'.2.1
    have offset := beatOffset_lt port lawful held hk
    have offset' := beatOffset_lt port' lawful' held' hk'
    obtain ⟨_, _, _, _, _, _, segment⟩ := lawful
    obtain ⟨_, _, _, _, _, _, segment'⟩ := lawful'
    obtain ⟨oneKey, oneTweak⟩ := cipher_separates draw draw' segment segment' offset offset'
      (bytesOfBeat_injective same)
    rw [Tweak.mk.injEq] at oneTweak
    rcases differs with otherKey | otherSegment | otherBeat
    · exact otherKey oneKey
    · exact otherSegment oneTweak.1
    · exact otherBeat oneTweak.2

end Sys2Proof.Machine
end

section
/-! Transactions whose key fails its check (R14, R65), with the restart that a VIDEO read at offset 0 makes (R80). -/

namespace Sys2Proof.Machine

/-! ### The key check -/

/-- A key that passes the check is held with its own check (R65). -/
theorem checkedKey_eq_none {s : State} {slot : Nat} (h : s.failsKeyCheck slot) : s.checkedKey slot = none := by
  unfold State.checkedKey
  split
  · rename_i e present
    have fails : s.keyPasses slot = false := by
      rw [State.keyPasses, present]
      refine Bool.eq_false_iff.mpr fun passes => h e.key ?_
      have check : e.check = { derivedFrom := e.key } := by simpa using passes
      rw [State.holdsKey, present, ← check]
    simp [fails]
  · rfl

/-- What a transaction refused for a key fault does (R14, R65). -/
theorem keyFault_refuses (s : State) (t : Transaction) (i : Nat) (r : Region) :
    s.refusesKeyFault (s.keyFault t (s.roleOf t) i r) t i r := by
  refine ⟨rfl, rfl, rfl, ?_⟩
  apply Touches.changesOnly
  simp

/-! ### Roles and keys under an abandonment -/

section Restart

variable (s : State)

theorem setFraming_roles (i : Nat) (f : Framing) (c : Nat) :
    (s.setFraming i f c).transaction.roles = s.transaction.roles := by
  unfold State.setFraming
  split <;> rfl

theorem frameAbandoned_roles (i : Nat) (c : AbandonCause) :
    (s.frameAbandoned i c).transaction.roles = s.transaction.roles := by
  have broken : (s.breakRegion i).transaction.roles = s.transaction.roles := by
    unfold State.breakRegion
    split
    · exact setFraming_roles ..
    · rfl
  cases c
  case restart => exact setFraming_roles ..
  case newSideSameRegion | closeTimeout | lockdown => rfl
  all_goals exact broken

theorem completeClose_roles (slot : Nat) (reason : CloseReason) (x y : Nat) :
    (s.completeClose slot reason x y).transaction.roles = s.transaction.roles := by
  unfold State.completeClose
  split
  · split
    · unfold State.handSummary
      split <;> rfl
    all_goals rfl
  · rfl

theorem drainTest_roles (slot : Nat) : (s.drainTest slot).transaction.roles = s.transaction.roles := by
  unfold State.drainTest
  split
  · split
    · exact completeClose_roles ..
    · rfl
  · rfl

theorem abandonSide_roles (o : OpenSide) (c : AbandonCause) :
    (s.abandonSide o c).transaction.roles = s.transaction.roles := by
  have left : Touches [.directive, .consumable, .link, .account, .charging, .job] s
      ((((s.handBand (s.currentPlane o.region) o.bandDots).releaseSide o).abandonSheet o.sheet o.kind).updateJob o.slot
        JobRecord.abandonSide) := by simp
  rw [State.abandonSide, askNotice_transaction, frameAbandoned_roles]
  exact congrArg TransactionUnit.roles (left .transaction (by simp))

/-- An abandonment leaves the role table (R3, R92). -/
theorem abandon_roles (c : AbandonCause) : (s.abandon c).transaction.roles = s.transaction.roles := by
  unfold State.abandon
  split
  · split
    · rw [drainTest_roles, abandonSide_roles]
    · exact abandonSide_roles ..
  · rfl

variable {s}

/-- The completion of a close draws no key: it erases that of its slot (R56, R67). -/
theorem failsKeyCheck_completeClose {k : Nat} (slot : Nat) (reason : CloseReason) (x y : Nat)
    (h : s.failsKeyCheck k) : (s.completeClose slot reason x y).failsKeyCheck k := by
  unfold State.completeClose
  split
  · split
    · rename_i j _ _ c _
      intro key held
      have keys : (s.handSummary c (j.summarise slot reason x y s.now)).cipher = s.cipher :=
        (touches_handSummary (ps := [.directive]) c _ (by simp)).mpr (touches_refl _ s) .cipher (by simp)
      have entry : tget (tset s.cipher.keys slot none) k = some ({ key := key, check := { derivedFrom := key } }) := by
        rw [← keys]
        exact held
      by_cases same : k = slot
      · subst same
        by_cases inside : k < 32
        · rw [tget_tset_same _ _ inside] at entry
          cases entry
        · rw [tset_beyond _ _ (by omega)] at entry
          exact h key entry
      · rw [tget_tset_other _ _ same] at entry
        exact h key entry
    all_goals exact h
  · exact h

theorem failsKeyCheck_drainTest {k : Nat} (slot : Nat) (h : s.failsKeyCheck k) : (s.drainTest slot).failsKeyCheck k := by
  unfold State.drainTest
  split
  · split
    · exact failsKeyCheck_completeClose _ _ _ _ h
    · exact h
  · exact h

/-- What leaves the cipher unit leaves the key checks. -/
theorem failsKeyCheck_of_touches {ps : List Part} {t : State} {k : Nat} (touched : Touches ps s t)
    (hC : .cipher ∉ ps) (h : s.failsKeyCheck k) : t.failsKeyCheck k := by
  intro key
  have same : t.cipher = s.cipher := touched .cipher hC
  rw [State.holdsKey, same]
  exact h key

theorem failsKeyCheck_abandon {k : Nat} (c : AbandonCause) (h : s.failsKeyCheck k) : (s.abandon c).failsKeyCheck k := by
  have left : ∀ o, (s.abandonSide o c).failsKeyCheck k := fun o =>
    failsKeyCheck_of_touches
      (ps := [.transaction, .directive, .job, .parser, .charging, .account, .consumable, .link]) (by simp) (by simp) h
  unfold State.abandon
  split
  · split
    · exact failsKeyCheck_drainTest _ (left _)
    · exact left _
  · exact h

theorem restarted_roles (s : State) (i : Nat) : (s.restarted i).transaction.roles = s.transaction.roles := by
  rw [State.restarted, setFraming_roles]
  split
  · exact abandon_roles ..
  · rfl

theorem failsKeyCheck_restarted {i k : Nat} (h : s.failsKeyCheck k) : (s.restarted i).failsKeyCheck k := by
  refine failsKeyCheck_of_touches (ps := [.transaction])
    ((touches_setFraming i .atHeader 0 (by simp)).mpr (touches_refl _ _)) (by simp) ?_
  split
  · exact failsKeyCheck_abandon .restart h
  · exact h

end Restart

/-! ### VIDEO reads of PAGE regions -/

/-- A read that R79 lets through is refused by none of its tests; one at offset 0 passes them all. -/
theorem placementRefusal_of_lets {f : Framing} {offset beats cursor : Nat}
    (h : offset = 0 ∨ f.lets offset beats cursor) : placementRefusal f cursor offset beats = none := by
  unfold placementRefusal
  split
  · rfl
  · rename_i away
    have lets := h.resolve_left away
    cases f with
    | broken => exact lets.elim
    | atHeader =>
      obtain ⟨place, beats⟩ := lets
      simp [place, beats]
    | inPayload remaining plane =>
      obtain ⟨place, whole⟩ := lets
      simp only [place, ne_eq, not_true, if_false, if_neg (place ▸ whole)]

/-- A VIDEO read at offset 0 restarts its region and no other does (R80). -/
theorem restartFraming_eq (s : State) (t : Transaction) {i : Nat} {r : Region} (held : r.base ≤ t.address) :
    s.restartFraming (videoReadOf t i r) = if t.address = r.base then s.restarted i else s := by
  unfold State.restartFraming
  by_cases start : t.address = r.base
  · rw [if_pos start, if_pos (by simp [videoReadOf, start])]
    rfl
  · rw [if_neg start, if_neg (by simp only [videoReadOf]; omega)]

/-- Settles O11: without a key that passes its check, each of the three uses of the key ends in a key fault. -/
theorem failedKeyCheckRefusesTheTransaction : Obligations.FailedKeyCheckRefusesTheTransaction := by
  constructor
  · intro t s i r j port inside fails needs
    have treated := treatment_inRegion inside
    rcases needs with write | ⟨read, unparsed⟩
    · rw [write] at treated
      refine ⟨_, exec_enciphered port treated, ?_⟩
      rw [State.encipherWrite, checkedKey_eq_none fails]
      exact keyFault_refuses s t i r
    · rw [read] at treated
      refine ⟨_, exec_deciphered port treated unparsed, ?_⟩
      rw [State.decipherRead, checkedKey_eq_none fails]
      exact keyFault_refuses s t i r
  · intro t s i r j f cursor reads fails lets
    obtain ⟨_, _, role, inside, _⟩ := id reads
    obtain ⟨_, held, _⟩ := regionOf_eq_some_iff.mp inside.2.1
    simp only [Region.holds, Bool.and_eq_true, decide_eq_true_eq] at held
    have passes : placementRefusal f cursor (t.address - r.base) t.beats = none :=
      placementRefusal_of_lets (lets.imp_left fun start => by omega)
    refine ⟨_, exec_readsPage reads, ?_⟩
    rw [videoRead_eq_parseVideo passes, State.parseVideo, restartFraming_eq s t held.1]
    have video : (if t.address = r.base then s.restarted i else s).roleOf t = .video := by
      split
      · rw [State.roleOf, restarted_roles]
        exact role
      · exact role
    have failsAfter : (if t.address = r.base then s.restarted i else s).failsKeyCheck r.slot := by
      split
      · exact failsKeyCheck_restarted fails
      · exact fails
    simp only [checkedKey_eq_none failsAfter]
    rw [← video]
    exact keyFault_refuses _ t i r

end Sys2Proof.Machine
end

section
/-! Reset (R21, R33, R61, R63, R85, R94, R111, R112, R143, R144, R156, R157, R172), and scan pages (R106, R107). -/

namespace Sys2Proof.Machine

/-! ### Reset -/

theorem reset_region (i : Nat) : State.reset.region i = none := tget_replicate _ _ fun _ => rfl
theorem not_mem_reset_region {i : Nat} {r : Region} : r ∉ State.reset.region i := by simp [reset_region]
theorem reset_jobAt (slot : Nat) : State.reset.jobAt slot = none := tget_replicate _ _ fun _ => rfl
theorem reset_key (slot : Nat) : (tget State.reset.cipher.keys slot : Option KeyEntry) = none :=
  tget_replicate _ _ fun _ => rfl
theorem reset_tariff (c : Nat) : State.reset.tariff c = { mono := 0, colour := 0, scan := 0 } :=
  tget_replicate _ _ fun _ => rfl
theorem reset_accountAt {i : Nat} (h : i < 2048) : State.reset.accountAt i = .unused 0 :=
  tget_replicate _ _ fun beyond => absurd h (by omega)

/-- The default role table (R3). -/
theorem defaultRoles_eq {n : Nat} (h : n < 16) : (tget defaultRoles n : Role) = if n = 0 then .control else .other := by
  have all : ∀ n < 16, (tget defaultRoles n : Role) = if n = 0 then .control else .other := by decide
  exact all n h

/-- The consumable unit's tables at reset (R128, R143). -/
theorem consumable_atReset (u : ConsumableUnit) {p : Nat} (h : p < 5) :
    (tget u.atReset.records p : Consumable) = .atReset (tget u.presence p).level ∧
      tget u.atReset.presence p = (tget u.presence p).atReset ∧
      tget u.atReset.schedule p = { interval := 3600, pending := none } :=
  ⟨tget_tmap _ _ h, tget_tmap _ _ h, tget_replicate _ _ fun beyond => absurd h (by omega)⟩

/-- Settles O53, unit by unit. -/
theorem resetGivesEveryUnitItsResetValues : Obligations.ResetGivesEveryUnitItsResetValues := by
  intro s
  refine ⟨s.resetTo .powerOn, s.resetTo .resetLine, rfl, rfl, rfl, rfl, rfl, rfl, rfl, fun n hn => defaultRoles_eq hn,
    reset_region, rfl, reset_key, rfl, rfl, reset_jobAt, rfl, rfl, reset_tariff, fun i hi => reset_accountAt hi, rfl, rfl,
    fun p hp => ?_, rfl, rfl, rfl⟩
  obtain ⟨record, presence, schedule⟩ := consumable_atReset s.consumable hp
  refine ⟨record.trans ?_, presence, schedule⟩
  unfold Consumable.atReset
  split <;> rfl

theorem reset_accountLawful {i : Nat} (h : i < 2048) : State.reset.accountLawful i := by
  rw [State.accountLawful, reset_accountAt h]
  simp [Account.unused, State.reset]

/-- The ledger of the part after reset: no sheet, no job, no account in use (R94, R112, R114). -/
theorem reset_ledgerBalanced : State.reset.ledgerBalanced := by
  refine ⟨fun i hi => reset_accountLawful hi, ⟨List.nodup_nil, ?_, ?_⟩, ?_, ?_, fun _ i hi => reset_accountAt hi⟩
  · intro h mem
    exact absurd mem List.not_mem_nil
  · intro h mem
    exact absurd mem List.not_mem_nil
  · intro slot _ j mem
    rw [reset_jobAt] at mem
    cases mem
  · intro c _
    rw [reset_tariff]

/-- Settles O54: every table is empty and every total 0. -/
theorem resetStateMeetsEveryLaw : Obligations.ResetStateMeetsEveryLaw := by
  refine ⟨rfl, ⟨?_, ?_, ?_, ?_⟩, ?_, ⟨?_, ?_, List.Pairwise.nil, ?_⟩, ?_, ⟨?_, ?_, ?_⟩, ⟨?_, rfl⟩, reset_ledgerBalanced⟩
  · intro slot _
    rw [reset_key, reset_jobAt]
    rfl
  · exact fun i _ r bound => absurd bound not_mem_reset_region
  · intro slot mem
    cases mem
  · intro a _ b _ _ j mem
    rw [reset_jobAt] at mem
    cases mem
  · intro locked
    cases locked
  · exact fun i _ r bound => absurd bound not_mem_reset_region
  · exact fun i _ k _ _ r bound => absurd bound not_mem_reset_region
  · exact fun i _ r bound => absurd bound not_mem_reset_region
  · refine ⟨by decide, by decide, by decide, List.nodup_nil, fun e mem => absurd mem List.not_mem_nil⟩
  · exact ⟨le_rfl, le_rfl, le_rfl, le_rfl⟩
  · exact ⟨Nat.zero_le _, Nat.zero_le _, Nat.zero_le _, Nat.zero_le _⟩
  · intro b running
    cases running
  · intro b running
    cases running

/-! ### Scan pages -/

/-- An account after an attributed scan page of a cost (R107). -/
def Account.scanned (a : Account) (cost : Nat) : Account :=
  if a.mode = .unmetered then a.countScan
  else if a.canTake cost then { a.countScan with balance := a.balance - cost }
  else { a with unpaid := satAdd top32 a.unpaid 1 }

/-- Whether an attributed scan page is paid, or counted only (R107). -/
def Account.pays (a : Account) (cost : Nat) : Bool := decide (a.mode = .unmetered) || a.canTake cost

/-- All the decision of an attributed scan page does (R107). -/
theorem decideScan_eq (s : State) (i cost : Nat) :
    s.decideScan i cost = (s.chargeAccount i fun a => a.scanned cost, (s.accountAt i).pays cost) := by
  have charge : ∀ f : Account → Account, f (s.accountAt i) = (s.accountAt i).scanned cost →
      s.chargeAccount i f = s.chargeAccount i fun a => a.scanned cost := by
    intro f same
    simp only [State.chargeAccount, State.updateAccount, same]
  unfold State.decideScan
  split
  · rename_i unmetered
    rw [charge _ (by simp [Account.scanned, unmetered])]
    simp [Account.pays, unmetered]
  · rename_i metered
    split
    · rename_i takes
      rw [charge _ (by simp [Account.scanned, metered, takes])]
      simp [Account.pays, takes]
    · rename_i lacks
      rw [charge _ (by simp [Account.scanned, metered, lacks])]
      simp [Account.pays, metered, lacks]

/-- A page is paid where the account is UNMETERED, the cost is 0, or the floor allows it (R107, R114, R116). -/
theorem pays_iff (a : Account) (cost : Nat) :
    a.pays cost = true ↔
      a.mode = .unmetered ∨ cost = 0 ∨
        (if a.mode = .credit then -(a.creditLimit : Int) else 0) ≤ a.balance - a.reserved - cost := by
  cases mode : a.mode <;>
    simp [Account.pays, Account.canTake, Account.floor, floorOf, atOrAbove, Account.free, mode]

/-- All an attributed scan page does (R106, R107). -/
theorem scnPage_attributed {s : State} {slot : Nat} {j : JobRecord} (record : s.transaction.lastScanWrite = some slot)
    (job : s.jobAt slot = some j) :
    let a := s.accountAt j.account
    let cost := (s.tariff j.tariff).scan
    let u := s.scnPage
    u.transaction = { s.transaction with lastScanWrite := none } ∧
      u.meter = { s.meter with working := { s.meter.working with scans := raiseTotal s.meter.working.scans } } ∧
      u.account =
        { s.account with accounts := tset s.account.accounts j.account (a.scanned cost), pristine := false } ∧
      u.job.slots = tset s.job.slots slot (some (j.countScan (a.pays cost))) ∧
      u.directive =
        s.directive.asked
          (if a.pays cost = true then []
           else
            [noticeOf .scanUnpaid
              [u8 slot, u16 j.number, u16 j.account, u16 cost, i32 a.balance, u32 a.reserved]]) := by
  intro a cost u
  have page : u =
      let counted := ((s.takeScanRecord.chargeAccount j.account fun a => a.scanned cost).updateJob slot
        (JobRecord.countScan (a.pays cost))).countScan
      if a.pays cost = true then counted
      else
        counted.askNotice .scanUnpaid
          [u8 slot, u16 j.number, u16 j.account, u16 cost, i32 a.balance, u32 a.reserved] := by
    simp only [u, State.scnPage, record, job, Option.bind_some, Option.map_some, State.chargeScan, decideScan_eq]
    rfl
  have slots : tset s.job.slots slot ((s.jobAt slot).map (JobRecord.countScan (a.pays cost))) =
      tset s.job.slots slot (some (j.countScan (a.pays cost))) := by rw [job]; rfl
  rw [page]
  dsimp only
  split
  · exact ⟨rfl, rfl, rfl, slots, by rw [DirectiveUnit.asked, List.append_nil]; rfl⟩
  · exact ⟨rfl, rfl, rfl, slots, rfl⟩

/-- Settles O40. -/
theorem scanPageIsChargedToItsJob : Obligations.ScanPageIsChargedToItsJob := by
  constructor
  · intro s absent
    have page : s.scnPage = s.takeScanRecord.countScan.askNotice .scanUnattributed [] := by
      simp [State.scnPage, absent]
    have kept : s.takeScanRecord = s := by
      rw [State.takeScanRecord, ← absent]
      rfl
    rw [kept] at page
    refine ⟨_, rfl, ?_⟩
    rw [page]
    refine ⟨rfl, rfl, rfl, ?_⟩
    apply Touches.changesOnly
    simp
  · intro s slot j record job _
    refine ⟨_, rfl, ?_⟩
    dsimp only
    simp only [← pays_iff]
    obtain ⟨transaction, meter, account, slots, directive⟩ := scnPage_attributed record job
    refine ⟨transaction, congrArg MeterUnit.working meter, meter.trans (by rw [meter]), account.trans ?_, slots.trans ?_,
      directive, ?_⟩
    · rw [Account.scanned]
      cases mode : (s.accountAt j.account).mode <;> simp [Account.pays, mode, Account.countScan, satAdd]
    · cases (s.accountAt j.account).pays (s.tariff j.tariff).scan <;> simp [JobRecord.countScan, satAdd]
    · apply Touches.changesOnly
      simp

end Sys2Proof.Machine
end

section
/-! Directives of the transaction unit and directives that only read, from what their owners answer (R4, R6, R8, R9). -/

namespace Sys2Proof.Machine

/-! ### What an owner answers -/

/-- A directive of no account, answered by its owner in NORMAL mode: the reply is handed over, and of the other parts
only those that the owner touches change (R25, R27). -/
theorem runDirective_answers {ps : List Part} {s u : State} {name : DirectiveName} {d : Directive} {a : Answer}
    {owner : Directive → State → Verdict × State} (h : s.takes name d) (ho : owner d s = (.answer a, u))
    (hd : u.directive = s.directive) (touched : Touches ps s u)
    (hc : ¬(DirectiveName.accountSet.code ≤ name.code ∧ name.code ≤ DirectiveName.accountClear.code)) :
    s.answers (s.runDirective name owner) d a 0 ps := by
  rw [runDirective_takes owner h, ho]
  exact finish_answers_after (replyGeneration_eq_zero h.1 hc) hd touched

/-- An owner that answers and changes nothing. -/
theorem runDirective_answers_only {s : State} {name : DirectiveName} {d : Directive} {a : Answer}
    {owner : Directive → State → Verdict × State} (h : s.takes name d) (ho : owner d s = (.answer a, s))
    (hc : ¬(DirectiveName.accountSet.code ≤ name.code ∧ name.code ≤ DirectiveName.accountClear.code)) :
    s.answers (s.runDirective name owner) d a 0 [] :=
  runDirective_answers h ho rfl (touches_refl _ s) hc

/-! ### Regions by index -/

/-- The two kinds of a region by code, with the starting fields of each (R5, R7, 13.3). -/
theorem regionKind_of_code {k : Nat} (h : ¬1 < k) :
    ∃ g, ofCode? RegionKind.all k = some g ∧ (decide (k = RegionKind.scan.code) = true ↔ g = .scan) ∧
      RegionBody.start g = if decide (k = RegionKind.scan.code) = true then .scan 0 else .page .atHeader 0 := by
  match k with
  | 0 => exact ⟨.scan, rfl, by decide, rfl⟩
  | 1 => exact ⟨.page, rfl, by decide, rfl⟩
  | _ + 2 => omega

/-- A code above 1 is no region kind (13.3). -/
theorem ofCode_regionKind_eq_none {k : Nat} (h : 1 < k) : ofCode? RegionKind.all k = none := by
  simp only [ofCode?, RegionKind.all, List.getElem?_eq_none_iff, List.length_cons, List.length_nil]
  omega

/-- The region kinds that a job kind may not bind (R6). -/
theorem binds_eq_false_iff {k : JobKind} {g : RegionKind} :
    k.binds g = false ↔ (g = .scan ∧ (k = .print ∨ k = .heldPrint)) ∨ (g = .page ∧ k = .scanSend) := by
  cases k <;> cases g <;> simp [JobKind.binds]

theorem lowestFreeRegion_eq_none {s : State} (h : ∀ i < 64, s.region i ≠ none) : s.lowestFreeRegion = none := by
  refine List.findIdx?_eq_none_iff.mpr fun e he => ?_
  obtain ⟨i, hi, rfl⟩ := mem_tlist.mp he
  exact Option.isNone_eq_false_iff.mpr (Option.isSome_iff_ne_none.mpr (h i hi))

theorem lowestFreeRegion_eq_some {s : State} {i : Nat} (hi : i < 64) (free : s.region i = none)
    (first : ∀ k < i, s.region k ≠ none) : s.lowestFreeRegion = some i := by
  have inside : i < (tlist s.transaction.regions).length := by simpa [tlist] using hi
  refine List.findIdx?_eq_some_iff_getElem.mpr ⟨inside, by rw [getElem_regions inside, free]; rfl, fun k hk => ?_⟩
  rw [getElem_regions (hk.trans inside)]
  simpa using first k hk

theorem openSideIn_isSome_iff {s : State} {i : Nat} :
    (s.openSideIn i).isSome = true ↔ ∃ o, s.parser.openSide = some o ∧ o.region = i := by
  unfold State.openSideIn
  cases s.parser.openSide with
  | none => simp
  | some o => by_cases h : o.region = i <;> simp [h]

/-- A region entry as the region table's directives give it is R9's, value by value. -/
theorem regionView_eq (s : State) (i : Nat) : s.regionView i = s.regionValues i := by
  have open? : u8 (s.openSideIn i).isSome.toNat = flag8 (s.parser.openSide.map OpenSide.region == some i) := by
    unfold State.openSideIn
    cases s.parser.openSide with
    | none => rfl
    | some o =>
      by_cases h : o.region = i
      · simp [h, u8, flag8]
      · simp [h, u8, flag8, beq_false_of_ne h]
  unfold State.regionView State.regionValues
  cases bound : s.region i with
  | none => rfl
  | some r =>
    cases body : r.body with
    | scan beats => simp only [State.bodyView, body, Region.kind]; rfl
    | page f cursor =>
      cases f <;> simp only [State.bodyView, body, Region.kind, ← open?] <;> rfl

/-! ### REGION_BIND and REGION_UNBIND -/

theorem badRange_iff {base length : Nat} :
    badRange base length = true ↔
      base % 4096 ≠ 0 ∨ length % 4096 ≠ 0 ∨ length < 4096 ∨ 268435456 < length ∨ 2 ^ 40 < base + length := by
  simp [badRange, pageSize, addressEnd, or_assoc]

/-- The region that a REGION_BIND directive describes (R6, R7). -/
def Directive.boundRegion (d : Directive) (kind : RegionKind) : Region :=
  { base := d.arg regionBindForm 2, length := d.arg regionBindForm 3, slot := d.arg regionBindForm 0
    segment := d.arg regionBindForm 1, body := .start kind }

theorem boundRegion_kind (d : Directive) (kind : RegionKind) : (d.boundRegion kind).kind = kind := by
  cases kind <;> rfl

/-- Test 2 of R6. -/
theorem ownRegionBind_badOperand {s : State} {d : Directive}
    (h : 31 < d.arg regionBindForm 0 ∨ 15 < d.arg regionBindForm 1 ∨ 1 < d.arg regionBindForm 4) :
    ownRegionBind d s = (.answer (.refuse .refusedRange .badOperand), s) := by
  simp only [ownRegionBind]
  split
  · rfl
  · rename_i kind code
    have known : ¬1 < d.arg regionBindForm 4 := fun above => by
      rw [ofCode_regionKind_eq_none above] at code
      cases code
    rw [if_pos (by omega)]

/-- The tests 3 and 4 of R6, for operands in range. -/
theorem ownRegionBind_eq {s : State} {d : Directive} {kind : RegionKind}
    (code : ofCode? RegionKind.all (d.arg regionBindForm 4) = some kind)
    (h : ¬(31 < d.arg regionBindForm 0 ∨ 15 < d.arg regionBindForm 1)) :
    ownRegionBind d s =
      if badRange (d.arg regionBindForm 2) (d.arg regionBindForm 3) = true then
        (.answer (.refuse .refusedRange .badRange), s)
      else
        match s.bindingJob (d.arg regionBindForm 0) with
        | none => (.answer (.refuse .refusedState .jobState), s)
        | some j => s.bindRegion j (d.boundRegion kind) := by
  simp only [ownRegionBind, code]
  rw [if_neg h]
  rfl

theorem bindRegion_refused {s : State} {j : JobRecord} {r : Region} {a : Answer} (h : s.bindRefusal j r = some a) :
    s.bindRegion j r = (.answer a, s) := by
  rw [State.bindRegion, h]

theorem bindRegion_tableFull {s : State} {j : JobRecord} {r : Region} (h : s.bindRefusal j r = none)
    (full : s.lowestFreeRegion = none) : s.bindRegion j r = (.answer (.refuse .noRoom .tableFull), s) := by
  rw [State.bindRegion, h, full]

theorem bindRegion_bound {s : State} {j : JobRecord} {r : Region} {i : Nat} (h : s.bindRefusal j r = none)
    (free : s.lowestFreeRegion = some i) : s.bindRegion j r = (.answer (.done [u8 i]), s.setRegion i (some r)) := by
  rw [State.bindRegion, h, free]

/-- The tests 5 to 9 of R6 on the region that a REGION_BIND directive describes. -/
theorem bindRefusal_boundRegion (s : State) (j : JobRecord) (d : Directive) (g : RegionKind) :
    s.bindRefusal j (d.boundRegion g) =
      if (g = .scan ∧ (j.kind = .print ∨ j.kind = .heldPrint)) ∨ (g = .page ∧ j.kind = .scanSend) then
        some (.refuse .refusedRange .kind)
      else if 16 ≤ s.regionsOfSlot (d.arg regionBindForm 0) then some (.refuse .noRoom .jobRegions)
      else if s.segmentTaken (d.arg regionBindForm 0) (d.arg regionBindForm 1) = true then
        some (.refuse .duplicate .segment)
      else if s.overlapsRegion (d.arg regionBindForm 2) (d.arg regionBindForm 3) = true then
        some (.refuse .refusedRange .overlapRegion)
      else if s.overlapsOwned (d.arg regionBindForm 2) (d.arg regionBindForm 3) = true then
        some (.refuse .refusedRange .overlapOwned)
      else none := by
  simp only [State.bindRefusal, boundRegion_kind, Bool.not_eq_true', binds_eq_false_iff]
  rfl

/-- Settles O20, by the tests of R6 and of R8 in order. -/
theorem regionIsBoundAndUnbound : Obligations.RegionIsBoundAndUnbound := by
  constructor
  · intro s d takes
    refine ⟨_, rfl, ?_⟩
    have refused : ∀ o x, ownRegionBind d s = (.answer (.refuse o x), s) →
        s.refuses (s.runDirective .regionBind ownRegionBind) d o x 0 :=
      fun o x ho => runDirective_answers_only takes ho (by decide)
    intro slot segment base length kind scan
    split
    · exact refused _ _ (ownRegionBind_badOperand ‹_›)
    · rename_i operands
      obtain ⟨g, code, isScan, start⟩ := regionKind_of_code (k := d.arg regionBindForm 4) (by omega)
      have owner := ownRegionBind_eq (s := s) code (by omega)
      split
      · rename_i range
        rw [if_pos (badRange_iff.mpr range)] at owner
        exact refused _ _ owner
      · rename_i range
        rw [if_neg (badRange_iff.not.mpr range), State.bindingJob] at owner
        split
        · rename_i job
          rw [job] at owner
          exact refused _ _ owner
        · rename_i j job
          rw [job] at owner
          simp only at owner
          split
          · rename_i closing
            rw [if_pos closing] at owner
            exact refused _ _ owner
          · rename_i live
            rw [if_neg live] at owner
            simp only at owner
            have kinds : g = .page ↔ decide (d.arg regionBindForm 4 = RegionKind.scan.code) = false := by
              rw [← Bool.not_eq_true, isScan]
              cases g <;> simp
            have tests := bindRefusal_boundRegion s j d g
            simp only [← isScan, kinds] at tests
            rw [← show RegionBody.start g = if scan = true then .scan 0 else .page .atHeader 0 from start]
            split_ifs at tests ⊢
            iterate 5 exact refused _ _ (owner.trans (bindRegion_refused tests))
            refine ⟨fun full => refused _ _ ?tableFull, fun i hi free first => ?_⟩
            case tableFull => exact owner.trans (bindRegion_tableFull tests (lowestFreeRegion_eq_none full))
            have bound := owner.trans (bindRegion_bound tests (lowestFreeRegion_eq_some hi free first))
            refine ⟨runDirective_answers takes bound rfl (by simp) (by decide), ?_⟩
            show (s.runDirective .regionBind ownRegionBind).transaction = _
            rw [runDirective_takes _ takes, bound]
            rfl
  · intro s d takes
    refine ⟨_, rfl, ?_⟩
    intro i
    have refused : ∀ o x, ownRegionUnbind d s = (.answer (.refuse o x), s) →
        s.refuses (s.runDirective .regionUnbind ownRegionUnbind) d o x 0 :=
      fun o x ho => runDirective_answers_only takes ho (by decide)
    split
    · rename_i beyond
      exact refused _ _ (by simp only [ownRegionUnbind]; rw [if_pos beyond])
    · rename_i inside
      split
      · rename_i free
        refine refused _ _ ?_
        simp only [ownRegionUnbind]
        rw [if_neg inside, if_pos (by rw [Option.isNone_iff_eq_none]; exact free)]
      · rename_i bound
        have notFree : (s.region i).isNone ≠ true := by rwa [ne_eq, Option.isNone_iff_eq_none]
        split
        · rename_i held
          refine refused _ _ ?_
          simp only [ownRegionUnbind]
          rw [if_neg inside, if_neg notFree, if_pos (openSideIn_isSome_iff.mpr held)]
        · rename_i held
          have unbound : ownRegionUnbind d s = (.answer (.done (s.regionView i)), s.setRegion i none) := by
            simp only [ownRegionUnbind]
            rw [if_neg inside, if_neg notFree, if_neg (openSideIn_isSome_iff.not.mpr held)]
          rw [regionView_eq] at unbound
          refine ⟨runDirective_answers takes unbound rfl (by simp) (by decide), ?_⟩
          show (s.runDirective .regionUnbind ownRegionUnbind).transaction = _
          rw [runDirective_takes _ takes, unbound]
          rfl

end Sys2Proof.Machine
end

section
/-! The role table is set from role codes (R4, 13.3). -/

namespace Sys2Proof.Machine

/-! ### Role codes -/

/-- A number is the code of the role that its place in the list of codes holds, and of no role from 6 on (13.3). -/
theorem ofCode_role_eq_some_iff {c : Nat} {r : Role} : ofCode? Role.all c = some r ↔ c = r.code := by
  constructor
  · intro h
    obtain ⟨hc, rfl⟩ := List.getElem?_eq_some_iff.mp h
    have below : c < 6 := hc
    interval_cases c <;> rfl
  · rintro rfl
    cases r <;> rfl

theorem ofCode_role_eq_none_iff {c : Nat} : ofCode? Role.all c = none ↔ 6 ≤ c :=
  List.getElem?_eq_none_iff

/-- A list of codes in which one is no role's names no list of roles; any other names the roles with those codes. -/
theorem rolesOfCodes_cases (codes : List Nat) :
    ((∃ c ∈ codes, 6 ≤ c) ∧ codes.mapM (ofCode? Role.all) = none) ∨
      ((∀ c ∈ codes, c < 6) ∧
        ∃ roles : List Role, codes.mapM (ofCode? Role.all) = some roles ∧ codes = roles.map Role.code) := by
  induction codes with
  | nil => exact Or.inr ⟨by simp, [], rfl, rfl⟩
  | cons c codes ih =>
    cases head : ofCode? Role.all c with
    | none =>
      refine Or.inl ⟨⟨c, by simp, ofCode_role_eq_none_iff.mp head⟩, ?_⟩
      rw [List.mapM_cons, head]
      rfl
    | some r =>
      have below : c < 6 := by
        by_contra above
        rw [ofCode_role_eq_none_iff.mpr (by omega)] at head
        cases head
      obtain rfl := ofCode_role_eq_some_iff.mp head
      rcases ih with ⟨⟨b, hb, above⟩, none⟩ | ⟨all, roles, tail, rfl⟩
      · refine Or.inl ⟨⟨b, by simp [hb], above⟩, ?_⟩
        rw [List.mapM_cons, head, none]
        rfl
      · refine Or.inr ⟨by simpa [below] using all, r :: roles, ?_, rfl⟩
        rw [List.mapM_cons, head, tail]
        rfl

theorem contains_control_iff {roles : List Role} :
    roles.contains .control = true ↔ ∃ c ∈ roles.map Role.code, c = Role.control.code := by
  have code_eq (r : Role) : r.code = Role.control.code ↔ r = .control := by cases r <;> decide
  simp [code_eq]

/-! ### The table and its view -/

/-- One-byte values are laid out without gaps (R173). -/
theorem layoutFrom_u8 (ns : List Nat) : ∀ offset, layoutFrom offset (ns.map u8) = ns.map (BitVec.ofNat 8) := by
  induction ns with
  | nil => exact fun _ => rfl
  | cons n ns ih =>
    intro offset
    have gap : alignGap offset (u8 n).width = 0 := Nat.mod_one _
    rw [List.map_cons, layoutFrom, gap, ih]
    rfl

/-- A table filled from a list of its length holds that list. -/
theorem tlist_tfill {n : Nat} {xs : List Role} (h : xs.length = n) : tlist (tfill n fun i => xs.getD i .other) = xs := by
  refine List.ext_getElem (by simp [tlist, tfill, h]) fun i hi hx => ?_
  simp [tlist, tfill, List.getElem?_eq_getElem hx]

/-- The role table that 16 bytes of role codes set, as a reply carries it. -/
theorem layout_roleView_setRoles {s : State} {bytes : List Byte} {roles : List Role} (h : roles.length = 16)
    (codes : bytes.map BitVec.toNat = roles.map Role.code) : layout (s.setRoles roles).roleView = bytes := by
  have view : (s.setRoles roles).roleView = (roles.map Role.code).map u8 := by
    rw [List.map_map]
    exact congrArg (List.map _) (tlist_tfill h)
  rw [layout, view, ← codes, layoutFrom_u8, List.map_map]
  simp [Function.comp_def]

theorem tget_setRoles_code {s : State} {bytes : List Byte} {roles : List Role} {n : Nat} (h : roles.length = 16)
    (hn : n < 16) (codes : bytes.map BitVec.toNat = roles.map Role.code) :
    (tget (s.setRoles roles).transaction.roles n : Role).code = (bytes.getD n 0).toNat := by
  have length : bytes.length = 16 := by simpa [h] using congrArg List.length codes
  have entry : (tget (s.setRoles roles).transaction.roles n : Role) = roles[n] := by
    simp [State.setRoles, State.setTransaction, tget, tfill, hn, h]
  have byte : (bytes.map BitVec.toNat)[n]'(by simpa [length]) = (roles.map Role.code)[n]'(by simpa [h]) := by
    simp only [codes]
  rw [entry, List.getD_eq_getElem bytes 0 (by omega)]
  simpa using byte.symm

/-! ### SET_ROLES -/

/-- Settles O19, by the tests of R4 in order. -/
theorem rolesAreSet : Obligations.RolesAreSet := by
  intro s d takes length
  refine ⟨_, rfl, ?_⟩
  intro kept
  have refused : ∀ o x, ownSetRoles d s = (.answer ⟨o, x, kept⟩, s) →
      s.answers (s.runDirective .setRoles ownSetRoles) d ⟨o, x, kept⟩ 0 [] :=
    fun o x ho => runDirective_answers_only takes ho (by decide)
  have codes_iff (p : Nat → Prop) : (∃ b ∈ d.operands.take 16, p b.toNat) ↔ ∃ c ∈ d.roleCodes, p c := by
    simp only [Directive.roleCodes, List.mem_map, exists_exists_and_eq_and]
  rcases rolesOfCodes_cases d.roleCodes with ⟨above, none⟩ | ⟨below, roles, named, codes⟩
  · rw [if_pos ((codes_iff (6 ≤ ·)).mpr above)]
    exact refused _ _ (by simp only [ownSetRoles, none]; rfl)
  · rw [if_neg (fun above => by
      obtain ⟨c, hc, above⟩ := (codes_iff (6 ≤ ·)).mp above
      exact absurd (below c hc) (by omega))]
    have control : (∀ b ∈ d.operands.take 16, b.toNat ≠ Role.control.code) ↔ (!roles.contains .control) = true := by
      rw [Bool.not_eq_true', ← Bool.not_eq_true, contains_control_iff, ← codes, ← codes_iff (· = Role.control.code)]
      simp
    split
    · rename_i noControl
      refine refused _ _ ?_
      simp only [ownSetRoles, named]
      rw [if_pos (control.mp noControl)]
      rfl
    · rename_i hasControl
      split
      · rename_i jobsOpen
        refine refused _ _ ?_
        simp only [ownSetRoles, named, jobsOpen]
        rw [if_neg (control.not.mp hasControl)]
        rfl
      · rename_i allFree
        have sixteen : roles.length = 16 := by
          simpa [Directive.roleCodes, length] using (congrArg List.length codes).symm
        have set : ownSetRoles d s = (.answer ⟨.done, .none, d.operands.take 16⟩, s.setRoles roles) := by
          simp only [ownSetRoles, named]
          rw [if_neg (control.not.mp hasControl), if_neg (by simpa using allFree), layout_roleView_setRoles sixteen codes]
        have table : (s.runDirective .setRoles ownSetRoles).transaction = (s.setRoles roles).transaction := by
          rw [runDirective_takes _ takes, set]
          rfl
        refine ⟨runDirective_answers takes set rfl (by simp [State.setRoles]) (by decide), fun n hn => ?_, ?_⟩
        · rw [table, tget_setRoles_code sixteen hn codes]
          simp [hn]
        · rw [table]
          rfl

end Sys2Proof.Machine
end

section
/-! Directives that only read (R9, R40, R48, R110, R122, R142, R165). -/

namespace Sys2Proof.Machine

/-! ### An owner that only reads -/

/-- A directive of no account that is refused where its operands are out of range, and else answered with results. -/
theorem runDirective_reads {s : State} {name : DirectiveName} {d : Directive} {p : Prop} [Decidable p] {vs : List Val}
    {owner : Directive → State → Verdict × State} (h : s.takes name d)
    (hc : ¬(DirectiveName.accountSet.code ≤ name.code ∧ name.code ≤ DirectiveName.accountClear.code))
    (ho : owner d s = (.answer (if p then .refuse .refusedRange .badOperand else .done vs), s)) :
    if p then s.refuses (s.runDirective name owner) d .refusedRange .badOperand 0
    else s.completes (s.runDirective name owner) d vs 0 [] := by
  split
  · rw [if_pos ‹_›] at ho
    exact runDirective_answers_only h ho hc
  · rw [if_neg ‹_›] at ho
    exact runDirective_answers_only h ho hc

/-! ### What the views show -/

/-- The head index and the written count of the notice ring, each 0 where the ring is unset (R34, R40). -/
theorem ring_shown (s : State) :
    (s.directive.ring.map fun r => (r.head, r.written.toNat)).getD (0, 0) = (s.ringHead, s.ringWritten) := by
  unfold State.ringHead State.ringWritten
  cases s.directive.ring <;> rfl

/-- How many regions a slot has, from the slots that the bound entries name (R48). -/
theorem regionsOfSlot_eq (s : State) (slot : Nat) :
    s.regionsOfSlot slot = (tlist s.transaction.regions).countP fun e => e.map Region.slot == some slot := by
  unfold State.regionsOfSlot
  congr 1
  funext e
  cases e <;> rfl

/-- A CLOSING job shows whether it has a summary location, and its deadline (R48). -/
theorem closeView_closing (c : Closing) :
    ((JobPhase.closing c).closeView.1.map Bool.toNat, (JobPhase.closing c).closeView.2) =
      (some (if c.summary = none then 0 else 1), some c.deadline) := by
  cases summary : c.summary <;> simp [JobPhase.closeView, summary]

/-- A job that is not CLOSING shows neither (R48). -/
theorem closeView_of_ne_closing {j : JobPhase} (h : j.state ≠ .closing) : j.closeView = (none, none) := by
  cases j with
  | closing c => exact absurd rfl h
  | active | held | released => rfl

/-- The floor that ACCOUNT_READ shows: that of a CREDIT account is its limit below zero, any other's zero (R118, R122). -/
theorem floorShown_eq (a : Account) : a.floorShown = if a.mode = .credit then -(a.creditLimit : Int) else 0 := by
  unfold Account.floorShown Account.floor floorOf
  cases a.mode <;> rfl

/-- The kinds of a position's entries are shown one bit each (R142, R153). -/
theorem linkKinds_eq (s : State) (p : Nat) :
    let held := fun (kind : LinkKind) => if { position := p, kind := kind } ∈ s.link.queue then 1 else 0
    s.linkKinds p = held .authenticate + 2 * held .recheck + 4 * held .sync := by
  simp only [State.linkKinds, linkHolds_eq, Bool.toNat, Bool.cond_decide]

theorem bankHasSerial_eq (s : State) : s.bankHasSerial = (s.meter.bank.bind Bank.serial).isSome := by
  unfold State.bankHasSerial
  cases s.meter.bank <;> rfl

/-- What SHEETS_READ shows of a side record: its colour where it is complete (R100, R110). -/
theorem sideView_eq (r : Option SideRecord) :
    sideView r =
      [opt 1 (r.map fun r => r.kind.code), opt 1 (r.map fun r => r.mask.toNat), opt 2 (r.map SideRecord.reservation),
       opt 1 (r.map fun r => if r.complete = true then 1 else 0),
       opt 1
        (r.bind fun r =>
          if r.complete = true then some (if 0 < r.dots.c + r.dots.m + r.dots.y then 1 else 0) else none)] := by
  have colour (r : SideRecord) : r.isColour.toNat = if 0 < r.dots.c + r.dots.m + r.dots.y then 1 else 0 :=
    Bool.cond_decide _ _ _
  cases r with
  | none => rfl
  | some r =>
    cases complete : r.complete <;> simp [sideView, complete, colour]

/-! ### STATUS -/

theorem status_answers {s : State} {d : Directive} (h : s.awaitsOwner .status d) :
    s.completes (s.runDirective .status ownStatus) d s.statusView 0 [] := by
  rw [runDirective_open _ h rfl]
  exact finish_answers (replyGeneration_eq_zero h (by decide) s).symm

/-! ### ACCOUNT_READ -/

/-- The reply to ACCOUNT_READ carries the generation of the account it names, and zero where it names none (R27). -/
theorem replyGeneration_accountRead {s : State} {d : Directive} (h : s.awaitsOwner .accountRead d) :
    s.replyGeneration d.code d.operands =
      if 2047 < d.arg accountReadForm 0 then 0 else (s.accountAt (d.arg accountReadForm 0)).generation := by
  have account : DirectiveName.accountSet.code ≤ d.code ∧ d.code ≤ DirectiveName.accountClear.code := by
    rw [h.2]
    decide
  have index : valueAt accountIndexForm d.operands 0 = d.arg accountReadForm 0 := rfl
  rw [State.replyGeneration, if_pos account, index]
  by_cases beyond : 2047 < d.arg accountReadForm 0
  · rw [if_neg (by omega), if_pos beyond]
  · rw [if_pos (by omega), if_neg beyond]

theorem accountRead_answers {s : State} {d : Directive} {a : Answer} (h : s.takes .accountRead d)
    (ho : ownAccountRead d s = (.answer a, s)) :
    s.answers (s.runDirective .accountRead ownAccountRead) d a
      (if 2047 < d.arg accountReadForm 0 then 0 else (s.accountAt (d.arg accountReadForm 0)).generation) [] := by
  rw [runDirective_takes _ h, ho]
  exact finish_answers (replyGeneration_accountRead h.1).symm

/-! ### The reading directives -/

/-- Settles O16, from what each owner answers and what its view shows. -/
theorem readingDirectivesAnswerAndChangeNothing : Obligations.ReadingDirectivesAnswerAndChangeNothing := by
  refine ⟨?status, ?regionRead, ?jobRead, ?accountRead, ?sheetsRead, ?consumableRead, ?meterRead⟩
  case status =>
    intro s d h
    refine ⟨_, rfl, ?_⟩
    rw [ring_shown]
    exact status_answers h
  case regionRead =>
    intro s d h
    refine ⟨_, rfl, runDirective_reads h (by decide) ?_⟩
    rw [← regionView_eq, ownRegionRead]
    split <;> rfl
  case jobRead =>
    intro s d h
    refine ⟨_, rfl, runDirective_reads h (by decide) ?_⟩
    simp only [ownJobRead, ← regionsOfSlot_eq]
    split
    · rfl
    cases job : s.jobAt (d.arg jobReadForm 0) with
    | none => rfl
    | some j =>
      simp only
      split
      · cases phase : j.phase with
        | closing c =>
          have close := closeView_closing c
          rw [Prod.mk.injEq] at close
          rw [State.jobRecordView, phase, close.1, close.2]
        | active | held | released =>
          rw [State.jobRecordView, phase]
          rfl
      · rfl
  case accountRead =>
    intro s d h
    refine ⟨_, rfl, ?_⟩
    intro i view a
    have generation (above : ¬(2047 < i ∨ 1 < view)) :
        (if 2047 < i then 0 else (s.accountAt i).generation) = a.generation := if_neg (by omega)
    split
    · rename_i bad
      exact accountRead_answers h (by rw [ownAccountRead]; exact if_pos bad)
    · rename_i good
      rw [← generation good, ← floorShown_eq]
      refine accountRead_answers h ?_
      rw [ownAccountRead]
      refine (if_neg good).trans ?_
      split <;> rfl
  case sheetsRead =>
    intro s d h
    refine ⟨_, rfl, runDirective_reads h (by decide) ?_⟩
    rw [ownSheetsRead]
    split
    · rfl
    simp only [State.sheetsView, sideView_eq]
    cases sheet : s.charging.sheets[d.arg sheetsReadForm 0]? with
    | none => rfl
    | some h => cases owner : h.owner <;> simp only [Option.map_some, Option.bind_some, owner] <;> rfl
  case consumableRead =>
    intro s d h
    refine ⟨_, rfl, runDirective_reads h (by decide) ?_⟩
    simp only [← linkKinds_eq, ownConsumableRead]
    split
    · rfl
    · split <;> rfl
  case meterRead =>
    intro s d h
    refine ⟨_, rfl, runDirective_reads h (by decide) ?_⟩
    simp only [ownMeterRead]
    match view : d.arg meterReadForm 0 with
    | 0 => rfl
    | 1 => rfl
    | 2 =>
      simp only [← bankHasSerial_eq]
      cases work : s.meter.work with
      | composing c =>
        cases part : c.next <;> simp only [State.meterStateView, MeterWork.nextImage, work, part] <;> rfl
      | none | banking _ _ _ | restoring _ _ _ =>
        simp only [State.meterStateView, MeterWork.nextImage, work] <;> rfl
    | _ + 3 =>
      rw [if_pos (by omega)]
      rfl

end Sys2Proof.Machine
end

section
/-! The three queues of bounded length: waiting directives (R24), sheets (R94) and link entries (R144, R145). Most
operations leave them; the others take something off a queue, or add to one that has room. -/

namespace Sys2Proof.Machine

/-! ### The queues -/

/-- The queues of the part that have a capacity. -/
structure Queues where
  directives : List Directive
  sheets     : List Sheet
  link       : List LinkEntry

/-- The queues of a state. -/
def State.queues (s : State) : Queues :=
  { directives := s.directive.queue, sheets := s.charging.sheets, link := s.link.queue }

/-- The capacities speak of the three queues alone. -/
theorem State.queuesWithinCapacity.keep {s t : State} (h : s.queuesWithinCapacity) (e : t.queues = s.queues) :
    t.queuesWithinCapacity := by
  obtain ⟨directives, sheets, link⟩ := Queues.mk.inj e
  rwa [State.queuesWithinCapacity, directives, sheets, link]

/-- Shorter queues, with no new link entry, are within the capacities. -/
theorem State.queuesWithinCapacity.shrink {s t : State} (h : s.queuesWithinCapacity)
    (directives : t.directive.queue.length ≤ s.directive.queue.length)
    (sheets : t.charging.sheets.length ≤ s.charging.sheets.length) (link : t.link.queue.Sublist s.link.queue) :
    t.queuesWithinCapacity := by
  obtain ⟨four, eight, eight', nodup, positions⟩ := h
  exact ⟨directives.trans four, sheets.trans eight, link.length_le.trans eight', nodup.sublist link,
    fun e he => positions e (link.subset he)⟩

/-- Every part that holds no bounded queue. -/
def quietParts : List Part :=
  [.transaction, .cipher, .job, .parser, .account, .consumable, .meter, .lockdown, .memory, .pending]

theorem queues_of_touches {ps : List Part} {s t : State} (h : Touches ps s t) (hD : .directive ∉ ps)
    (hH : .charging ∉ ps) (hL : .link ∉ ps) : t.queues = s.queues := by
  have directive : t.directive = s.directive := h _ hD
  have charging : t.charging = s.charging := h _ hH
  have link : t.link = s.link := h _ hL
  simp only [State.queues, directive, charging, link]

/-- What touches no part with a bounded queue leaves the queues. -/
theorem queues_of_quiet {s t : State} (h : Touches quietParts s t) : t.queues = s.queues :=
  queues_of_touches h (by decide) (by decide) (by decide)

variable (a : State)

/-! ### Operations that leave the queues -/

@[simp] theorem queues_setTransaction (u : TransactionUnit) : (a.setTransaction u).queues = a.queues := rfl
@[simp] theorem queues_setCipher (u : CipherUnit) : (a.setCipher u).queues = a.queues := rfl
@[simp] theorem queues_setJobs (u : JobUnit) : (a.setJobs u).queues = a.queues := rfl
@[simp] theorem queues_setConsumables (u : ConsumableUnit) : (a.setConsumables u).queues = a.queues := rfl
@[simp] theorem queues_setMeter (u : MeterUnit) : (a.setMeter u).queues = a.queues := rfl
@[simp] theorem queues_setDirective (u : DirectiveUnit) (h : u.queue = a.directive.queue) :
    (a.setDirective u).queues = a.queues := by
  simp only [State.queues, setDirective_directive, setDirective_charging, setDirective_link, h]
@[simp] theorem queues_setLink (u : LinkUnit) (h : u.queue = a.link.queue) : (a.setLink u).queues = a.queues := by
  simp only [State.queues, setLink_directive, setLink_charging, setLink_link, h]
@[simp] theorem queues_store (x : Nat) (bs : List Byte) : (a.store x bs).queues = a.queues := rfl
@[simp] theorem queues_respond (q : Nat) (ok : Bool) (bs : List Byte) : (a.respond q ok bs).queues = a.queues := rfl
@[simp] theorem queues_setRegion (i : Nat) (r : Option Region) : (a.setRegion i r).queues = a.queues := rfl
@[simp] theorem queues_setJob (i : Nat) (j : Option JobRecord) : (a.setJob i j).queues = a.queues := rfl
@[simp] theorem queues_updateJob (i : Nat) (g : JobRecord → JobRecord) : (a.updateJob i g).queues = a.queues := rfl
@[simp] theorem queues_setKey (i : Nat) (k : Option KeyEntry) : (a.setKey i k).queues = a.queues := rfl
@[simp] theorem queues_chargeAccount (i : Nat) (g : Account → Account) :
    (a.chargeAccount i g).queues = a.queues := rfl
@[simp] theorem queues_updateConsumable (p : Nat) (g : Consumable → Consumable) :
    (a.updateConsumable p g).queues = a.queues := rfl
@[simp] theorem queues_setOpenSide (o : Option OpenSide) : (a.setOpenSide o).queues = a.queues := rfl
@[simp] theorem queues_setWork (w : MeterWork) : (a.setWork w).queues = a.queues := rfl
@[simp] theorem queues_own (b l : Nat) (x : AreaSource) : (a.own b l x).queues = a.queues := rfl
@[simp] theorem queues_disown (b : Nat) (x : AreaSource) : (a.disown b x).queues = a.queues := rfl
@[simp] theorem queues_askNotice (k : NoticeKind) (vs : List Val) : (a.askNotice k vs).queues = a.queues := rfl
@[simp] theorem queues_askStamped (k : NoticeKind) (vs : List Val) : (a.askStamped k vs).queues = a.queues := rfl
@[simp] theorem queues_handWriter (w : WriterItem) : (a.handWriter w).queues = a.queues := rfl
@[simp] theorem queues_reply (d : Directive) (x : Answer) : (a.reply d x).queues = a.queues := rfl
@[simp] theorem queues_replyParked (p : Parked) (x : Answer) : (a.replyParked p x).queues = a.queues := rfl
@[simp] theorem queues_finish (d : Directive) (x : Answer) : (a.finish d x).queues = a.queues := rfl

/-! Notices and link reports. -/

@[simp] theorem queues_deliver (q : NoticeRequest) : (a.deliver q).queues = a.queues := by
  unfold State.deliver
  split <;> rfl

@[simp] theorem queues_deliverAll (qs : List NoticeRequest) : (a.deliverAll qs).queues = a.queues := by
  induction qs generalizing a with
  | nil => rfl
  | cons q qs ih => rw [State.deliverAll, ih, queues_deliver]

@[simp] theorem queues_takeNotice : a.takeNotice.queues = a.queues := by
  unfold State.takeNotice
  split <;> simp

@[simp] theorem queues_noticeExhausted (p : Nat) : (a.noticeExhausted p).queues = a.queues := rfl

@[simp] theorem queues_noticeLowIf (p : Nat) (b : Bool) : (a.noticeLowIf p b).queues = a.queues := by
  rw [noticeLowIf_eq]; rfl

@[simp] theorem queues_noticeCheck (n : NoticeKind) (p : Nat) (k : LinkKind) (r : CheckResult) (i : Option Identity) :
    (a.noticeCheck n p k r i).queues = a.queues := rfl

@[simp] theorem queues_failCheck (p : Nat) (k : LinkKind) (r : CheckResult) (i : Option Identity) :
    (a.failCheck p k r i).queues = a.queues := rfl

@[simp] theorem queues_answerCheck (p : Nat) (r : CheckResult) : (a.answerCheck p r).queues = a.queues := by
  unfold State.answerCheck
  split <;> simp

@[simp] theorem queues_recheckEnd (p : Nat) (r : CheckResult) (i : Option Identity) :
    (a.recheckEnd p r i).queues = a.queues := by
  unfold State.recheckEnd
  (repeat' split) <;> simp

@[simp] theorem queues_syncFailed (p : Nat) : (a.syncFailed p).queues = a.queues := by
  simp only [State.syncFailed]
  split <;> simp

@[simp] theorem queues_setRunning (r : Running) : (a.setRunning r).queues = a.queues := rfl

@[simp] theorem queues_beginAttempt (e : LinkEntry) (r : Running) : (a.beginAttempt e r).queues = a.queues := by
  simp only [State.beginAttempt]
  split <;> simp

@[simp] theorem queues_beginOldest : a.beginOldest.queues = a.queues := by
  simp only [State.beginOldest, State.beginEntry]
  (repeat' split) <;> simp

/-! The account, job and meter units. -/

@[simp] theorem queues_commitAccount (i : Nat) (b : Bool) (c r : Nat) :
    (a.commitAccount i b c r).queues = a.queues := by
  simp only [State.commitAccount]
  split <;> simp

@[simp] theorem queues_freeRegions (slot : Nat) : (a.freeRegions slot).queues = a.queues := rfl

@[simp] theorem queues_handSummary (c : Closing) (m : JobSummary) : (a.handSummary c m).queues = a.queues := by
  unfold State.handSummary
  split <;> simp

@[simp] theorem queues_completeClose (slot : Nat) (r : CloseReason) (x y : Nat) :
    (a.completeClose slot r x y).queues = a.queues := by
  unfold State.completeClose
  (repeat' split) <;> simp

@[simp] theorem queues_drainTest (slot : Nat) : (a.drainTest slot).queues = a.queues := by
  unfold State.drainTest
  (repeat' split) <;> simp

@[simp] theorem queues_drainOwner (o : Owner) : (a.drainOwner o).queues = a.queues := by
  cases o <;> simp [State.drainOwner]

@[simp] theorem queues_ownSummary (l : Option Nat) : (a.ownSummary l).queues = a.queues := by
  cases l <;> rfl

@[simp] theorem queues_countSheet : a.countSheet.queues = a.queues :=
  queues_of_quiet ((touches_countSheet (by decide)).mpr (touches_refl _ a))

@[simp] theorem queues_endWork (b : Nat) (x : AreaSource) (p : Parked) (w : Answer) :
    (a.endWork b x p w).queues = a.queues := rfl

@[simp] theorem queues_snapshotBanked : a.snapshotBanked.queues = a.queues := by
  unfold State.snapshotBanked
  split <;> simp

@[simp] theorem queues_bankComplete : a.bankComplete.queues = a.queues := by
  simp only [State.bankComplete, State.beginBank]
  (repeat' split) <;> simp

@[simp] theorem queues_pwrWarn : a.pwrWarn.queues = a.queues := by
  simp only [State.pwrWarn, State.powerWarning, State.triggerBank, State.beginBank]
  (repeat' split) <;> simp

@[simp] theorem queues_loadSnapshot (bs : List Byte) : (a.loadSnapshot bs).queues = a.queues := by
  simp [State.loadSnapshot, State.queues]

@[simp] theorem queues_restoreReadEnd : a.restoreReadEnd.queues = a.queues := by
  unfold State.restoreReadEnd
  (repeat' split) <;> simp

@[simp] theorem queues_meterEntry : a.meterEntry.queues = a.queues := by
  unfold State.meterEntry
  (repeat' split) <;> simp

/-! Sides, sheets and scan pages. -/

@[simp] theorem queues_commitSide (h : Sheet) (r : SideRecord) : (State.commitSide h a r).queues = a.queues := by
  have counted : ((a.commitAccount h.account r.isColour r.charge r.reservation).commitJob h.owner r.isColour).queues =
      a.queues := by
    cases owner : h.owner <;> simp [State.commitJob]
  exact counted

@[simp] theorem queues_commitSides (h : Sheet) (l : List SideRecord) :
    (l.foldl (State.commitSide h) a).queues = a.queues := by
  induction l generalizing a with
  | nil => rfl
  | cons r l ih => rw [List.foldl_cons, ih, queues_commitSide]

@[simp] theorem queues_dropSheets (l : List Sheet) : (l.foldl State.dropSheet a).queues = a.queues := by
  induction l generalizing a with
  | nil => rfl
  | cons h l ih =>
    rw [List.foldl_cons, ih, State.dropSheet, queues_drainOwner]
    cases owner : h.owner <;> rfl

@[simp] theorem queues_scnPage : a.scnPage.queues = a.queues := by
  have charged (slot : Nat) (j : JobRecord) : (a.takeScanRecord.chargeScan slot j).queues = a.queues := by
    simp only [State.chargeScan, decideScan_eq]
    split <;> rfl
  simp only [State.scnPage]
  split
  · exact charged _ _
  · rfl

@[simp] theorem queues_setFraming (i : Nat) (f : Framing) (c : Nat) : (a.setFraming i f c).queues = a.queues :=
  queues_of_quiet ((touches_setFraming i f c (by decide)).mpr (touches_refl _ a))

@[simp] theorem queues_frameAbandoned (i : Nat) (c : AbandonCause) : (a.frameAbandoned i c).queues = a.queues :=
  queues_of_quiet ((touches_frameAbandoned i c (by decide)).mpr (touches_refl _ a))

@[simp] theorem queues_releaseSide (o : OpenSide) : (a.releaseSide o).queues = a.queues :=
  queues_of_quiet ((touches_releaseSide o (by decide)).mpr (touches_refl _ a))

@[simp] theorem queues_countPayload (i : Nat) (p : Plane) (bs : List Byte) :
    (a.countPayload i p bs).queues = a.queues :=
  queues_of_quiet ((touches_countPayload i p bs (by decide)).mpr (touches_refl _ a))

@[simp] theorem queues_consumeHeader (i o : Nat) (h : BandHeader) (p : Plane) :
    (a.consumeHeader i o h p).queues = a.queues := by
  simp [State.consumeHeader]

@[simp] theorem queues_noticeFraming (r : VideoRead) (x : FramingReason) (y : ParserState) (c : Nat) :
    (a.noticeFraming r x y c).queues = a.queues := rfl

@[simp] theorem queues_noticeSide (r : VideoRead) (j : JobRecord) (k : SideKind) (m : PlaneMask) (o : Nat)
    (x : SideReason) : (a.noticeSide r j k m o x).queues = a.queues := rfl

/-! The subordinate port, lockdown control and the writers. -/

@[simp] theorem queues_refuseAccess (t : Transaction) (r : Role) (x : AccessReason) (i : Option Nat) :
    (a.refuseAccess t r x i).queues = a.queues := rfl

@[simp] theorem queues_forward (t : Transaction) : (a.forward t).queues = a.queues :=
  queues_of_quiet ((touches_forward t (by decide) (by decide)).mpr (touches_refl _ a))

@[simp] theorem queues_examine (t : Transaction) : (a.examine t).queues = a.queues := by
  unfold State.examine
  (repeat' split) <;> rfl

@[simp] theorem queues_passTransaction (t : Transaction) (r : Role) : (a.passTransaction t r).queues = a.queues := by
  unfold State.passTransaction
  split <;> simp

@[simp] theorem queues_keyFault (t : Transaction) (q : Role) (i : Nat) (r : Region) :
    (a.keyFault t q i r).queues = a.queues := rfl

@[simp] theorem queues_encipherWrite (t : Transaction) (q : Role) (i : Nat) (r : Region) :
    (a.encipherWrite t q i r).queues = a.queues := by
  simp only [State.encipherWrite, State.countScanWrite]
  (repeat' split) <;> simp

@[simp] theorem queues_decipherRead (t : Transaction) (q : Role) (i : Nat) (r : Region) :
    (a.decipherRead t q i r).queues = a.queues := by
  unfold State.decipherRead
  split <;> simp

@[simp] theorem queues_enterMode (e : CauseEvent) : (a.enterMode e).queues = a.queues := rfl
@[simp] theorem queues_eraseKeys : a.eraseKeys.queues = a.queues := rfl
@[simp] theorem queues_freeAllRegions : a.freeAllRegions.queues = a.queues := rfl

@[simp] theorem queues_lockClose (j : Option JobRecord) : (a.lockClose j).queues = a.queues := by
  unfold State.lockClose State.disownSummary
  (repeat' split) <;> simp

@[simp] theorem queues_freeAllSlots : a.freeAllSlots.queues = a.queues := by
  have closed (l : List (Option JobRecord)) (a : State) : (l.foldl State.lockClose a).queues = a.queues := by
    induction l generalizing a with
    | nil => rfl
    | cons j l ih => rw [List.foldl_cons, ih, queues_lockClose]
  rw [State.freeAllSlots, queues_setJobs, closed]

@[simp] theorem queues_summaryWriteDone : a.summaryWriteDone.queues = a.queues := by
  unfold State.summaryWriteDone
  split <;> rfl

@[simp] theorem queues_takeAllNotices : a.takeAllNotices.queues = a.queues := by
  simp [State.takeAllNotices]

end Sys2Proof.Machine
end

section
/-! Operations that take something off a queue, or add to one that has room. -/

namespace Sys2Proof.Machine

variable {a : State}

/-! ### The directive queue (R24) -/

theorem fits_dispatchNext (h : a.queuesWithinCapacity) : a.dispatchNext.queuesWithinCapacity := by
  simp only [State.dispatchNext]
  split
  · rename_i d ds _ queue
    have tail : (a.setDirective { a.directive with queue := ds }).queuesWithinCapacity :=
      h.shrink (by simp [queue]) (le_refl _) (List.Sublist.refl _)
    (repeat' split) <;> exact tail
  · exact h

theorem fits_conclude (d : Directive) (v : Verdict) (h : a.queuesWithinCapacity) :
    (a.conclude d v).queuesWithinCapacity := by
  cases v with
  | answer x => exact h
  | parked => exact fits_dispatchNext h

/-- A directive joins a queue that holds fewer than four (R24). -/
theorem fits_enter (d : Directive) (h : a.queuesWithinCapacity) : (a.enter d).queuesWithinCapacity := by
  unfold State.enter
  (repeat' split) <;> try exact h
  rename_i room
  obtain ⟨_, others⟩ := h
  refine fits_dispatchNext ⟨?_, others⟩
  simp only [setDirective_directive, List.length_append, List.length_singleton]
  omega

theorem fits_directiveEntry (q : Nat) (h : a.queuesWithinCapacity) : (a.directiveEntry q).queuesWithinCapacity := by
  unfold State.directiveEntry
  split
  · exact fits_enter _ h
  · exact h

theorem fits_afterReply (l : Nat) (h : a.queuesWithinCapacity) : (a.afterReply l).queuesWithinCapacity := by
  unfold State.afterReply
  split
  · exact fits_dispatchNext h
  · exact h

theorem fits_replyWriteDone (h : a.queuesWithinCapacity) : a.replyWriteDone.queuesWithinCapacity := by
  unfold State.replyWriteDone
  split
  · exact fits_afterReply _ h
  all_goals exact h

/-- Directives answered one after another leave the queues. -/
theorem queues_replies (a : State) (l : List Directive) (x : State → Directive → Answer) :
    (l.foldl (fun a d => a.reply d (x a d)) a).queues = a.queues := by
  induction l generalizing a with
  | nil => rfl
  | cons d l ih => rw [List.foldl_cons, ih, queues_reply]

theorem fits_answerWaiting (h : a.queuesWithinCapacity) : a.answerWaiting.queuesWithinCapacity := by
  have answered := h.keep (queues_replies a a.directive.queue fun a d => a.generalAnswer d .locked .none)
  exact answered.shrink (Nat.zero_le _) (le_refl _) (List.Sublist.refl _)

theorem fits_runDirective (name : DirectiveName) {owner : Directive → State → Verdict × State}
    (h : a.queuesWithinCapacity) (ho : ∀ d, (owner d a).2.queuesWithinCapacity) :
    (a.runDirective name owner).queuesWithinCapacity := by
  unfold State.runDirective
  split
  · split
    · split
      · exact h
      · exact fits_conclude _ _ (ho _)
    · exact h
  · exact h

/-! ### The link queue (R144, R145) -/

/-- A request for one of the five positions is admitted once, where the queue has room (R145). -/
theorem fits_requestLink {p : Nat} (k : LinkKind) (hp : p < 5) (h : a.queuesWithinCapacity) :
    (a.requestLink p k).1.queuesWithinCapacity := by
  rw [requestLink_eq]
  obtain ⟨directives, sheets, eight, nodup, positions⟩ := h
  refine ⟨directives, sheets, ?_⟩
  simp only [setLink_link, admitted]
  split
  · exact ⟨eight, nodup, positions⟩
  · split
    · exact ⟨eight, nodup, positions⟩
    · rename_i room new
      refine ⟨by simp only [List.length_append, List.length_singleton]; omega, ?_, ?_⟩
      · exact List.nodup_append.mpr ⟨nodup, List.nodup_singleton _, fun x hx y hy e =>
          new (by rwa [e, List.mem_singleton.mp hy] at hx)⟩
      · intro e he
        rcases List.mem_append.mp he with old | last
        · exact positions e old
        · rw [List.mem_singleton.mp last]
          exact hp

theorem fits_requestSync {p : Nat} (hp : p < 5) (h : a.queuesWithinCapacity) :
    (a.requestSync p).queuesWithinCapacity := fits_requestLink .sync hp h

theorem fits_requestAuthenticate {p : Nat} (hp : p < 5) (h : a.queuesWithinCapacity) :
    (a.requestAuthenticate p).queuesWithinCapacity := fits_requestLink .authenticate hp h

theorem fits_requestRecheck {p : Nat} (due : Nat) (hp : p < 5) (h : a.queuesWithinCapacity) :
    (a.requestRecheck p due).queuesWithinCapacity := by
  have requested := fits_requestLink .recheck hp h
  simp only [State.requestRecheck]
  split <;> exact requested

theorem fits_requestSyncIfNeeded {p : Nat} (hp : p < 5) (h : a.queuesWithinCapacity) :
    (a.requestSyncIfNeeded p).queuesWithinCapacity := by
  unfold State.requestSyncIfNeeded
  split
  · exact fits_requestSync hp h
  · exact h

theorem fits_syncAfterDraw {p : Nat} (hp : p < 5) (h : a.queuesWithinCapacity) :
    (a.syncAfterDraw p).queuesWithinCapacity := by
  simp only [State.syncAfterDraw]
  split
  · exact fits_requestSync hp h
  · exact h

theorem fits_drawUnit {p : Nat} (hp : p < 5) (h : a.queuesWithinCapacity) : (a.drawUnit p).queuesWithinCapacity := by
  simp only [State.drawUnit]
  split
  · exact h
  · split
    · exact fits_syncAfterDraw hp h
    · refine fits_syncAfterDraw hp (.keep ?_ (queues_noticeLowIf _ _ _))
      split
      · exact fits_requestSync hp h
      · exact h

theorem fits_drawUnits {p : Nat} (hp : p < 5) (n : Nat) (h : a.queuesWithinCapacity) :
    (a.drawUnits p n).queuesWithinCapacity := by
  induction n generalizing a with
  | zero => exact h
  | succ n ih => exact ih (fits_drawUnit hp h)

/-- Every plane has its position (R127). -/
theorem plane_code_lt (p : Plane) : p.code < 5 := by cases p <;> decide

theorem fits_handBand (p : Option Plane) (n : Nat) (h : a.queuesWithinCapacity) :
    (a.handBand p n).queuesWithinCapacity := by
  unfold State.handBand
  (repeat' split) <;> try exact h
  simp only [State.handDots]
  split
  · exact h
  · exact fits_drawUnits (plane_code_lt _) _ h

theorem fits_acceptCheck {p : Nat} (i : Identity) (hp : p < 5) (h : a.queuesWithinCapacity) :
    (a.acceptCheck p i).queuesWithinCapacity := by
  refine .keep (fits_requestSyncIfNeeded hp ?_) (queues_noticeLowIf _ _ _)
  exact h

theorem fits_authenticateEnd {p : Nat} (r : CheckResult) (i : Option Identity) (hp : p < 5)
    (h : a.queuesWithinCapacity) : (a.authenticateEnd p r i).queuesWithinCapacity := by
  refine .keep ?_ (queues_answerCheck _ p r)
  unfold State.authenticateEffect
  split
  iterate 3
    split
    · exact fits_acceptCheck _ hp h
    · exact h
  iterate 2 exact fits_requestSyncIfNeeded hp (by split <;> exact h)
  exact h

theorem fits_syncEnd {p : Nat} (c w : Nat) (hp : p < 5) (h : a.queuesWithinCapacity) :
    (a.syncEnd p c w).queuesWithinCapacity := by
  refine .keep (fits_requestSyncIfNeeded hp ?_) (queues_noticeLowIf _ _ _)
  (repeat' split) <;> exact h

theorem fits_removeRunning (q : Option Nat) (h : a.queuesWithinCapacity) :
    (a.removeRunning q).queuesWithinCapacity :=
  h.shrink (le_refl _) (le_refl _) (List.tail_sublist _)

/-- The running entry is one of the link queue, so it is for one of the five positions. -/
theorem position_lt_of_runningEntry {e : LinkEntry} {r : Running} (h : a.queuesWithinCapacity)
    (running : a.runningEntry = some (e, r)) : e.position < 5 := by
  obtain ⟨_, _, _, _, positions⟩ := h
  unfold State.runningEntry at running
  split at running
  · rename_i queue _
    cases running
    exact positions e (by simp [queue])
  · cases running

theorem fits_failAttempt {e : LinkEntry} (r : Running) (he : e.position < 5) (h : a.queuesWithinCapacity) :
    (a.failAttempt e r).queuesWithinCapacity := by
  unfold State.failAttempt
  split
  · have removed := fits_removeRunning (some a.now) h
    unfold State.reportFailure
    split
    · exact fits_authenticateEnd _ _ he removed
    · exact removed.keep (queues_recheckEnd _ _ _ _)
    · exact removed.keep (queues_syncFailed _ _)
  · exact h

theorem fits_reportChallenge {e : LinkEntry} (i : Identity) (b : Bool) (he : e.position < 5)
    (h : a.queuesWithinCapacity) : (a.reportChallenge e i b).queuesWithinCapacity := by
  simp only [State.reportChallenge]
  split
  · exact fits_authenticateEnd _ _ he h
  · exact h.keep (queues_recheckEnd _ _ _ _)
  · exact h

theorem fits_exchangeReply {e : LinkEntry} (r : Running) (bs : List Byte) (b : Bool) (he : e.position < 5)
    (h : a.queuesWithinCapacity) : (a.exchangeReply e r bs b).queuesWithinCapacity := by
  unfold State.exchangeReply
  split
  · exact h.keep (queues_beginAttempt _ _ _)
  · exact h.keep (queues_beginAttempt _ _ _)
  · exact fits_reportChallenge _ _ he (fits_removeRunning none h)
  · split
    · exact fits_syncEnd _ _ he (fits_removeRunning none h)
    · exact fits_failAttempt r he h

theorem fits_receiveBytes {e : LinkEntry} (r : Running) (g : List Byte) (bs : List LinkByte) (b : Bool)
    (he : e.position < 5) (h : a.queuesWithinCapacity) : (a.receiveBytes e r g bs b).queuesWithinCapacity := by
  unfold State.receiveBytes
  split
  · exact h
  · exact fits_failAttempt r he h
  · split
    · exact fits_failAttempt r he h
    · exact fits_exchangeReply r _ b he h

theorem fits_replyFrame (bs : List LinkByte) (b : Bool) (h : a.queuesWithinCapacity) :
    (a.replyFrame bs b).queuesWithinCapacity := by
  unfold State.replyFrame
  split
  · have he := position_lt_of_runningEntry h ‹_›
    split
    · exact fits_receiveBytes _ _ bs b he h
    · exact fits_receiveBytes _ _ bs b he h
    · exact h
    · exact h
  · exact h

theorem fits_replyTimeout (h : a.queuesWithinCapacity) : a.replyTimeout.queuesWithinCapacity := by
  unfold State.replyTimeout
  split
  · split
    · exact fits_failAttempt _ (position_lt_of_runningEntry h ‹_›) h
    · exact h
  · exact h

@[simp] theorem queues_quietEnd (a : State) : a.quietEnd.queues = a.queues := by
  unfold State.quietEnd State.quietAfterEnd
  (repeat' split) <;> simp

theorem queues_requestFrameSent (a : State) : a.requestFrameSent.queues = a.queues := by
  unfold State.requestFrameSent
  (repeat' split) <;> rfl

/-! ### Presence and the epoch schedule (R128 to R130, R139) -/

theorem lt_of_presenceDue {p : Nat} {level : Bool} (h : a.presenceDue p level = true) : p < 5 := by
  simp only [State.presenceDue, Bool.and_eq_true, decide_eq_true_eq] at h
  omega

theorem fits_presenceRise (p : Nat) (h : a.queuesWithinCapacity) : (a.presenceRise p).queuesWithinCapacity := by
  unfold State.presenceRise
  split
  · exact fits_requestAuthenticate (lt_of_presenceDue ‹_›) h
  · exact h

theorem fits_dropPosition (p : Nat) (h : a.queuesWithinCapacity) : (a.dropPosition p).queuesWithinCapacity := by
  simp only [State.dropPosition]
  split <;> exact h.shrink (le_refl _) (le_refl _) List.filter_sublist

theorem fits_presenceFall (p : Nat) (h : a.queuesWithinCapacity) : (a.presenceFall p).queuesWithinCapacity := by
  simp only [State.presenceFall]
  split
  · have dropped := fits_dropPosition (a := a.setPresence p { tget a.consumable.presence p with settled := false }) p h
    split <;> exact dropped
  · exact h

theorem queues_takeInterval (a : State) (p : Nat) : (a.takeInterval p).queues = a.queues := by
  unfold State.takeInterval
  split <;> rfl

theorem fits_epochVisit {p : Nat} (hp : p < 5) (h : a.queuesWithinCapacity) :
    (a.epochVisit p).queuesWithinCapacity := by
  simp only [State.epochVisit]
  split
  · split
    · exact fits_requestRecheck _ hp h
    · split
      · exact fits_requestSync hp h
      · exact h
  · split
    · exact fits_requestAuthenticate hp h
    · split
      · exact fits_requestSync hp h
      · exact h

/-- What is kept at each position visited is kept by the visit of them all. -/
theorem fits_positions {f : State → Nat → State}
    (hf : ∀ {a p}, p < 5 → a.queuesWithinCapacity → (f a p).queuesWithinCapacity) (h : a.queuesWithinCapacity) :
    (positions.foldl f a).queuesWithinCapacity :=
  hf (by decide) (hf (by decide) (hf (by decide) (hf (by decide) (hf (by decide) h))))

theorem fits_epochBoundary (h : a.queuesWithinCapacity) : a.epochBoundary.queuesWithinCapacity := by
  simp only [State.epochBoundary]
  split
  · exact fits_positions (f := State.epochVisit) fits_epochVisit
      (fits_positions (f := State.takeInterval) (fun _ h => h.keep (queues_takeInterval _ _)) h)
  · exact h

/-! ### The sheet queue (R94) -/

/-- A sheet queue that is no longer than before. -/
theorem fits_setSheets {q : List Sheet} (h : a.queuesWithinCapacity) (hq : q.length ≤ a.charging.sheets.length) :
    (a.setSheets q).queuesWithinCapacity :=
  h.shrink (le_refl _) hq (List.Sublist.refl _)

theorem fits_updateSheet (n : Nat) (g : Sheet → Sheet) (h : a.queuesWithinCapacity) :
    (a.updateSheet n g).queuesWithinCapacity :=
  fits_setSheets h (by simp)

theorem fits_abandonSheet (n : Nat) (k : SideKind) (h : a.queuesWithinCapacity) :
    (a.abandonSheet n k).queuesWithinCapacity := by
  cases k with
  | simplex | front => exact fits_setSheets h (List.length_filter_le _ _)
  | back => exact fits_updateSheet _ _ h

theorem fits_deliverSheet (x : Sheet) (l : List SideRecord) (h : a.queuesWithinCapacity) :
    (a.deliverSheet x l).queuesWithinCapacity := by
  have committed := h.keep (queues_commitSides a x l)
  have delivered := fits_setSheets committed (List.tail_sublist _).length_le
  exact delivered.keep (by rw [State.deliverSheet, queues_drainOwner, queues_countSheet])

/-- A new sheet joins a queue that holds fewer than eight, and a BACK side one of its sheets (R87, R89). -/
theorem fits_makeSide (v : VideoRead) (j : JobRecord) {k : SideKind} (m : PlaneMask)
    (room : a.queueTakes v.slot k = true) (h : a.queuesWithinCapacity) :
    (a.makeSide v j k m).queuesWithinCapacity := by
  have placed (x : SideRecord) :
      ((a.reserve j.account x.reservation).placeSide v.slot j.account k x).queuesWithinCapacity := by
    have reserved : (a.reserve j.account x.reservation).queuesWithinCapacity := h
    cases k with
    | simplex | front =>
      obtain ⟨directives, _, link⟩ := h
      refine ⟨directives, ?_, link⟩
      have fewer : a.charging.sheets.length < 8 := of_decide_eq_true room
      show (a.charging.sheets ++ [_]).length ≤ 8
      simp only [List.length_append, List.length_singleton]
      omega
    | back => exact fits_updateSheet _ _ reserved
  exact placed _

theorem fits_abandon (c : AbandonCause) (h : a.queuesWithinCapacity) : (a.abandon c).queuesWithinCapacity := by
  have side (o : OpenSide) : (a.abandonSide o c).queuesWithinCapacity := by
    have handed := fits_handBand (a.currentPlane o.region) o.bandDots h
    have left := fits_abandonSheet o.sheet o.kind (handed.keep (queues_releaseSide _ o))
    refine left.keep ?_
    rw [State.abandonSide, queues_askNotice, queues_frameAbandoned, queues_setOpenSide, queues_updateJob]
  unfold State.abandon
  split
  · split
    · exact (side _).keep (queues_drainTest _ _)
    · exact side _
  · exact h

/-! ### The band parser -/

theorem fits_restartFraming (v : VideoRead) (h : a.queuesWithinCapacity) :
    (a.restartFraming v).queuesWithinCapacity := by
  unfold State.restartFraming
  split
  · refine .keep ?_ (queues_setFraming _ _ _ _)
    split
    · exact fits_abandon _ h
    · exact h
  · exact h

theorem fits_framingError (v : VideoRead) (o : Nat) (x : FramingReason) (h : a.queuesWithinCapacity) :
    (a.framingError v o x).queuesWithinCapacity := by
  refine .keep ?_ (queues_setFraming _ _ _ _)
  split
  · exact fits_abandon _ h
  · exact h

/-- The side-start checks end with the room in the sheet queue (R87 check 7). -/
theorem queueTakes_of_sideRefusal {slot : Nat} {j : JobRecord} {k : SideKind} {m : PlaneMask}
    (h : a.sideRefusal slot j k m = none) : a.queueTakes slot k = true := by
  simp only [State.sideRefusal] at h
  split_ifs at h with _ _ _ _ _ _ full
  simpa using full

theorem fits_startSide (v : VideoRead) (o : Nat) (x : BandHeader) (k : SideKind) (p : Plane)
    (h : a.queuesWithinCapacity) : (a.startSide v o x k p).1.queuesWithinCapacity := by
  have cleared : (a.abandonForStart v.index).queuesWithinCapacity := fits_abandon _ h
  simp only [State.startSide]
  split
  · exact cleared
  · split
    · exact cleared
    · exact .keep (fits_makeSide v _ _ (queueTakes_of_sideRefusal ‹_›) cleared) (queues_consumeHeader _ _ _ _ _)

theorem fits_takeHeader (v : VideoRead) (o : Nat) (bs : List Byte) (h : a.queuesWithinCapacity) :
    (a.takeHeader v o bs).1.queuesWithinCapacity := by
  simp only [State.takeHeader]
  split
  · exact fits_framingError v o _ h
  · exact h.keep (queues_consumeHeader _ _ _ _ _)
  · exact fits_startSide v o _ _ _ h

theorem fits_endBand (i : Nat) (p : Plane) (c : Nat) (h : a.queuesWithinCapacity) :
    (a.endBand i p c).queuesWithinCapacity := by
  simp only [State.endBand]
  split
  · rename_i o _
    have handed := (fits_handBand (some p) o.bandDots h).keep
      (t := (((a.handBand (some p) o.bandDots).setOpenSide
        (some { o with bandDots := 0, nextBand := o.nextBand + 1 })).setFraming i .atHeader c)) (by simp)
    split
    · exact fits_drawUnit (by decide) (fits_updateSheet _ _ handed)
    · exact handed
  · exact h.keep (queues_setFraming _ _ _ _)

/-- One turn of the parser after another: payload is counted, a header is taken (R81). -/
theorem fits_parseFrom (v : VideoRead) (n o : Nat) (bs : List Byte) (h : a.queuesWithinCapacity) :
    (State.parseFrom v n a o bs).1.queuesWithinCapacity := by
  induction n generalizing a o bs with
  | zero => exact h
  | succ n ih =>
    cases bs with
    | nil => exact h
    | cons b bs =>
      simp only [State.parseFrom]
      split
      · split
        · exact ih _ _ (fits_endBand _ _ _ (h.keep (queues_countPayload _ _ _ _)))
        · exact h.keep (by simp)
      · split
        · exact h
        · have taken := fits_takeHeader v o ((b :: bs).take 32) h
          split
          · rename_i passed
            rw [passed] at taken
            exact ih _ _ taken
          · rename_i refused
            rw [refused] at taken
            exact taken
      · exact h
      · exact h

theorem fits_parseRead (v : VideoRead) (bs : List Byte) (h : a.queuesWithinCapacity) :
    (a.parseRead v bs).1.queuesWithinCapacity :=
  fits_parseFrom v _ _ bs h

theorem fits_parseVideo (t : Transaction) (i : Nat) (r : Region) (h : a.queuesWithinCapacity) :
    (a.parseVideo t i r).queuesWithinCapacity := by
  have restarted := fits_restartFraming (videoReadOf t i r) h
  simp only [State.parseVideo]
  split
  · exact restarted
  · rename_i key _
    have parsed := fits_parseRead (videoReadOf t i r)
      ((a.restartFraming (videoReadOf t i r)).plainBytes t r key) restarted
    split
    all_goals
      rename_i result
      rw [result] at parsed
      exact parsed

/-! ### The subordinate port -/

theorem fits_decipheredRead (t : Transaction) (q : Role) (i : Nat) (r : Region) (h : a.queuesWithinCapacity) :
    (a.decipheredRead t q i r).queuesWithinCapacity := by
  unfold State.decipheredRead
  split
  · unfold State.videoRead
    split
    · exact h
    · exact fits_parseVideo t i r h
  · exact h.keep (queues_decipherRead _ _ _ _ _)

theorem fits_takeTransaction (t : Transaction) (h : a.queuesWithinCapacity) :
    (a.takeTransaction t).queuesWithinCapacity := by
  simp only [State.takeTransaction]
  split
  · exact h
  · split
    · exact h.keep (queues_passTransaction _ _ _)
    · exact h.keep (queues_forward _ _)
    · exact h
    · exact h.keep (queues_encipherWrite _ _ _ _ _)
    · exact fits_decipheredRead t _ _ _ h
    · exact h
    · exact h

/-! ### The engine lines and the close deadline -/

theorem fits_engSheet (h : a.queuesWithinCapacity) : a.engSheet.queuesWithinCapacity := by
  unfold State.engSheet
  split
  · unfold State.sheetDelivered
    split
    · exact fits_deliverSheet _ _ h
    · exact .keep (fits_deliverSheet _ _ h) (queues_askNotice _ _ _)
    · exact .keep (fits_deliverSheet _ _ (fits_abandon _ h)) (queues_askNotice _ _ _)
    · exact .keep (fits_abandon _ h) (queues_askNotice _ _ _)
  · exact h

theorem fits_engJam (h : a.queuesWithinCapacity) : a.engJam.queuesWithinCapacity := by
  have emptied := fits_setSheets (q := []) (fits_abandon .jam h) (Nat.zero_le _)
  exact emptied.keep (by rw [State.engJam, queues_askNotice, queues_dropSheets])

theorem fits_closeDeadline (slot : Nat) (h : a.queuesWithinCapacity) :
    (a.closeDeadline slot).queuesWithinCapacity := by
  unfold State.closeDeadline
  split
  · split
    · refine .keep ?_ (queues_completeClose _ _ _ _ _)
      refine .keep (fits_setSheets ?_ (by simp)) (queues_updateJob _ _ _)
      split
      · exact fits_abandon _ h
      · exact h
    · exact h
  · exact h

/-! ### Lockdown -/

theorem fits_enterBlocks (e : CauseEvent) (h : a.queuesWithinCapacity) : (a.enterBlocks e).queuesWithinCapacity := by
  have abandoned := fits_abandon .lockdown (h.keep (queues_enterMode a e))
  have orphaned := fits_setSheets abandoned
    (q := ((a.enterMode e).abandon .lockdown).charging.sheets.map fun x => { x with owner := .orphan }) (by simp)
  exact orphaned.keep (by
    rw [State.enterBlocks, queues_meterEntry, queues_freeAllSlots, queues_freeAllRegions, queues_eraseKeys]
    rfl)

theorem fits_takeCause (e : CauseEvent) (h : a.queuesWithinCapacity) : (a.takeCause e).queuesWithinCapacity := by
  unfold State.takeCause
  split
  · exact h
  · exact fits_answerWaiting (fits_enterBlocks e h)

theorem fits_keyFaultReport (h : a.queuesWithinCapacity) : a.keyFaultReport.queuesWithinCapacity := by
  unfold State.keyFaultReport
  split
  · exact fits_takeCause _ h
  · exact h

theorem fits_afterLockdown (before : State) (h : a.queuesWithinCapacity) :
    (before.afterLockdown a).queuesWithinCapacity := by
  unfold State.afterLockdown
  split
  · exact h
  · exact fits_answerWaiting h

end Sys2Proof.Machine
end

section
/-! The capacities of the three queues under every step (R24, R94, R144, R145). -/

namespace Sys2Proof.Machine

variable {s t : State}

/-! ### Directives at their owners -/

/-- A directive whose owner leaves the queues keeps the capacities. -/
theorem fits_runDirective_of_queues (name : DirectiveName) {owner : Directive → State → Verdict × State}
    (h : s.queuesWithinCapacity) (ho : ∀ d, (owner d s).2.queues = s.queues) :
    (s.runDirective name owner).queuesWithinCapacity :=
  fits_runDirective name h fun d => h.keep (ho d)

theorem queues_ownNote (s : State) (d : Directive) : (ownNote d s).2.queues = s.queues := by
  unfold ownNote
  split
  · rfl
  · exact (queues_deliver _ _).trans (queues_takeAllNotices s)

theorem queues_ownSetNoticeRing (s : State) (d : Directive) : (ownSetNoticeRing d s).2.queues = s.queues := by
  simp only [ownSetNoticeRing]
  split <;> rfl

theorem queues_ownSetAttentionMask (s : State) (d : Directive) : (ownSetAttentionMask d s).2.queues = s.queues := by
  simp only [ownSetAttentionMask]
  split <;> rfl

theorem queues_ownRecover (s : State) (d : Directive) : (ownRecover d s).2.queues = s.queues := by
  unfold ownRecover
  (repeat' split) <;> rfl

theorem queues_ownJobClose (s : State) (d : Directive) : (ownJobClose d s).2.queues = s.queues := by
  simp only [ownJobClose, withNamedJob]
  (repeat' split) <;> simp

theorem queues_ownSetTariff (s : State) (d : Directive) : (ownSetTariff d s).2.queues = s.queues := by
  simp only [ownSetTariff]
  (repeat' split) <;> rfl

theorem queues_ownSetLowMark (s : State) (d : Directive) : (ownSetLowMark d s).2.queues = s.queues := by
  simp only [ownSetLowMark]
  split <;> simp

theorem queues_ownSnapshot (s : State) (d : Directive) : (ownSnapshot d s).2.queues = s.queues := by
  simp only [ownSnapshot]
  split <;> rfl

theorem queues_ownRestore (s : State) (d : Directive) : (ownRestore d s).2.queues = s.queues := by
  simp only [ownRestore]
  split <;> rfl

theorem fits_ownCheckNow (d : Directive) (h : s.queuesWithinCapacity) : (ownCheckNow d s).2.queuesWithinCapacity := by
  simp only [ownCheckNow]
  split
  · exact h
  · rename_i inside
    have requested := fits_requestLink .authenticate (show d.arg checkNowForm 0 < 5 by omega) h
    split
    · exact h
    · split
      · exact h
      · split
        · exact requested
        · exact h

/-! ### Every command -/

/-- A command whose footprint holds no part with a bounded queue keeps the capacities. -/
theorem fits_of_footprint {c : Instr} (hs : s.queuesWithinCapacity) (h : exec c s = .next t)
    (hD : .directive ∉ footprint c) (hH : .charging ∉ footprint c) (hL : .link ∉ footprint c) :
    t.queuesWithinCapacity :=
  hs.keep (queues_of_touches (exec_footprint h) hD hH hL)

/-- Every queue is empty after reset (R33, R94, R144). -/
theorem fits_resetTo (cause : ResetCause) : (s.resetTo cause).queuesWithinCapacity :=
  ⟨Nat.zero_le _, Nat.zero_le _, Nat.zero_le _, List.nodup_nil, fun _ he => absurd he List.not_mem_nil⟩

/-- Every command keeps the capacities of the queues. -/
theorem fits_exec {c : Instr} (hs : s.queuesWithinCapacity) (h : exec c s = .next t) : t.queuesWithinCapacity := by
  cases c with
  | subordinateTransaction t =>
    simp only [exec, execSubordinateTransaction] at h
    split at h
    · cases h
      exact fits_takeTransaction t hs
    · cases h
  | keyFaultReport => cases h; exact fits_keyFaultReport hs
  | directiveEntry q => cases h; exact fits_directiveEntry q hs
  | replyWriteDone => cases h; exact fits_replyWriteDone hs
  | summaryWriteDone => cases h; exact hs.keep (queues_summaryWriteDone s)
  | noticeWrite => cases h; exact hs.keep (queues_takeNotice s)
  | note => cases h; exact fits_runDirective_of_queues _ hs (queues_ownNote s)
  | setNoticeRing => cases h; exact fits_runDirective_of_queues _ hs (queues_ownSetNoticeRing s)
  | setAttentionMask => cases h; exact fits_runDirective_of_queues _ hs (queues_ownSetAttentionMask s)
  | clearAttention => cases h; exact fits_runDirective_of_queues _ hs fun _ => rfl
  | lockdown =>
    cases h
    exact fits_afterLockdown _ (fits_runDirective _ hs fun _ => fits_enterBlocks _ hs)
  | recover => cases h; exact fits_runDirective_of_queues _ hs (queues_ownRecover s)
  | jobClose => cases h; exact fits_runDirective_of_queues _ hs (queues_ownJobClose s)
  | setTariff => cases h; exact fits_runDirective_of_queues _ hs (queues_ownSetTariff s)
  | checkNow => cases h; exact fits_runDirective _ hs fun d => fits_ownCheckNow d hs
  | setLowMark => cases h; exact fits_runDirective_of_queues _ hs (queues_ownSetLowMark s)
  | snapshot => cases h; exact fits_runDirective_of_queues _ hs (queues_ownSnapshot s)
  | restore => cases h; exact fits_runDirective_of_queues _ hs (queues_ownRestore s)
  | status | setRoles | regionBind | regionUnbind | regionRead | jobOpen | jobHold | jobRelease | jobRead | accountSet
  | accountAdjust | accountSuspend | accountResume | accountRead | accountClear | periodClose | sheetsRead
  | consumableRead | setSchedule | meterRead =>
    cases h
    exact fits_runDirective_of_queues _ hs fun d => queues_of_quiet (by simp [quietParts])
  | restoreReadEnd => cases h; exact hs.keep (queues_restoreReadEnd s)
  | closeDeadline slot => cases h; exact fits_closeDeadline slot hs
  | engSheet => cases h; exact fits_engSheet hs
  | engJam => cases h; exact fits_engJam hs
  | scnPage => cases h; exact hs.keep (queues_scnPage s)
  | presenceRise p => cases h; exact fits_presenceRise p hs
  | presenceFall p => cases h; exact fits_presenceFall p hs
  | epochBoundary => cases h; exact fits_epochBoundary hs
  | linkEntryStart =>
    cases h
    split
    · exact hs.keep (queues_beginOldest s)
    · exact hs
  | requestFrameSent => cases h; exact hs.keep (queues_requestFrameSent s)
  | replyFrame bs b =>
    cases h
    split
    · exact hs
    · exact fits_replyFrame bs b hs
  | replyTimeout => cases h; exact fits_replyTimeout hs
  | quietEnd => cases h; exact hs.keep (queues_quietEnd s)
  | pwrWarn => cases h; exact hs.keep (queues_pwrWarn s)
  | bankComplete => cases h; exact hs.keep (queues_bankComplete s)
  | tamperFall =>
    cases h
    split
    · exact fits_takeCause _ hs
    · exact hs
  | powerOn => cases h; exact fits_resetTo _
  | resetN => cases h; exact fits_resetTo _
  | snapshotImageCopy | snapshotCompositionEnd | presenceLineChange _ _ | tamperRise | restoreAreaRead _
  | pwrWarnRelease =>
    exact fits_of_footprint hs h (by simp [footprint]) (by simp [footprint]) (by simp [footprint])

/-- Settles O58: a command at the front of the queue keeps the capacities, and so does the clock, which leaves the
queues. -/
theorem queuesStayWithinTheirCapacity : Obligations.QueuesStayWithinTheirCapacity := by
  intro s t hs h
  unfold step at h
  split at h
  · rename_i c rest _
    exact fits_exec (s := { s with pending := rest }) hs h
  · cases h
    unfold State.tick
    split <;> exact hs

end Sys2Proof.Machine
end

section
/-! The clock (R39), and the directive unit under its own directives: the notice ring and attention (R35 to R38). -/

namespace Sys2Proof.Machine

/-! ### The clock -/

/-- Settles O2, by whether anything has come due. -/
theorem emptyQueueRunsTheClock : Obligations.EmptyQueueRunsTheClock := by
  intro s empty
  have ticks : step s = .next s.tick := by simp only [step, empty]
  rw [ticks]
  unfold State.tick
  cases due : s.dueSteps with
  | nil => rfl
  | cons c cs => rfl

/-! ### An owner that changes the directive unit -/

/-- A directive of no account, answered in NORMAL mode by an owner that changes the directive unit: the reply joins that
unit's work, and of the other parts only those that the owner touches change (R25, R27). -/
theorem runDirective_answered {ps : List Part} {s u : State} {name : DirectiveName} {d : Directive} {a : Answer}
    {owner : Directive → State → Verdict × State} (h : s.takes name d) (ho : owner d s = (.answer a, u))
    (touched : Touches ps s u) (hD : .directive ∈ ps)
    (hc : ¬(DirectiveName.accountSet.code ≤ name.code ∧ name.code ≤ DirectiveName.accountClear.code)) :
    (s.runDirective name owner).directive = u.directive.answered d a 0 ∧
      s.changesOnly (s.runDirective name owner) ps := by
  rw [runDirective_takes owner h, ho]
  refine ⟨?_, ((touches_finish d a hD).mpr touched).changesOnly⟩
  have generation := replyGeneration_eq_zero h.1 hc u
  simp only [State.conclude, State.finish, State.reply, State.handWriter, generation]
  rfl

@[simp] theorem finish_memory (s : State) (d : Directive) (a : Answer) : (s.finish d a).memory = s.memory := rfl

/-! ### Attention -/

/-- Settles O18. -/
theorem attentionIsMaskedAndCleared : Obligations.AttentionIsMaskedAndCleared := by
  constructor
  · intro s d takes
    refine ⟨_, rfl, ?_⟩
    split
    · rename_i beyond
      have refused : ownSetAttentionMask d s = (.answer (.refuse .refusedRange .badOperand), s) := if_pos beyond
      exact runDirective_answers_only takes refused (by decide)
    · rename_i inside
      have masked : ownSetAttentionMask d s =
          (.answer (.done [u16 s.directive.mask.toNat]),
            s.setDirective { s.directive with mask := BitVec.ofNat 9 (d.arg setAttentionMaskForm 0) }) :=
        if_neg inside
      exact runDirective_answered (ps := [.directive]) takes masked (by simp) (by simp) (by decide)
  · intro s d takes
    have cleared : ownClearAttention d s =
        (.answer (.done [u16 s.ringHead, u32 s.ringWritten]), s.setDirective { s.directive with attn := false }) := rfl
    exact ⟨_, rfl, runDirective_answered (ps := [.directive]) takes cleared (by simp) (by simp) (by decide)⟩

/-! ### The notice ring -/

/-- Notices delivered leave the requests that wait, the executing directive and the part mode. -/
theorem deliver_keeps (s : State) (q : NoticeRequest) :
    (s.deliver q).directive.notices = s.directive.notices ∧
      (s.deliver q).directive.executing = s.directive.executing ∧ (s.deliver q).lockdown = s.lockdown ∧
      (s.deliver q).directive.ring.isSome = s.directive.ring.isSome ∧ (s.deliver q).now = s.now := by
  unfold State.deliver
  split
  · exact ⟨rfl, rfl, rfl, rfl, rfl⟩
  · rename_i ring
    exact ⟨rfl, rfl, rfl, by rw [ring]; rfl, rfl⟩

theorem deliverAll_keeps (s : State) (qs : List NoticeRequest) :
    (s.deliverAll qs).directive.notices = s.directive.notices ∧
      (s.deliverAll qs).directive.executing = s.directive.executing ∧ (s.deliverAll qs).lockdown = s.lockdown ∧
      (s.deliverAll qs).directive.ring.isSome = s.directive.ring.isSome ∧ (s.deliverAll qs).now = s.now := by
  induction qs generalizing s with
  | nil => exact ⟨rfl, rfl, rfl, rfl, rfl⟩
  | cons q qs ih =>
    obtain ⟨notices, executing, lockdown, ring, now⟩ := deliver_keeps s q
    obtain ⟨notices', executing', lockdown', ring', now'⟩ := ih (s.deliver q)
    exact ⟨notices'.trans notices, executing'.trans executing, lockdown'.trans lockdown, ring'.trans ring,
      now'.trans now⟩

/-- All the taking of every waiting request keeps: the executing directive, the part mode, whether the ring is set, and
the time; no request waits after it. -/
theorem takeAllNotices_keeps (s : State) :
    s.takeAllNotices.directive.notices = [] ∧ s.takeAllNotices.directive.executing = s.directive.executing ∧
      s.takeAllNotices.lockdown = s.lockdown ∧
      s.takeAllNotices.directive.ring.isSome = s.directive.ring.isSome ∧ s.takeAllNotices.now = s.now :=
  deliverAll_keeps _ _

/-- Where no request waits, there is none to take. -/
theorem takeAllNotices_of_nil {s : State} (h : s.directive.notices = []) : s.takeAllNotices = s := by
  rw [State.takeAllNotices, h, State.deliverAll, ← h]
  rfl

theorem takeAllNotices_idem (s : State) : s.takeAllNotices.takeAllNotices = s.takeAllNotices :=
  takeAllNotices_of_nil (takeAllNotices_keeps s).1

/-- NOTE with the ring set: the owner's answer after the requests before it (R36; log 15). -/
theorem ownNote_of_ring {s : State} (d : Directive) (h : s.directive.ring ≠ none) :
    ownNote d s =
      (.answer (.done [u16 s.takeAllNotices.ringHead, u32 (s.takeAllNotices.deliver d.hostNote).ringWritten]),
        s.takeAllNotices.deliver d.hostNote) := by
  simp only [ownNote, Option.isNone_iff_eq_none]
  exact if_neg h

/-- A notice delivered with the ring set (R34). -/
theorem deliver_of_ring {s : State} {r : Ring} (q : NoticeRequest) (h : s.directive.ring = some r) :
    s.deliver q =
      (s.store (r.base + 32 * r.head) (q.bytes s.now)).setDirective
        { s.directive with
          ring := some { r with head := (r.head + 1) % r.count, written := r.written + 1 }
          attn := s.directive.attn || inMask s.directive.mask q.kind.noticeClass } := by
  simp only [State.deliver, h]

theorem overlapsOtherOwned_iff {s : State} {base length : Nat} :
    s.overlapsOtherOwned base length = true ↔
      ∃ a ∈ s.directive.owned, a.source ≠ .noticeRing ∧ overlaps base length a.base a.length = true := by
  simp [State.overlapsOtherOwned]

/-- The tests of R35 as statements. -/
theorem ringRefusal_eq (s : State) (base count : Nat) :
    s.ringRefusal base count =
      if base % 32 ≠ 0 ∨ count < 16 ∨ 4096 < count then some (.refuse .refusedRange .badOperand)
      else if 2 ^ 40 < base + 32 * count then some (.refuse .refusedRange .badRange)
      else if s.overlapsRegion base (32 * count) = true then some (.refuse .refusedRange .overlapRegion)
      else if s.overlapsOtherOwned base (32 * count) = true then some (.refuse .refusedRange .overlapOwned)
      else none := rfl

/-- Settles O17. -/
theorem noticeRingIsSetAndNotedIn : Obligations.NoticeRingIsSetAndNotedIn := by
  refine ⟨?noted, ?waiting, ?unset, ?set⟩
  case noted =>
    intro s d r takes ring idle canonical
    have set : s.directive.ring ≠ none := by simp [ring]
    have noted := ownNote_of_ring d set
    rw [takeAllNotices_of_nil idle, deliver_of_ring _ ring] at noted
    have answered := runDirective_answered (ps := [.directive, .memory]) takes noted (by simp) (by simp) (by decide)
    refine ⟨_, rfl, ?stored, ?unit, answered.2⟩
    case stored =>
      refine storesOnly_store canonical ?_
      rw [runDirective_takes _ takes, noted]
      simp only [State.conclude, finish_memory, setDirective_memory, State.store, setMemory_memory]
    case unit =>
      refine answered.1.trans ?_
      simp only [State.ringHead, ring]
      rfl
  case waiting =>
    intro s d takes set
    obtain ⟨_, executing, lockdown, ring, _⟩ := takeAllNotices_keeps s
    have takes' : s.takeAllNotices.takes .note d := by
      obtain ⟨⟨running, code⟩, normal⟩ := takes
      exact ⟨⟨executing.trans running, code⟩, by rw [lockdown]; exact normal⟩
    have set' : s.takeAllNotices.directive.ring ≠ none := by
      rwa [← Option.isSome_iff_ne_none, ring, Option.isSome_iff_ne_none]
    show Host.Outcome.next (s.runDirective .note ownNote) =
      .next (s.takeAllNotices.runDirective .note ownNote)
    rw [runDirective_takes _ takes, runDirective_takes _ takes', ownNote_of_ring d set, ownNote_of_ring d set',
      takeAllNotices_idem]
  case unset =>
    intro s d takes unset
    refine ⟨_, rfl, runDirective_answers_only takes ?_ (by decide)⟩
    simp [ownNote, unset]
  case set =>
    intro s d takes
    refine ⟨_, rfl, ?_⟩
    intro base count
    have tests := ringRefusal_eq s base count
    have refused : ∀ x, s.ringRefusal base count = some (.refuse .refusedRange x) →
        s.refuses (s.runDirective .setNoticeRing ownSetNoticeRing) d .refusedRange x 0 := by
      intro x refusal
      refine runDirective_answers_only takes ?_ (by decide)
      simp only [ownSetNoticeRing]
      rw [refusal]
    simp only [← overlapsOtherOwned_iff]
    split_ifs at tests ⊢
    iterate 4 exact refused _ tests
    have ringSet : ownSetNoticeRing d s =
        (.answer (.done [u16 s.ringHead, u32 s.ringWritten]), s.setRing base count) := by
      simp only [ownSetNoticeRing]
      rw [tests]
    obtain ⟨unit, frame⟩ := runDirective_answered (ps := [.directive]) takes ringSet (by simp) (by simp) (by decide)
    refine ⟨unit.trans ?_, frame⟩
    simp only [State.ringHead, State.ringWritten]
    cases s.directive.ring <;> rfl

end Sys2Proof.Machine
end

section
/-! A CONTROL write examined for a directive (R23), its entry and execution (R24, R25), and the writers (R27, R34,
R56). -/

namespace Sys2Proof.Machine

/-! ### The examination of a CONTROL write (R23) -/

/-- A CONTROL write that passes is treated PASS in both part modes (R11, R20). -/
theorem treatment_of_passesControlWrite {s : State} {t : Transaction} (h : s.passesControlWrite t) :
    ∃ y, s.treatmentOf t = (.pass, y) := by
  obtain ⟨_, write, role, place⟩ := h
  rcases place with locked | outside
  · exact ⟨s.regionOf t.address, by simp [State.treatmentOf, State.treatment, State.locked, locked, role,
      lockedTreatment]⟩
  · cases mode : s.lockdown.mode with
    | normal => exact ⟨none, by rw [treatment_outside mode outside, role, write]; rfl⟩
    | lockdown => exact ⟨none, by rw [treatment_locked mode outside, role]; rfl⟩

/-- A CONTROL write treated PASS is stored and examined (R11, R23). -/
theorem passTransaction_of_controlWrite {s : State} {t : Transaction} (h : s.passesControlWrite t) :
    s.passTransaction t (s.roleOf t) = ((s.store t.address t.data).respond t.requester true []).examine t := by
  obtain ⟨_, write, role, _⟩ := h
  simp only [State.passTransaction, State.forward, write, role]

/-- The directive unit after the tests of R23 in order. -/
theorem examine_directive (s : State) (t : Transaction) :
    (s.examine t).directive =
      if t.beats ≠ 4 ∨ t.address % 64 ≠ 0 ∨ t.data.take 8 ≠ directiveMarker then s.directive
      else if s.overlapsOwned t.address 64 = true then
        s.directive.asked [noticeOf .placement [u8 t.requester, u64 t.address]]
      else if t.tagVerifies = false then s.directive.asked [noticeOf .tagFail [u8 t.requester, u64 t.address]]
      else
        { s.directive with
          recognised := s.directive.recognised ++ [Directive.ofBytes t.data t.address t.requester]
          owned := s.directive.owned ++ [{ base := t.address, length := 64, source := .replyLocation }] } := by
  simp only [State.examine, Bool.not_eq_true', ← or_assoc (a := t.beats ≠ 4)]
  by_cases place : t.beats ≠ 4 ∨ t.address % 64 ≠ 0
  · rw [if_pos place, if_pos (.inl place)]
  · rw [if_neg place]
    by_cases marker : t.data.take 8 ≠ directiveMarker
    · rw [if_pos marker, if_pos (.inr marker)]
    · rw [if_neg marker, if_neg (not_or.mpr ⟨place, marker⟩)]
      (repeat' split) <;> rfl

/-- Settles O12. -/
theorem controlWriteIsExaminedForADirective : Obligations.ControlWriteIsExaminedForADirective := by
  intro t s passes canonical
  obtain ⟨y, treated⟩ := treatment_of_passesControlWrite passes
  refine ⟨_, exec_pass passes.1 treated, ?_⟩
  rw [passTransaction_of_controlWrite passes]
  refine ⟨examine_transaction _ t, storesOnly_store canonical (examine_memory _ t), examine_directive _ t, ?_⟩
  apply Touches.changesOnly
  simp

/-! ### Entry and execution (R24, R25) -/

theorem isFrom_iff {requester : Nat} {d : Directive} : d.isFrom requester = true ↔ d.requester = requester := by
  simp [Directive.isFrom]

/-- The oldest recognised directive of a requester leaves those recognised and is entered (R24). -/
theorem directiveEntry_of_oldest {s : State} {requester : Nat} {before after : List Directive} {d : Directive}
    (recognised : s.directive.recognised = before ++ d :: after) (others : ∀ x ∈ before, x.requester ≠ requester)
    (own : d.requester = requester) :
    s.directiveEntry requester =
      (s.setDirective { s.directive with recognised := before ++ after }).enter d := by
  have skip : ∀ x ∈ before, ¬x.isFrom requester = true := fun x hx => isFrom_iff.not.mpr (others x hx)
  have found : s.directive.recognised.find? (Directive.isFrom requester) = some d := by
    rw [recognised, List.find?_append, List.find?_eq_none.mpr skip, Option.none_or,
      List.find?_cons_of_pos (isFrom_iff.mpr own)]
  have left : s.directive.recognised.eraseP (Directive.isFrom requester) = before ++ after := by
    rw [recognised, List.eraseP_append_right _ skip, List.eraseP_cons_of_pos (isFrom_iff.mpr own)]
  simp only [State.directiveEntry, found, left]

/-- A code outside the code table names no directive (R24). -/
theorem ofCode_directive_isNone_iff {code : Nat} :
    (DirectiveName.ofCode? code).isNone = true ↔ ∀ n ∈ DirectiveName.all, n.code ≠ code := by
  rw [Option.isNone_iff_eq_none, DirectiveName.ofCode?, List.find?_eq_none]
  simp only [beq_iff_eq, ne_eq]

/-- In LOCKDOWN every directive but STATUS and RECOVER is answered LOCKED (R24, R25). -/
theorem locked_and_not_executed_iff {s : State} {code : Nat} :
    (s.locked && !executedInLockdown code) = true ↔
      s.lockdown.mode = .lockdown ∧ code ≠ DirectiveName.status.code ∧ code ≠ DirectiveName.recover.code := by
  simp [State.locked, executedInLockdown]

/-- A directive answered at once: its reply is handed over, and it takes no place (R24, R27). -/
theorem replyAtOnce_directive (s : State) (d : Directive) (o : OutcomeCode) :
    (s.replyAtOnce d o).directive =
      s.directive.handed [d.replyOf ⟨o, .none, []⟩ (s.replyGeneration d.code d.operands) s.now] := rfl

/-- The directive unit once the oldest waiting directive has become executing and met the general tests of R25. -/
theorem dispatchNext_directive {s : State} {d : Directive} {ds : List Directive}
    (executing : s.directive.executing = none) (queue : s.directive.queue = d :: ds) :
    let u : DirectiveUnit := { s.directive with queue := ds }
    let g := s.replyGeneration d.code d.operands
    s.dispatchNext.directive =
      if d.badFlag = true then u.answered d (s.generalAnswer d .refusedRange .badFlag) g
      else if s.lockdown.mode = .lockdown ∧ d.code ≠ DirectiveName.status.code ∧
          d.code ≠ DirectiveName.recover.code then
        u.answered d (s.generalAnswer d .locked .none) g
      else { u with executing := some { directive := d, phase := .running } } := by
  simp only [← locked_and_not_executed_iff, State.dispatchNext, executing, queue]
  (repeat' split) <;> rfl

/-- While a directive is executing, or where none waits, no directive becomes executing (R25). -/
theorem dispatchNext_of_idle {s : State} (h : s.directive.executing ≠ none ∨ s.directive.queue = []) :
    s.dispatchNext = s := by
  simp only [State.dispatchNext]
  split
  · rename_i executing queue
    rcases h with busy | empty
    · exact absurd executing busy
    · rw [queue] at empty
      cases empty
  · rfl

/-- A directive joins the queue as its newest (R24). -/
def State.joined (s : State) (d : Directive) : State :=
  s.setDirective { s.directive with queue := s.directive.queue ++ [d] }

/-- The directive unit after a directive has been entered, by the tests of R24 in order and those of R25 where it
becomes executing at once. -/
theorem enter_directive {s : State} (d : Directive)
    (idle : s.directive.executing = none → s.directive.queue = []) :
    let g := s.replyGeneration d.code d.operands
    (s.enter d).directive =
      if s.lockdown.mode = .lockdown ∧ d.code ≠ DirectiveName.status.code ∧
          d.code ≠ DirectiveName.recover.code then
        s.directive.handed [d.replyOf .locked g s.now]
      else if ∀ n ∈ DirectiveName.all, n.code ≠ d.code then
        s.directive.handed [d.replyOf ⟨.unknown, .none, []⟩ g s.now]
      else if 4 ≤ s.directive.queue.length then s.directive.handed [d.replyOf ⟨.busy, .none, []⟩ g s.now]
      else if s.directive.executing ≠ none then { s.directive with queue := s.directive.queue ++ [d] }
      else if d.badFlag = true then s.directive.answered d (s.generalAnswer d .refusedRange .badFlag) g
      else { s.directive with executing := some { directive := d, phase := .running } } := by
  intro g
  simp only [State.enter, locked_and_not_executed_iff, ofCode_directive_isNone_iff]
  by_cases locked : s.lockdown.mode = .lockdown ∧ d.code ≠ DirectiveName.status.code ∧
      d.code ≠ DirectiveName.recover.code
  · rw [if_pos locked, if_pos locked]
    rfl
  rw [if_neg locked, if_neg locked]
  split
  · rfl
  split
  · rfl
  show (s.joined d).dispatchNext.directive = _
  split
  · rename_i busy
    rw [dispatchNext_of_idle (s := s.joined d) (.inl busy)]
    rfl
  · rename_i free
    have free : s.directive.executing = none := not_not.mp free
    have alone : s.directive.queue = [] := idle free
    have unit : { s.directive with queue := [] } = s.directive := by rw [← alone]
    have last : (s.joined d).directive.queue = [d] := congrArg (· ++ [d]) alone
    have next := dispatchNext_directive (s := s.joined d) free last
    rw [next, if_neg (show ¬((s.joined d).lockdown.mode = .lockdown ∧ _) from locked)]
    conv_rhs => rw [← unit]
    rfl

/-! ### The writers (R27, R34, R56) -/

/-- The state after the reply writer's oldest work, a reply, has been written, before the executing directive is
looked at (R27). -/
def State.replyWritten (s : State) (r : Reply) : State :=
  ((s.popWriter).store r.location r.bytes).disown r.location .replyLocation

theorem replyWriteDone_of_reply {s : State} {r : Reply} {rest : List WriterItem}
    (writes : s.directive.writes = .reply r :: rest) :
    s.replyWriteDone = (s.replyWritten r).afterReply r.location := by
  simp only [State.replyWriteDone, writes, State.replyWritten]

/-- The directive unit once a reply has been written and its area has left the owned-area list (R27, R31). -/
theorem replyWritten_directive {s : State} {r : Reply} {rest : List WriterItem}
    (writes : s.directive.writes = .reply r :: rest) :
    (s.replyWritten r).directive =
      { s.directive with
        writes := rest
        owned := s.directive.owned.filter fun a => !(a.base == r.location && a.source == .replyLocation) } := by
  have tail : s.directive.writes.tail = rest := by rw [writes]; rfl
  rw [← tail]
  rfl

/-- The executing directive whose reply has been written is finished with (R25). -/
def State.doneExecuting (s : State) : State := s.setDirective { s.directive with executing := none }

theorem afterReply_of_awaits {s : State} {l : Nat} (h : s.awaitsReplyAt l = true) :
    s.afterReply l = s.doneExecuting.dispatchNext := if_pos h

theorem awaitsReplyAt_replyWritten (s : State) (r : Reply) (l : Nat) :
    (s.replyWritten r).awaitsReplyAt l = s.awaitsReplyAt l := rfl

/-- Settles O13. -/
theorem directivesAreEnteredAndExecutedInOrder : Obligations.DirectivesAreEnteredAndExecutedInOrder := by
  constructor
  · intro s requester before after d recognised others own idle
    refine ⟨_, rfl, ((touches_directiveEntry requester (by simp)).mpr (touches_refl _ s)).changesOnly, ?_⟩
    rw [directiveEntry_of_oldest recognised others own]
    exact enter_directive (s := s.setDirective { s.directive with recognised := before ++ after }) d idle
  · intro s d n more r rest executing writes place queue
    refine ⟨_, rfl, ?_⟩
    have awaits : s.awaitsReplyAt r.location = true := by simp [State.awaitsReplyAt, executing, place]
    have moved : s.replyWriteDone = (s.replyWritten r).doneExecuting.dispatchNext :=
      (replyWriteDone_of_reply writes).trans (afterReply_of_awaits awaits)
    have next := dispatchNext_directive (s := (s.replyWritten r).doneExecuting) (d := n) (ds := more) rfl queue
    have written : (s.replyWritten r).doneExecuting.directive.writes = rest :=
      congrArg DirectiveUnit.writes (replyWritten_directive writes)
    rw [moved, next, ← written]
    refine ⟨by (repeat' split) <;> rfl, ?_⟩
    split
    · exact ⟨rfl, rfl⟩
    · split
      · rename_i locked
        rw [if_pos (show (s.replyWritten r).doneExecuting.lockdown.mode = .lockdown ∧ _ from locked)]
        exact ⟨rfl, rfl⟩
      · rename_i free
        rw [if_neg (show ¬((s.replyWritten r).doneExecuting.lockdown.mode = .lockdown ∧ _) from free)]
        exact ⟨rfl, rfl⟩

/-- With no directive executing, the oldest waiting one leaves the queue, and beside that only the executing place and
the reply writer's work can change (R25). -/
theorem dispatchNext_frame {s : State} (executing : s.directive.executing = none) :
    s.dispatchNext.directive =
      { s.directive with
        writes := s.dispatchNext.directive.writes, executing := s.dispatchNext.directive.executing
        queue := s.directive.queue.tail } := by
  cases queue : s.directive.queue with
  | nil =>
    rw [dispatchNext_of_idle (.inr queue), List.tail_nil, ← queue]
  | cons d ds =>
    rw [dispatchNext_directive executing queue]
    (repeat' split) <;> rfl

theorem afterReply_memory (s : State) (l : Nat) : (s.afterReply l).memory = s.memory :=
  (touches_afterReply (ps := [.directive]) l (by simp)).mpr (touches_refl _ s) .memory (by simp)

/-- Settles O14. -/
theorem writersTakeTheirOldestWork : Obligations.WritersTakeTheirOldestWork := by
  refine ⟨?reply, ?summary, ?notice⟩
  case reply =>
    intro s r rest writes canonical
    have written := replyWriteDone_of_reply writes
    refine ⟨_, rfl, length_replyBytes r, storesOnly_store canonical ?_, ?_,
      ((touches_replyWriteDone (by simp) (by simp)).mpr (touches_refl _ s)).changesOnly⟩
    · rw [written, afterReply_memory, State.replyWritten, disown_memory, store_memory]
      rfl
    · intro owned
      have unit := replyWritten_directive writes
      split
      · rename_i awaits
        have moved : s.replyWriteDone = (s.replyWritten r).doneExecuting.dispatchNext :=
          written.trans (afterReply_of_awaits awaits)
        have done : (s.replyWritten r).doneExecuting.directive =
            { s.directive with writes := rest, owned := owned, executing := none } := by
          rw [State.doneExecuting, setDirective_directive, unit]
        rw [moved]
        refine ⟨(dispatchNext_frame rfl).trans (by rw [done]), fun empty => ?_⟩
        rw [dispatchNext_of_idle (.inr (by rw [done]; exact empty)), done]
        exact ⟨rfl, rfl⟩
      · rename_i other
        rw [written, State.afterReply, if_neg (by rwa [awaitsReplyAt_replyWritten]), unit]
  case summary =>
    intro s location m rest writes canonical
    have tail : s.directive.writes.tail = rest := by rw [writes]; rfl
    have written : s.summaryWriteDone = ((s.popWriter).store location m.bytes).disown location .closeSummary := by
      simp only [State.summaryWriteDone, writes]
    refine ⟨_, rfl, length_summaryBytes m, storesOnly_store canonical ?_, ?_,
      ((touches_summaryWriteDone (by simp) (by simp)).mpr (touches_refl _ s)).changesOnly⟩
    · rw [written, disown_memory, store_memory]
      rfl
    · rw [written, ← tail]
      rfl
  case notice =>
    intro s q rest notices canonical
    have taken : s.takeNotice = (s.setDirective { s.directive with notices := rest }).deliver q := by
      simp only [State.takeNotice, notices]
    refine ⟨_, rfl, length_noticeBytes q s.now, ?_⟩
    cases ring : s.directive.ring with
    | none =>
      have discarded : s.takeNotice = s.setDirective { s.directive with notices := rest } := by
        rw [taken]
        simp only [State.deliver, setDirective_directive, ring]
      rw [discarded]
      exact ⟨rfl, Touches.changesOnly (by simp)⟩
    | some r =>
      have wrote := taken.trans
        (deliver_of_ring (s := s.setDirective { s.directive with notices := rest }) q ring)
      rw [wrote]
      refine ⟨storesOnly_store canonical ?_, rfl, Touches.changesOnly (by simp)⟩
      rw [setDirective_memory, store_memory]
      rfl

end Sys2Proof.Machine
end

section
/-! Directives answered with another outcome than DONE (R25, R28, R30). -/

namespace Sys2Proof.Machine

/-! ### Directives, their owners and their commands -/

/-- What the owner of a directive makes of it. -/
def DirectiveName.owner : DirectiveName → Directive → State → Verdict × State
  | .status => ownStatus
  | .note => ownNote
  | .setNoticeRing => ownSetNoticeRing
  | .setAttentionMask => ownSetAttentionMask
  | .clearAttention => ownClearAttention
  | .setRoles => ownSetRoles
  | .lockdown => ownLockdown
  | .recover => ownRecover
  | .regionBind => ownRegionBind
  | .regionUnbind => ownRegionUnbind
  | .regionRead => ownRegionRead
  | .jobOpen => ownJobOpen
  | .jobHold => ownJobHold
  | .jobRelease => ownJobRelease
  | .jobClose => ownJobClose
  | .jobRead => ownJobRead
  | .accountSet => ownAccountSet
  | .accountAdjust => ownAccountAdjust
  | .accountSuspend => ownAccountSuspend
  | .accountResume => ownAccountResume
  | .accountRead => ownAccountRead
  | .accountClear => ownAccountClear
  | .periodClose => ownPeriodClose
  | .setTariff => ownSetTariff
  | .sheetsRead => ownSheetsRead
  | .consumableRead => ownConsumableRead
  | .checkNow => ownCheckNow
  | .setLowMark => ownSetLowMark
  | .setSchedule => ownSetSchedule
  | .snapshot => ownSnapshot
  | .restore => ownRestore
  | .meterRead => ownMeterRead

/-- The command of a directive other than LOCKDOWN is the step at which its owner takes it (R25). -/
theorem exec_command {name : DirectiveName} (h : name ≠ .lockdown) (s : State) :
    exec name.command s = .next (s.runDirective name name.owner) := by
  cases name
  case lockdown => exact absurd rfl h
  all_goals rfl

theorem executedInLockdown_iff {name : DirectiveName} :
    executedInLockdown name.code = true ↔ name = .status ∨ name = .recover := by
  cases name <;> decide

theorem code_eq_setRoles_iff {name : DirectiveName} : name.code = DirectiveName.setRoles.code ↔ name = .setRoles := by
  cases name <;> decide

/-- In LOCKDOWN every directive but STATUS and RECOVER, LOCKDOWN among them, is answered LOCKED (R25, R30). -/
theorem exec_command_locked {s : State} {name : DirectiveName} {d : Directive} (h : s.awaitsOwner name d)
    (locked : s.lockdown.mode = .lockdown) (status : name ≠ .status) (recover : name ≠ .recover) :
    exec name.command s = .next (s.finish d (s.generalAnswer d .locked .none)) := by
  have closed : executedInLockdown name.code = false := by
    rw [Bool.eq_false_iff, ne_eq, executedInLockdown_iff]
    exact not_or.mpr ⟨status, recover⟩
  by_cases lockdown : name = .lockdown
  · subst lockdown
    show Host.Outcome.next (s.afterLockdown (s.runDirective .lockdown ownLockdown)) = _
    rw [runDirective_locked _ h locked closed]
    exact congrArg Host.Outcome.next (if_pos rfl)
  · rw [exec_command lockdown, runDirective_locked _ h locked closed]

/-! ### What owners change -/

/-- An owner that answers with another outcome than DONE has changed nothing (R28). -/
def onlyDoneChanges (s : State) (v : Verdict × State) : Prop :=
  ∀ a, v.1 = .answer a → a.outcome ≠ .done → v.2 = s

@[simp] theorem onlyDoneChanges_same (s : State) (v : Verdict) : onlyDoneChanges s (v, s) := fun _ _ _ => rfl

@[simp] theorem onlyDoneChanges_done (s u : State) (x : Detail) (bytes : List Byte) :
    onlyDoneChanges s (.answer ⟨.done, x, bytes⟩, u) := by
  intro a same other
  cases same
  exact absurd rfl other

@[simp] theorem onlyDoneChanges_doneWith (s u : State) (vs : List Val) : onlyDoneChanges s (.answer (.done vs), u) :=
  onlyDoneChanges_done s u .none (layout vs)

@[simp] theorem onlyDoneChanges_parked (s u : State) : onlyDoneChanges s (.parked, u) := by
  intro a same
  cases same

theorem onlyDoneChanges_withNamedJob {s : State} {slot number : Nat} {owner : JobRecord → Verdict × State}
    (h : ∀ j, onlyDoneChanges s (owner j)) : onlyDoneChanges s (withNamedJob slot number s owner) := by
  unfold withNamedJob
  split
  · simp
  · exact h _
  · simp

/-- Every owner changes nothing where its outcome is not DONE: each test that fails answers on the state as it is. -/
theorem onlyDoneChanges_owner (name : DirectiveName) (d : Directive) (s : State) :
    onlyDoneChanges s (name.owner d s) := by
  cases name with
  | jobHold | jobRelease | jobClose =>
    refine onlyDoneChanges_withNamedJob fun j => ?_
    (repeat' split) <;> simp
  | status | clearAttention | lockdown | periodClose =>
    simp [DirectiveName.owner, ownStatus, ownClearAttention, ownLockdown, ownPeriodClose]
  | _ =>
    simp only [DirectiveName.owner, ownNote, ownSetNoticeRing, ownSetAttentionMask, ownSetRoles, ownRecover,
      ownRegionBind, State.bindRegion, ownRegionUnbind, ownRegionRead, ownJobOpen, ownJobRead, ownAccountSet,
      ownAccountAdjust, ownAccountSuspend, ownAccountResume, changeAccountState, ownAccountRead, ownAccountClear,
      ownSetTariff, ownSheetsRead, ownConsumableRead, ownCheckNow, ownSetLowMark, ownSetSchedule, ownSnapshot,
      ownRestore, ownMeterRead]
    (repeat' split) <;> simp

/-- Every part but the directive unit. -/
def partsBesideDirective : List Part :=
  [.transaction, .cipher, .job, .parser, .charging, .account, .consumable, .link, .meter, .lockdown, .memory, .pending]

theorem directive_of_touches {s t : State} (h : Touches partsBesideDirective s t) : t.directive = s.directive :=
  h .directive (by decide)

/-- The time is that of the state where the owner answers; where it parks the reply, nothing is said. -/
def answersNow (s : State) (v : Verdict × State) : Prop := ∀ a, v.1 = .answer a → v.2.now = s.now

theorem answersNow_of_now {s : State} {v : Verdict × State} (h : v.2.now = s.now) : answersNow s v := fun _ _ => h

theorem answersNow_parked (s u : State) : answersNow s (.parked, u) := by
  intro a same
  cases same

theorem answersNow_ownNote (d : Directive) (s : State) : answersNow s (ownNote d s) := by
  refine answersNow_of_now ?_
  unfold ownNote
  split
  · rfl
  · obtain ⟨_, _, _, _, delivered⟩ := deliver_keeps s.takeAllNotices d.hostNote
    obtain ⟨_, _, _, _, taken⟩ := takeAllNotices_keeps s
    exact delivered.trans taken

theorem answersNow_ownJobClose (d : Directive) (s : State) : answersNow s (ownJobClose d s) := by
  simp only [ownJobClose, withNamedJob]
  split
  · exact answersNow_of_now rfl
  · split
    · exact answersNow_of_now rfl
    · exact answersNow_parked s _
  · exact answersNow_of_now rfl

theorem answersNow_ownSnapshot (d : Directive) (s : State) : answersNow s (ownSnapshot d s) := by
  simp only [ownSnapshot]
  split
  · exact answersNow_of_now rfl
  · exact answersNow_parked s _

theorem answersNow_ownRestore (d : Directive) (s : State) : answersNow s (ownRestore d s) := by
  simp only [ownRestore]
  split
  · exact answersNow_of_now rfl
  · exact answersNow_parked s _

theorem answersNow_ownSetLowMark (d : Directive) (s : State) : answersNow s (ownSetLowMark d s) := by
  refine answersNow_of_now ?_
  simp only [ownSetLowMark, noticeLowIf_eq]
  split <;> rfl

/-- An owner but that of LOCKDOWN leaves the directive queue, and one that answers leaves the time. -/
theorem owner_keeps {name : DirectiveName} (h : name ≠ .lockdown) (d : Directive) (s : State) :
    (name.owner d s).2.directive.queue = s.directive.queue ∧ answersNow s (name.owner d s) := by
  have queue {v : Verdict × State} (kept : v.2.queues = s.queues) : v.2.directive.queue = s.directive.queue :=
    congrArg Queues.directives kept
  have quiet {v : Verdict × State} (touched : Touches partsBesideDirective s v.2) :
      v.2.directive.queue = s.directive.queue ∧ answersNow s v :=
    ⟨congrArg DirectiveUnit.queue (directive_of_touches touched),
      answersNow_of_now (congrArg DirectiveUnit.time (directive_of_touches touched))⟩
  cases name with
  | lockdown => exact absurd rfl h
  | note => exact ⟨queue (queues_ownNote s d), answersNow_ownNote d s⟩
  | jobClose => exact ⟨queue (queues_ownJobClose s d), answersNow_ownJobClose d s⟩
  | snapshot => exact ⟨queue (queues_ownSnapshot s d), answersNow_ownSnapshot d s⟩
  | restore => exact ⟨queue (queues_ownRestore s d), answersNow_ownRestore d s⟩
  | setLowMark => exact ⟨queue (queues_ownSetLowMark s d), answersNow_ownSetLowMark d s⟩
  | setNoticeRing =>
    refine ⟨queue (queues_ownSetNoticeRing s d), answersNow_of_now ?_⟩
    simp only [DirectiveName.owner, ownSetNoticeRing]
    split <;> rfl
  | setAttentionMask =>
    refine ⟨queue (queues_ownSetAttentionMask s d), answersNow_of_now ?_⟩
    simp only [DirectiveName.owner, ownSetAttentionMask]
    split <;> rfl
  | clearAttention => exact ⟨rfl, answersNow_of_now rfl⟩
  | recover =>
    refine ⟨queue (queues_ownRecover s d), answersNow_of_now ?_⟩
    simp only [DirectiveName.owner, ownRecover]
    (repeat' split) <;> rfl
  | _ => exact quiet (by simp [DirectiveName.owner, partsBesideDirective])

/-! ### The reply to a directive -/

/-- A directive whose owner takes it is answered LOCKED on the state as it is, or its owner's verdict is applied
(R25, R30). -/
theorem runDirective_cases {s : State} {name : DirectiveName} {d : Directive} (h : s.awaitsOwner name d)
    (owner : Directive → State → Verdict × State) :
    s.runDirective name owner = s.finish d (s.generalAnswer d .locked .none) ∨
      s.runDirective name owner = (owner d s).2.conclude d (owner d s).1 := by
  obtain ⟨executing, code⟩ := h
  simp only [State.runDirective, executing, code, if_true]
  split
  · exact .inl rfl
  · exact .inr rfl

/-- The reply of a directive that is finished is the newest of the reply writer's work (R27). -/
theorem finish_getLast (s : State) (d : Directive) (a : Answer) :
    (s.finish d a).directive.writes.getLast? = some (d.replyOf a (s.replyGeneration d.code d.operands) s.now) :=
  List.getLast?_concat

/-- What becomes executing where nothing was has been waiting (R25). -/
theorem mem_queue_of_dispatchNext {s : State} {e : Executing} (idle : s.directive.executing = none)
    (h : s.dispatchNext.directive.executing = some e) : e.directive ∈ s.directive.queue := by
  cases queue : s.directive.queue with
  | nil =>
    rw [dispatchNext_of_idle (.inr queue), idle] at h
    cases h
  | cons d ds =>
    have next : e.directive = d := by
      rw [dispatchNext_directive idle queue] at h
      split_ifs at h <;> (cases h; rfl)
    rw [next]
    exact List.mem_cons_self

/-- Settles O15: an owner answers on the state as it is unless the outcome is DONE. -/
theorem directivesNotDoneChangeNothing : Obligations.DirectivesNotDoneChangeNothing := by
  constructor
  · intro s name d awaits locked status recover
    refine ⟨_, exec_command_locked awaits locked status recover, ?_⟩
    have answer : s.generalAnswer d .locked .none =
        ⟨.locked, .none, if name = .setRoles then layout s.roleView else []⟩ := by
      simp only [State.generalAnswer, awaits.2, code_eq_setRoles_iff]
    rw [answer]
    exact finish_answers rfl
  · intro s t name d awaits other waiting run replying
    rw [exec_command other] at run
    obtain rfl := Host.Outcome.next.inj run
    rcases runDirective_cases awaits name.owner with locked | concluded
    · rw [locked]
      exact ⟨_, _, finish_getLast s d _, fun _ => finish_answers rfl⟩
    · obtain ⟨queue, time⟩ := owner_keeps other d s
      rw [concluded] at replying ⊢
      cases verdict : (name.owner d s).1 with
      | answer a =>
        have last := finish_getLast (name.owner d s).2 d a
        rw [time a verdict] at last
        refine ⟨a, _, last, fun outcome => ?_⟩
        have same := onlyDoneChanges_owner name d s a verdict outcome
        rw [same]
        exact finish_answers rfl
      | parked =>
        rw [verdict] at replying
        have waited : d ∈ (name.owner d s).2.directive.queue := mem_queue_of_dispatchNext rfl replying
        rw [queue] at waited
        exact absurd waited waiting

end Sys2Proof.Machine
end

section
/-! Job slots with their keys and regions (R10, R67), and the completion of a close (R56, R58). -/

namespace Sys2Proof.Machine

/-! ### Slots and keys -/

theorem slot_lt_of_jobAt {s : State} {slot : Nat} {j : JobRecord} (h : s.jobAt slot = some j) : slot < 32 := by
  by_contra beyond
  simp [State.jobAt, tget, beyond] at h

theorem jobAt_setJob_same (s : State) {slot : Nat} (r : Option JobRecord) (h : slot < 32) :
    (s.setJob slot r).jobAt slot = r :=
  tget_tset_same _ _ h

theorem jobAt_setJob_other (s : State) {slot k : Nat} (r : Option JobRecord) (h : k ≠ slot) :
    (s.setJob slot r).jobAt k = s.jobAt k :=
  tget_tset_other _ _ h

theorem jobAt_updateJob_same {s : State} {slot : Nat} {j : JobRecord} (f : JobRecord → JobRecord)
    (h : s.jobAt slot = some j) : (s.updateJob slot f).jobAt slot = some (f j) := by
  rw [State.updateJob, jobAt_setJob_same _ _ (slot_lt_of_jobAt h), h]
  rfl

theorem jobAt_updateJob_other (s : State) {slot k : Nat} (f : JobRecord → JobRecord) (h : k ≠ slot) :
    (s.updateJob slot f).jobAt k = s.jobAt k :=
  jobAt_setJob_other s _ h

theorem jobAt_of_job_eq {s t : State} (h : t.job = s.job) (slot : Nat) : t.jobAt slot = s.jobAt slot := by
  rw [State.jobAt, State.jobAt, h]

theorem key_setKey_none (s : State) (slot k : Nat) :
    (tget (s.setKey slot none).cipher.keys k : Option KeyEntry) = if k = slot then none else tget s.cipher.keys k := by
  split
  · rename_i same
    subst same
    by_cases inside : k < 32
    · exact tget_tset_same _ _ inside
    · exact dif_neg inside
  · exact tget_tset_other _ _ ‹_›

/-- The regions that stay bound when a slot's regions are freed are those of the other slots (R10). -/
theorem region_freeRegions_iff {s : State} {slot i : Nat} {r : Region} :
    (s.freeRegions slot).region i = some r ↔ s.region i = some r ∧ r.slot ≠ slot := by
  by_cases inside : i < 64
  · have entry : (s.freeRegions slot).region i = freeIfOf slot (s.region i) := tget_tmap _ _ inside
    rw [entry]
    cases s.region i with
    | none => simp [freeIfOf]
    | some q =>
      by_cases mine : q.slot = slot
      · simp only [freeIfOf, if_pos mine, reduceCtorEq, Option.some.injEq, false_iff, not_and, not_not]
        rintro rfl
        exact mine
      · simp only [freeIfOf, if_neg mine, Option.some.injEq]
        constructor
        · rintro rfl
          exact ⟨rfl, mine⟩
        · exact And.left
  · rw [region_beyond _ (by omega), region_beyond _ (by omega)]
    simp

/-! ### The completion of a close (R56, R58) -/

/-- The five steps of R56 on a CLOSING job. -/
theorem completeClose_of_closing {s : State} {slot : Nat} {j : JobRecord} {c : Closing} (job : s.jobAt slot = some j)
    (phase : j.phase = .closing c) (reason : CloseReason) (sheets sides : Nat) :
    s.completeClose slot reason sheets sides =
      ((((s.handSummary c (j.summarise slot reason sheets sides s.now)).setKey slot none).freeRegions slot).setJob slot
        none).replyParked c.parked (.done (closeResults j reason sheets sides c.summary.isSome s.now)) := by
  rw [State.completeClose, job]
  simp only [phase]

theorem handSummary_directive (s : State) (c : Closing) (m : JobSummary) :
    (s.handSummary c m).directive = s.directive.handed (c.summary.toList.map fun location => .summary location m) := by
  unfold State.handSummary
  cases c.summary with
  | none => simp [DirectiveUnit.handed]
  | some location => rfl

/-- Nothing but the directive unit takes part in the handing over of a summary. -/
theorem touches_handSummary_directive (s : State) (c : Closing) (m : JobSummary) :
    Touches [.directive] s (s.handSummary c m) := by simp

/-- A close that completes hands over its summary and then its reply, and does nothing more at the directive unit. -/
theorem completeClose_directive {s : State} {slot : Nat} {j : JobRecord} {c : Closing} (job : s.jobAt slot = some j)
    (phase : j.phase = .closing c) (reason : CloseReason) (sheets sides : Nat) :
    (s.completeClose slot reason sheets sides).directive =
      s.directive.handed (j.closed slot c.summary c.parked reason sheets sides s.now) := by
  rw [completeClose_of_closing job phase, State.replyParked, handWriter_directive, setJob_directive]
  simp only [State.freeRegions, setTransaction_directive, setKey_directive, State.now, setJob_directive,
    handSummary_directive, DirectiveUnit.handed, JobRecord.closed, List.append_assoc]
  rfl

/-- A close that completes frees its slot, with its key and its regions (R10, R56, R67). -/
theorem completeClose_freesSlot {s : State} {slot : Nat} {j : JobRecord} {c : Closing} (job : s.jobAt slot = some j)
    (phase : j.phase = .closing c) (reason : CloseReason) (sheets sides : Nat) :
    s.freesSlot (s.completeClose slot reason sheets sides) slot := by
  rw [completeClose_of_closing job phase]
  have kept := touches_handSummary_directive s c (j.summarise slot reason sheets sides s.now)
  generalize s.handSummary c (j.summarise slot reason sheets sides s.now) = a at kept
  have slots : ∀ k, a.jobAt k = s.jobAt k := jobAt_of_job_eq (kept .job (by simp))
  have cipher : a.cipher = s.cipher := kept .cipher (by simp)
  have transaction : a.transaction = s.transaction := kept .transaction (by simp)
  refine ⟨jobAt_setJob_same _ _ (slot_lt_of_jobAt job), fun k other => ?slots, ?cipher, ?erased, fun k other => ?keys,
    fun i r => ?regions, ?transaction⟩
  case slots => exact (jobAt_setJob_other _ _ other).trans (slots k)
  case cipher => rw [← cipher]; rfl
  case erased => exact (key_setKey_none a slot slot).trans (if_pos rfl)
  case keys => exact (key_setKey_none a slot k).trans (by rw [if_neg other, cipher])
  case regions =>
    have same : s.region i = a.region i := by rw [State.region, State.region, transaction]
    rw [same]
    exact region_freeRegions_iff (s := a.setKey slot none)
  case transaction => rw [← transaction]; rfl

/-- What a slot freed means reads the job, cipher and transaction units alone, and of the slot itself only the state
after. -/
theorem freesSlot_congr {s a t u : State} {slot : Nat} {before : List Part} (h : a.freesSlot t slot)
    (kept : Touches before s a) (hC : .cipher ∉ before) (hT : .transaction ∉ before)
    (others : ∀ k, k ≠ slot → a.jobAt k = s.jobAt k) (after : Touches [.directive] t u) : s.freesSlot u slot := by
  have job : u.job = t.job := after .job (by simp)
  have cipher : u.cipher = t.cipher := after .cipher (by simp)
  have transaction : u.transaction = t.transaction := after .transaction (by simp)
  have cipher' : a.cipher = s.cipher := kept .cipher hC
  have transaction' : a.transaction = s.transaction := kept .transaction hT
  obtain ⟨free, rest, unit, erased, keys, regions, table⟩ := h
  rw [State.freesSlot, State.jobAt, job, cipher, transaction, ← cipher', ← transaction']
  refine ⟨free, fun k other => ?_, unit, erased, keys, fun i r => ?_, table⟩
  · rw [jobAt_of_job_eq job, rest k other, others k other]
  · rw [State.region, State.region, transaction, ← transaction']
    exact regions i r

end Sys2Proof.Machine
end

section
/-! The job directives JOB_OPEN, JOB_HOLD, JOB_RELEASE and JOB_CLOSE (R43 to R47, R53, R55). -/

namespace Sys2Proof.Machine

/-! ### Job directives at their owner -/

/-- The directives that open, hold, release and close jobs. -/
def jobDirectives : List DirectiveName := [.jobOpen, .jobHold, .jobRelease, .jobClose]

theorem jobDirective_names_no_account {name : DirectiveName} (h : name ∈ jobDirectives) :
    ¬(DirectiveName.accountSet.code ≤ name.code ∧ name.code ≤ DirectiveName.accountClear.code) := by
  revert name
  decide

theorem jobDirective_not_in_lockdown {name : DirectiveName} (h : name ∈ jobDirectives) :
    executedInLockdown name.code = false ∧ name ≠ .setRoles := by
  revert name
  decide

variable {s : State} {name : DirectiveName} {d : Directive} {owner : Directive → State → Verdict × State}

/-- In LOCKDOWN a job directive is answered LOCKED (R25, R30). -/
theorem jobDirective_refused_locked (job : name ∈ jobDirectives) (h : s.awaitsOwner name d)
    (locked : s.lockdown.mode = .lockdown) : s.refuses (s.runDirective name owner) d .locked .none 0 := by
  obtain ⟨closed, roles⟩ := jobDirective_not_in_lockdown job
  have answer : s.generalAnswer d .locked .none = .refuse .locked .none := by
    simp only [State.generalAnswer, h.2, if_neg (code_eq_setRoles_iff.not.mpr roles)]
    rfl
  rw [runDirective_locked owner h locked closed, answer]
  exact finish_answers (replyGeneration_eq_zero h (jobDirective_names_no_account job) s).symm

theorem takes_of_not_locked (h : s.awaitsOwner name d) (free : s.lockdown.mode ≠ .lockdown) : s.takes name d := by
  refine ⟨h, ?_⟩
  cases mode : s.lockdown.mode with
  | normal => rfl
  | lockdown => exact absurd mode free

/-- A job directive that its owner refuses. -/
theorem jobDirective_refused (job : name ∈ jobDirectives) (takes : s.takes name d) {o : OutcomeCode} {x : Detail}
    (ho : owner d s = (.answer (.refuse o x), s)) : s.refuses (s.runDirective name owner) d o x 0 :=
  runDirective_answers_only takes ho (jobDirective_names_no_account job)

/-! ### Naming a job (R44) -/

/-- The tests of R44 in order, and then what the directive makes of the named record. -/
theorem withNamedJob_eq (s : State) (slot number : Nat) (own : JobRecord → Verdict × State) :
    withNamedJob slot number s own =
      if 31 < slot ∨ number = 0 then (.answer (.refuse .refusedRange .badOperand), s)
      else
        (s.jobAt slot).elim (.answer (.refuse .refusedState .noJob), s) fun j =>
          if j.number ≠ number then (.answer (.refuse .refusedState .noJob), s) else own j := by
  by_cases range : 31 < slot ∨ number = 0
  · simp only [withNamedJob, State.nameRefusal, if_pos range]
  · cases job : s.jobAt slot with
    | none => simp [withNamedJob, State.nameRefusal, if_neg range, State.jobNumber, job]
    | some j =>
      by_cases same : j.number = number <;>
        simp [withNamedJob, State.nameRefusal, if_neg range, State.jobNumber, job, same]

/-- A job directive that names a job: the tests that come first (R43, R44), and what follows for the record. -/
theorem runDirective_namesJob {slot number : Nat} {own : JobRecord → Verdict × State} {rest : JobRecord → Prop}
    (job : name ∈ jobDirectives) (h : s.awaitsOwner name d) (named : owner d s = withNamedJob slot number s own)
    (follows : ∀ j, s.takes name d → s.jobAt slot = some j → owner d s = own j → rest j) :
    s.namesJob (s.runDirective name owner) d slot number rest := by
  rw [withNamedJob_eq] at named
  unfold State.namesJob
  split
  · exact jobDirective_refused_locked job h ‹_›
  have takes := takes_of_not_locked h ‹_›
  split
  · rename_i range
    exact jobDirective_refused job takes (named.trans (if_pos range))
  rename_i range
  rw [if_neg range] at named
  split
  · rename_i free
    rw [free] at named
    exact jobDirective_refused job takes named
  · rename_i j held
    rw [held] at named
    split
    · rename_i other
      exact jobDirective_refused job takes (named.trans (if_pos other))
    · rename_i same
      exact follows j takes held (named.trans (if_neg same))

/-! ### JOB_OPEN (R45) -/

theorem getElem_slots {k : Nat} (h : k < (tlist s.job.slots).length) : (tlist s.job.slots)[k] = s.jobAt k := by
  simp only [tlist, Array.length_toList, Vector.size_toArray] at h
  simp [tlist, State.jobAt, tget, h]

theorem lowestFreeSlot_eq_none (full : ∀ k < 32, s.jobAt k ≠ none) : s.lowestFreeSlot = none := by
  refine List.findIdx?_eq_none_iff.mpr fun e he => ?_
  obtain ⟨k, hk, rfl⟩ := mem_tlist.mp he
  exact Option.isNone_eq_false_iff.mpr (Option.isSome_iff_ne_none.mpr (full k hk))

theorem lowestFreeSlot_eq_some {slot : Nat} (inside : slot < 32) (free : s.jobAt slot = none)
    (first : ∀ k < slot, s.jobAt k ≠ none) : s.lowestFreeSlot = some slot := by
  have listed : slot < (tlist s.job.slots).length := by simpa [tlist] using inside
  refine List.findIdx?_eq_some_iff_getElem.mpr ⟨listed, by rw [getElem_slots listed, free]; rfl, fun k hk => ?_⟩
  rw [getElem_slots (hk.trans listed)]
  simpa using first k hk

/-- The tests of R45 on a directive whose kind has a code, and the slot taken where none fails. -/
theorem ownJobOpen_eq {kind : JobKind} (code : ofCode? JobKind.all (d.arg jobOpenForm 1) = some kind) :
    ownJobOpen d s =
      if d.arg jobOpenForm 0 = 0 ∨ 2047 < d.arg jobOpenForm 2 then (.answer (.refuse .refusedRange .badOperand), s)
      else if 7 < d.arg jobOpenForm 3 then (.answer (.refuse .refusedRange .tariffClass), s)
      else if s.numberInUse (d.arg jobOpenForm 0) = true then (.answer (.refuse .duplicate .jobNumber), s)
      else if (s.accountAt (d.arg jobOpenForm 2)).state ≠ .active then (.answer (.refuse .refusedState .account), s)
      else
        s.lowestFreeSlot.elim (.answer (.refuse .noRoom .tableFull), s) fun slot =>
          (.answer (.done [u8 slot, u64 s.now]),
            (s.setJob slot
                (some
                  (.fresh (d.arg jobOpenForm 0) kind (d.arg jobOpenForm 2) (d.arg jobOpenForm 3) (d.arg jobOpenForm 4)
                    s.now))).drawKey slot) := by
  simp only [ownJobOpen, code]
  cases s.lowestFreeSlot <;> rfl

/-- Settles O23, by the tests of R45 in order. -/
theorem jobIsOpened : Obligations.JobIsOpened := by
  intro s d awaits
  refine ⟨_, rfl, ?_⟩
  intro number account tariff limit
  have job : DirectiveName.jobOpen ∈ jobDirectives := by decide
  split
  · exact jobDirective_refused_locked job awaits ‹_›
  have takes := takes_of_not_locked awaits ‹_›
  split
  · rename_i code
    exact jobDirective_refused job takes (by simp only [ownJobOpen, code])
  · rename_i kind code
    have tests := ownJobOpen_eq (s := s) code
    split_ifs at tests ⊢
    iterate 4 exact jobDirective_refused job takes tests
    refine ⟨fun full => ?full, fun slot inside free first => ?opened⟩
    case full =>
      rw [lowestFreeSlot_eq_none full] at tests
      exact jobDirective_refused job takes tests
    case opened =>
      rw [lowestFreeSlot_eq_some inside free first] at tests
      refine ⟨runDirective_answers takes tests rfl (by simp) (jobDirective_names_no_account job), ?_⟩
      show (s.runDirective .jobOpen ownJobOpen).job.slots = _ ∧ (s.runDirective .jobOpen ownJobOpen).cipher = _
      rw [runDirective_takes _ takes, tests]
      exact ⟨rfl, rfl⟩

/-! ### JOB_HOLD and JOB_RELEASE (R46, R47) -/

/-- The kinds that reach neither HELD nor RELEASED (R42). -/
theorem holds_eq_false_iff {k : JobKind} : k.holds = false ↔ k = .copy ∨ k = .print ∨ k = .scanSend := by
  cases k <;> simp [JobKind.holds]

theorem openSideOf_iff {slot : Nat} : s.openSideOf slot = true ↔ s.parser.openSide.map OpenSide.slot = some slot := by
  unfold State.openSideOf
  cases s.parser.openSide <;> simp

/-- A job directive that is answered DONE and has changed the named record alone. -/
theorem jobDirective_updates {slot : Nat} {j : JobRecord} {f : JobRecord → JobRecord} {vs : List Val}
    (job : name ∈ jobDirectives) (takes : s.takes name d) (held : s.jobAt slot = some j)
    (ho : owner d s = (.answer (.done vs), s.updateJob slot f)) :
    s.completes (s.runDirective name owner) d vs 0 [.job] ∧
      (s.runDirective name owner).job.slots = tset s.job.slots slot (some (f j)) := by
  refine ⟨runDirective_answers takes ho rfl (by simp) (jobDirective_names_no_account job), ?_⟩
  rw [runDirective_takes owner takes, ho]
  show tset s.job.slots slot ((s.jobAt slot).map f) = _
  rw [held]
  rfl

/-- Settles O24, by the tests of R44 and then those of R46 and of R47 in order. -/
theorem jobIsHeldAndReleased : Obligations.JobIsHeldAndReleased := by
  constructor
  · intro s d awaits
    refine ⟨_, rfl, ?_⟩
    have job : DirectiveName.jobHold ∈ jobDirectives := by decide
    refine runDirective_namesJob job awaits rfl fun j takes held tests => ?_
    simp only [Bool.not_eq_true', holds_eq_false_iff, openSideOf_iff] at tests
    split_ifs at tests ⊢
    iterate 3 exact jobDirective_refused job takes tests
    exact jobDirective_updates job takes held tests
  · intro s d awaits
    refine ⟨_, rfl, ?_⟩
    have job : DirectiveName.jobRelease ∈ jobDirectives := by decide
    refine runDirective_namesJob job awaits rfl fun j takes held tests => ?_
    split_ifs at tests ⊢
    iterate 3 exact jobDirective_refused job takes tests
    exact jobDirective_updates job takes held tests

/-! ### JOB_CLOSE (R53, R55) -/

/-- The tests 3 to 7 of R53; the tests of the location are made only where it is given. -/
theorem closeRefusal_eq (s : State) (j : JobRecord) {summary : Option Nat} {location : Nat}
    (h : summary = none ∨ summary = some location) :
    s.closeRefusal j summary =
      if summary ≠ none ∧ location % 64 ≠ 0 then some (.refuse .refusedRange .badOperand)
      else if summary ≠ none ∧ 2 ^ 40 < location + 64 then some (.refuse .refusedRange .badRange)
      else if j.phase.state = .closing then some (.refuse .refusedState .jobState)
      else if summary ≠ none ∧ s.overlapsRegion location 64 = true then some (.refuse .refusedRange .overlapRegion)
      else if summary ≠ none ∧ s.overlapsOwned location 64 = true then some (.refuse .refusedRange .overlapOwned)
      else none := by
  rcases h with rfl | rfl
  · simp [State.closeRefusal]
  · simp only [State.closeRefusal, addressEnd, ne_eq, reduceCtorEq, not_false_eq_true, true_and]

/-- The state in which a close has been accepted and the drain test has still to be made (R53). -/
def State.acceptsClose (s : State) (slot : Nat) (c : Closing) : State :=
  (s.updateJob slot fun j => { j with phase := .closing c }).ownSummary c.summary

theorem acceptsClose_directive (s : State) (slot : Nat) (c : Closing) :
    (s.acceptsClose slot c).directive =
      { s.directive with
        owned := s.directive.owned ++
          c.summary.toList.map fun l => { base := l, length := 64, source := .closeSummary } } := by
  unfold State.acceptsClose State.ownSummary
  cases c.summary with
  | none => simp
  | some location => rfl

theorem acceptsClose_now (s : State) (slot : Nat) (c : Closing) : (s.acceptsClose slot c).now = s.now := by
  rw [State.now, acceptsClose_directive]
  rfl

theorem acceptsClose_job (s : State) (slot : Nat) (c : Closing) :
    (s.acceptsClose slot c).job = (s.updateJob slot fun j => { j with phase := .closing c }).job := by
  unfold State.acceptsClose State.ownSummary
  cases c.summary <;> rfl

theorem acceptsClose_jobAt_same {slot : Nat} {j : JobRecord} (c : Closing) (held : s.jobAt slot = some j) :
    (s.acceptsClose slot c).jobAt slot = some { j with phase := .closing c } :=
  (jobAt_of_job_eq (acceptsClose_job s slot c) slot).trans (jobAt_updateJob_same _ held)

theorem acceptsClose_jobAt_other {slot k : Nat} (c : Closing) (other : k ≠ slot) :
    (s.acceptsClose slot c).jobAt k = s.jobAt k :=
  (jobAt_of_job_eq (acceptsClose_job s slot c) k).trans (jobAt_updateJob_other s _ other)

theorem touches_acceptsClose (s : State) (slot : Nat) (c : Closing) :
    Touches [.directive, .job] s (s.acceptsClose slot c) := by
  simp [State.acceptsClose]

/-- The drain test of a CLOSING job (R55). -/
theorem drainTest_of_closing {slot : Nat} {j : JobRecord} {c : Closing} (held : s.jobAt slot = some j)
    (phase : j.phase = .closing c) :
    s.drainTest slot = if j.inQueue = 0 then s.completeClose slot .drained 0 0 else s := by
  simp [State.drainTest, held, phase, JobPhase.state]

/-- A close is accepted of a job with no side in the queue: it completes as drained in the same step (R55, R56). -/
theorem close_drained {t : State} {slot : Nat} {j : JobRecord} {c : Closing} (normal : s.lockdown.mode = .normal)
    (held : s.jobAt slot = some j) (empty : j.inQueue = 0)
    (taken : t = ((s.acceptsClose slot c).drainTest slot).conclude d .parked) :
    t.directive =
        s.movesOn ((s.acceptsClose slot c).directive.handed (j.closed slot c.summary c.parked .drained 0 0 s.now)) ∧
      s.freesSlot t slot ∧ s.changesOnly t [.directive, .job, .cipher, .transaction] := by
  have closing := acceptsClose_jobAt_same c held
  have accepted := touches_acceptsClose s slot c
  rw [drainTest_of_closing closing rfl, if_pos empty] at taken
  have unit := completeClose_directive closing rfl .drained 0 0
  have freed := completeClose_freesSlot closing rfl .drained 0 0
  have roles := completeClose_roles (s.acceptsClose slot c) slot .drained 0 0
  have ended : Touches [.directive, .job, .cipher, .transaction] s
      ((s.acceptsClose slot c).completeClose slot .drained 0 0) := by simp [State.acceptsClose]
  rw [acceptsClose_now] at unit
  generalize (s.acceptsClose slot c).completeClose slot .drained 0 0 = done at taken unit freed roles ended
  have concluded : Touches [.directive] done t := by simp [taken]
  refine ⟨?unit, ?freed, ?frame⟩
  case unit =>
    have transaction : (s.acceptsClose slot c).transaction = s.transaction := accepted .transaction (by simp)
    have account : done.account = s.account := ended .account (by simp)
    rw [transaction] at roles
    rw [taken, conclude_parked normal done (ended .lockdown (by simp)) roles (congrArg AccountUnit.accounts account),
      unit]
    rfl
  case freed => exact freesSlot_congr freed accepted (by simp) (by simp) (fun _ => acceptsClose_jobAt_other c) concluded
  case frame =>
    rw [taken]
    exact ((touches_conclude d .parked (by simp)).mpr ended).changesOnly

/-- A close is accepted of a job with sides in the queue: the job is CLOSING (R53). -/
theorem close_waits {t : State} {slot : Nat} {j : JobRecord} {c : Closing} (normal : s.lockdown.mode = .normal)
    (held : s.jobAt slot = some j) (queued : j.inQueue ≠ 0)
    (taken : t = ((s.acceptsClose slot c).drainTest slot).conclude d .parked) :
    t.directive = s.movesOn (s.acceptsClose slot c).directive ∧
      t.job.slots = tset s.job.slots slot (some { j with phase := .closing c }) ∧
      s.changesOnly t [.directive, .job] := by
  rw [drainTest_of_closing (acceptsClose_jobAt_same c held) rfl, if_neg queued] at taken
  have accepted := touches_acceptsClose s slot c
  have transaction : (s.acceptsClose slot c).transaction = s.transaction := accepted .transaction (by simp)
  have account : (s.acceptsClose slot c).account = s.account := accepted .account (by simp)
  have concluded : Touches [.directive] (s.acceptsClose slot c) t := by simp [taken]
  have job : t.job = (s.acceptsClose slot c).job := concluded .job (by simp)
  refine ⟨?unit, ?slots, ?frame⟩
  case unit =>
    rw [taken]
    exact conclude_parked normal _ (accepted .lockdown (by simp)) (congrArg TransactionUnit.roles transaction)
      (congrArg AccountUnit.accounts account)
  case slots =>
    rw [job, acceptsClose_job, updateJob_job, held]
    rfl
  case frame =>
    rw [taken]
    exact ((touches_conclude d .parked (by simp)).mpr accepted).changesOnly

/-- Settles O25, by the tests of R44 and of R53 in order. -/
theorem jobCloseIsAccepted : Obligations.JobCloseIsAccepted := by
  intro s d awaits
  refine ⟨_, rfl, ?_⟩
  intro slot location summary parked
  have job : DirectiveName.jobClose ∈ jobDirectives := by decide
  refine runDirective_namesJob job awaits rfl fun j takes held own => ?_
  let c : Closing := { summary := summary, deadline := s.now + closeTime, parked := parked }
  have owner : ownJobClose d s =
      (s.closeRefusal j summary).elim (.parked, (s.acceptsClose slot c).drainTest slot) fun a => (.answer a, s) := by
    refine own.trans ?_
    show (match s.closeRefusal j summary with
      | some a => (Verdict.answer a, s)
      | none => (Verdict.parked, (s.acceptsClose slot c).drainTest slot)) = _
    cases s.closeRefusal j summary <;> rfl
  have tests := closeRefusal_eq s j (summary := summary) (location := location) (ite_eq_or_eq ..)
  have refused : ∀ o x, s.closeRefusal j summary = some (.refuse o x) →
      s.refuses (s.runDirective .jobClose ownJobClose) d o x 0 :=
    fun o x refusal => jobDirective_refused job takes (owner.trans (by rw [refusal]; rfl))
  have taken : s.closeRefusal j summary = none →
      s.runDirective .jobClose ownJobClose = ((s.acceptsClose slot c).drainTest slot).conclude d .parked := by
    intro passes
    rw [runDirective_takes _ takes, owner, passes]
    rfl
  rw [← acceptsClose_directive s slot c]
  split_ifs at tests ⊢
  iterate 5 exact refused _ _ tests
  · exact close_drained takes.2 held ‹_› (taken tests)
  · exact close_waits takes.2 held ‹_› (taken tests)

end Sys2Proof.Machine
end

section
/-! The close deadline (R57, R58), with the abandonment of an open side that comes first (R92). -/

namespace Sys2Proof.Machine

/-! ### Operations that only ask for notices -/

/-- All that changes at the directive unit is that notices have been asked for (R34). -/
def State.asksOnly (s t : State) : Prop := ∃ requests, t.directive = s.directive.asked requests

variable {s a : State}

theorem State.asksOnly.now (h : s.asksOnly a) : a.now = s.now := by
  obtain ⟨requests, asked⟩ := h
  rw [State.now, asked]
  rfl

theorem asksOnly_of_eq (h : a.directive = s.directive) : s.asksOnly a :=
  ⟨[], by rw [h, DirectiveUnit.asked, List.append_nil]⟩

theorem State.asksOnly.trans {b : State} (h : s.asksOnly a) (h' : a.asksOnly b) : s.asksOnly b := by
  obtain ⟨first, asked⟩ := h
  obtain ⟨second, asked'⟩ := h'
  exact ⟨first ++ second, by simp [asked', asked, DirectiveUnit.asked]⟩

theorem asksOnly_askNotice (k : NoticeKind) (vs : List Val) (h : s.asksOnly a) : s.asksOnly (a.askNotice k vs) :=
  h.trans ⟨[noticeOf k vs], rfl⟩

theorem asksOnly_noticeLowIf (p : Nat) (b : Bool) (h : s.asksOnly a) : s.asksOnly (a.noticeLowIf p b) :=
  h.trans ⟨_, congrArg State.directive (noticeLowIf_eq a p b)⟩

theorem asksOnly_requestSync (p : Nat) (h : s.asksOnly a) : s.asksOnly (a.requestSync p) :=
  h.trans (asksOnly_of_eq (requestSync_directive a p))

theorem asksOnly_syncAfterDraw (p : Nat) (h : s.asksOnly a) : s.asksOnly (a.syncAfterDraw p) := by
  simp only [State.syncAfterDraw]
  split
  · exact asksOnly_requestSync p h
  · exact h

/-- A unit drawn asks for EXHAUSTED and LOW notices (R135, R137). -/
theorem asksOnly_drawUnit (p : Nat) (h : s.asksOnly a) : s.asksOnly (a.drawUnit p) := by
  simp only [State.drawUnit]
  split
  · exact h
  · split
    · exact asksOnly_syncAfterDraw p (h.trans (asksOnly_of_eq rfl))
    · refine asksOnly_syncAfterDraw p (asksOnly_noticeLowIf p _ ?ended)
      split
      · exact asksOnly_requestSync p (asksOnly_askNotice _ _ (h.trans (asksOnly_of_eq rfl)))
      · exact h.trans (asksOnly_of_eq rfl)

theorem asksOnly_drawUnits (p n : Nat) (h : s.asksOnly a) : s.asksOnly (a.drawUnits p n) := by
  induction n generalizing a with
  | zero => exact h
  | succ n ih => exact ih (asksOnly_drawUnit p h)

theorem asksOnly_handBand (plane : Option Plane) (dots : Nat) (h : s.asksOnly a) :
    s.asksOnly (a.handBand plane dots) := by
  unfold State.handBand
  split
  · split
    · simp only [State.handDots]
      split
      · exact h
      · exact asksOnly_drawUnits _ _ (h.trans (asksOnly_of_eq rfl))
    · exact h
  · exact h

/-- The steps 1 to 6 of R92 do nothing at the directive unit but ask for notices. -/
theorem asksOnly_abandonSide (o : OpenSide) (cause : AbandonCause) (h : s.asksOnly a) :
    s.asksOnly (a.abandonSide o cause) := by
  have left (b : State) : Touches [.transaction, .job, .parser, .charging, .account] b
      (((((b.releaseSide o).abandonSheet o.sheet o.kind).updateJob o.slot JobRecord.abandonSide).setOpenSide
        none).frameAbandoned o.region cause) := by simp
  exact asksOnly_askNotice _ _
    ((asksOnly_handBand (a.currentPlane o.region) o.bandDots h).trans (asksOnly_of_eq (left _ .directive (by simp))))

/-! ### An abandoned side -/

theorem abandonSide_openSide (s : State) (o : OpenSide) (cause : AbandonCause) :
    (s.abandonSide o cause).parser.openSide = none := by
  have framed (b : State) : Touches [.transaction] b (b.frameAbandoned o.region cause) := by simp
  rw [State.abandonSide, askNotice_parser]
  exact congrArg BandParser.openSide (framed _ .parser (by simp))

/-- The job's share of an abandonment (R92 step 4). -/
theorem abandonSide_jobAt (o : OpenSide) (cause : AbandonCause) {j : JobRecord}
    (held : s.jobAt o.slot = some j) : (s.abandonSide o cause).jobAt o.slot = some j.abandonSide := by
  have framed (b : State) : Touches [.parser, .transaction, .directive] b
      (((b.setOpenSide none).frameAbandoned o.region cause).askNotice .sideAbandoned
        (abandonedValues o (s.jobNumber o.slot) cause)) := by simp
  have before : Touches [.directive, .consumable, .link, .account, .charging] s
      (((s.handBand (s.currentPlane o.region) o.bandDots).releaseSide o).abandonSheet o.sheet o.kind) := by simp
  refine (jobAt_of_job_eq (framed _ .job (by simp)) o.slot).trans (jobAt_updateJob_same _ ?_)
  rw [jobAt_of_job_eq (before .job (by simp)), held]

/-! ### The close deadline (R57) -/

theorem deadlineDue_of_closing {slot : Nat} {j : JobRecord} {c : Closing} (held : s.jobAt slot = some j)
    (phase : j.phase = .closing c) : s.deadlineDue slot = decide (c.deadline ≤ s.now) := by
  simp only [State.deadlineDue, State.deadlineOf, held, Option.map_some, phase]

theorem closeDeadline_of_due {slot : Nat} {j : JobRecord} {c : Closing} (held : s.jobAt slot = some j)
    (phase : j.phase = .closing c) (due : c.deadline ≤ s.now) : s.closeDeadline slot = s.closeTimedOut slot j := by
  simp only [State.closeDeadline, held, deadlineDue_of_closing held phase, decide_eq_true due, if_true]

theorem closeDeadline_of_early {slot : Nat} {j : JobRecord} {c : Closing} (held : s.jobAt slot = some j)
    (phase : j.phase = .closing c) (early : s.now < c.deadline) : s.closeDeadline slot = s := by
  simp [State.closeDeadline, held, deadlineDue_of_closing held phase, early]

/-- The state in which a close that times out has still to complete: its sheets are ORPHAN, its sides in queue count is
0 and the CLOSE_TIMEOUT notice is asked for (R57). -/
def State.orphansClose (s : State) (slot : Nat) (j : JobRecord) (sheets sides : Nat) : State :=
  ((s.orphanSheetsOf slot).updateJob slot fun j => { j with inQueue := 0 }).askNotice .closeTimeout
    (timeoutValues slot j sheets sides)

theorem orphansClose_jobAt_same {slot : Nat} {j : JobRecord} (sheets sides : Nat) (held : s.jobAt slot = some j) :
    (s.orphansClose slot j sheets sides).jobAt slot = some { j with inQueue := 0 } :=
  jobAt_updateJob_same (s := s.orphanSheetsOf slot) _ held

theorem orphansClose_jobAt_other {slot k : Nat} (j : JobRecord) (sheets sides : Nat) (other : k ≠ slot) :
    (s.orphansClose slot j sheets sides).jobAt k = s.jobAt k :=
  jobAt_updateJob_other (s.orphanSheetsOf slot) _ other

theorem touches_orphansClose (s : State) (slot : Nat) (j : JobRecord) (sheets sides : Nat) :
    Touches [.directive, .job, .charging] s (s.orphansClose slot j sheets sides) := by
  simp [State.orphansClose]

/-- A close that times out completes as R58 says once any open side of the job is gone (R57). -/
theorem closeTimedOut_eq (s : State) (slot : Nat) (j : JobRecord) :
    let left := if s.openSideOf slot = true then s.abandon .closeTimeout else s
    let sheets := (left.sheetsOf slot).length
    let sides := ((left.sheetsOf slot).map fun h => h.sides.length).sum
    s.closeTimedOut slot j = (left.orphansClose slot j sheets sides).completeClose slot .timeout sheets sides := rfl

/-- A close that times out with no side of the job open (R57, R58). -/
theorem closeTimedOut_of_closed {slot : Nat} {j : JobRecord} {c : Closing} (held : s.jobAt slot = some j)
    (phase : j.phase = .closing c) (closed : s.openSideOf slot = false) :
    let t := s.closeTimedOut slot j
    let sheets := (s.sheetsOf slot).length
    let sides := ((s.sheetsOf slot).map fun h => h.sides.length).sum
    t.directive =
        (s.directive.asked [noticeOf .closeTimeout (timeoutValues slot j sheets sides)]).handed
          (j.closed slot c.summary c.parked .timeout sheets sides s.now) ∧
      s.freesSlot t slot ∧ t.charging = (s.orphanSheetsOf slot).charging ∧
      s.changesOnly t [.directive, .job, .cipher, .transaction, .charging] := by
  intro t sheets sides
  have timedOut : t = (s.orphansClose slot j sheets sides).completeClose slot .timeout sheets sides := by
    have steps := closeTimedOut_eq s slot j
    rwa [closed] at steps
  have closing := orphansClose_jobAt_same sheets sides held
  have orphaned := touches_orphansClose s slot j sheets sides
  have completed : Touches [.directive, .job, .cipher, .transaction] (s.orphansClose slot j sheets sides) t := by
    simp [timedOut]
  refine ⟨?unit, ?freed, completed .charging (by simp), ?frame⟩
  case unit =>
    rw [timedOut, completeClose_directive closing phase]
    rfl
  case freed =>
    rw [timedOut]
    exact freesSlot_congr (completeClose_freesSlot closing phase .timeout sheets sides) orphaned (by simp) (by simp)
      (fun _ => orphansClose_jobAt_other j sheets sides) (touches_refl _ _)
  case frame =>
    apply Touches.changesOnly
    simp [timedOut, State.orphansClose]

/-- The abandonment that a close deadline makes is not followed by a drain test (R55). -/
theorem abandon_closeTimeout {o : OpenSide} (side : s.parser.openSide = some o) :
    s.abandon .closeTimeout = s.abandonSide o .closeTimeout := by
  rw [State.abandon, side]
  rfl

/-- With a side of the job open, a close times out as it does once the side has been abandoned (R57 step 1). -/
theorem closeTimedOut_of_open {slot : Nat} {o : OpenSide} (side : s.parser.openSide = some o) (mine : o.slot = slot)
    (j : JobRecord) : s.closeTimedOut slot j = (s.abandonSide o .closeTimeout).closeTimedOut slot j := by
  have before : s.openSideOf slot = true := by
    rw [openSideOf_iff, side]
    exact congrArg some mine
  have after : (s.abandonSide o .closeTimeout).openSideOf slot = false := by
    rw [State.openSideOf, abandonSide_openSide]
  rw [closeTimedOut_eq, closeTimedOut_eq, before, after, abandon_closeTimeout side]
  rfl

/-- Settles O26, by whether the deadline has been reached and whether a side of the job is open. -/
theorem closeTimesOutAtItsDeadline : Obligations.CloseTimesOutAtItsDeadline := by
  refine ⟨?due, ?early, ?side⟩
  case due =>
    intro s slot j c held phase due side
    refine ⟨s.closeTimedOut slot j, congrArg Host.Outcome.next (closeDeadline_of_due held phase due), ?_⟩
    have closed : s.openSideOf slot = false := by
      rw [← Bool.not_eq_true, openSideOf_iff, Option.map_eq_some_iff]
      rintro ⟨o, opened, mine⟩
      exact side o opened mine
    have sheets : s.sheetsOf slot = s.charging.sheets.filter fun h => decide (h.owner = .job slot) := rfl
    have sides : (fun h : Sheet => h.sides.length) = fun h => 1 + h.back.toList.length := by
      funext h
      exact Nat.add_comm _ _
    have timedOut := closeTimedOut_of_closed held phase closed
    rw [sheets, sides] at timedOut
    exact timedOut
  case early =>
    intro s slot j c held phase early
    exact congrArg Host.Outcome.next (closeDeadline_of_early held phase early)
  case side =>
    intro s slot j c o held phase due side mine
    subst mine
    have now := (asksOnly_abandonSide o .closeTimeout (asksOnly_of_eq (rfl : s.directive = s.directive))).now
    have later : (s.abandonSide o .closeTimeout).closeDeadline o.slot =
        (s.abandonSide o .closeTimeout).closeTimedOut o.slot j.abandonSide :=
      closeDeadline_of_due (abandonSide_jobAt o .closeTimeout held) phase (by rwa [now])
    show Host.Outcome.next (s.closeDeadline o.slot) = .next ((s.abandon .closeTimeout).closeDeadline o.slot)
    rw [closeDeadline_of_due held phase due, closeTimedOut_of_open side rfl, abandon_closeTimeout side,
      later]
    -- the notice shows the record's number and account alone, which an abandonment leaves
    rfl

end Sys2Proof.Machine
end

section
/-! Transactions in a job region by the grant table (R12, R69 to R72), and what a read that is not deciphered gives. -/

namespace Sys2Proof.Machine

/-! ### The treatment selected -/

/-- Where a transaction lies and how it is treated there (R11, R12, R20). A region of no job stands in the last case. -/
theorem treatment_cases (s : State) (t : Transaction) :
    (s.lockdown.mode = .lockdown ∧ s.treatmentOf t = (lockedTreatment (s.roleOf t), s.regionOf t.address)) ∨
      (s.lockdown.mode = .normal ∧ s.treatmentOf t = (outsideTreatment (s.roleOf t) t.direction, none)) ∨
      (∃ i r j, s.inRegion t i r j ∧ s.treatmentOf t =
        (grant j.kind j.phase.state r.kind (s.roleOf t) t.direction j.scanStop, some (i, r))) ∨
      (∃ i r, s.lockdown.mode = .normal ∧ s.treatmentOf t = (.refused .noGrant, some (i, r))) := by
  cases mode : s.lockdown.mode with
  | lockdown => exact .inl ⟨rfl, by simp [State.treatmentOf, State.treatment, State.locked, mode]⟩
  | normal =>
    right
    cases region : s.regionOf t.address with
    | none => exact .inl ⟨rfl, by simp [State.treatmentOf, State.treatment, State.locked, mode, region]⟩
    | some found =>
      obtain ⟨i, r⟩ := found
      right
      cases job : s.jobAt r.slot with
      | none =>
        exact .inr ⟨i, r, rfl, by simp [State.treatmentOf, State.treatment, State.locked, mode, region, job]⟩
      | some j =>
        have inside : s.inRegion t i r j := ⟨mode, region, job⟩
        exact .inl ⟨i, r, j, inside, treatment_inRegion inside⟩

/-- In LOCKDOWN a transaction passes or is refused (R20). -/
theorem lockedTreatment_cases (role : Role) :
    lockedTreatment role = .pass ∨ lockedTreatment role = .refused .lockdown := by
  cases role <;> simp [lockedTreatment]

/-- Outside all regions a transaction passes or is refused (R11). -/
theorem outsideTreatment_cases (role : Role) (d : Direction) :
    outsideTreatment role d = .pass ∨ outsideTreatment role d = .refused .noRegion := by
  unfold outsideTreatment
  split <;> simp

/-- A transaction treated ENCIPHERED or DECIPHERED lies in a job's region, and the grant table says so (R12, R69). -/
theorem inRegion_of_cipher {s : State} {t : Transaction} {y : Treatment} {z : Option (Nat × Region)}
    (h : s.treatmentOf t = (y, z)) (cipher : y = .enciphered ∨ y = .deciphered) :
    ∃ i r j, s.inRegion t i r j ∧ z = some (i, r) ∧
      grant j.kind j.phase.state r.kind (s.roleOf t) t.direction j.scanStop = y := by
  rcases treatment_cases s t with ⟨_, treated⟩ | ⟨_, treated⟩ | ⟨i, r, j, inside, treated⟩ | ⟨i, r, _, treated⟩
  all_goals
    rw [h, Prod.mk.injEq] at treated
    obtain ⟨same, place⟩ := treated
  · rcases lockedTreatment_cases (s.roleOf t) with e | e <;> simp [same, e] at cipher
  · rcases outsideTreatment_cases (s.roleOf t) t.direction with e | e <;> simp [same, e] at cipher
  · exact ⟨i, r, j, inside, place, same.symm⟩
  · simp [same] at cipher

theorem exec_raw {s : State} {t : Transaction} {y : Option (Nat × Region)} (h : passesPort t)
    (ht : s.treatmentOf t = (.raw, y)) : exec (.subordinateTransaction t) s = .next (s.forward t) := by
  obtain ⟨formed, whole⟩ := h
  simp only [State.treatmentOf, State.roleOf] at ht
  simp [exec_transaction s formed, State.takeTransaction, whole, ht]

/-- What becomes of a transaction that is taken: it is refused, forwarded with or without the examination of R23, or
treated ENCIPHERED or DECIPHERED in a job's region (R1, R12, R69). -/
theorem transaction_cases {s u : State} {t : Transaction} (taken : exec (.subordinateTransaction t) s = .next u) :
    (∃ reason region, u = s.refuseAccess t (s.roleOf t) reason region) ∨ u = s.passTransaction t (s.roleOf t) ∨
      u = s.forward t ∨
      (∃ i r j, s.inRegion t i r j ∧
        grant j.kind j.phase.state r.kind (s.roleOf t) t.direction j.scanStop = .enciphered ∧
        u = s.encipherWrite t (s.roleOf t) i r) ∨
      (∃ i r j, s.inRegion t i r j ∧
        grant j.kind j.phase.state r.kind (s.roleOf t) t.direction j.scanStop = .deciphered ∧
        u = s.decipheredRead t (s.roleOf t) i r) := by
  have formed : t.wellFormed = true := by
    by_contra misformed
    simp [exec, execSubordinateTransaction, misformed] at taken
  rw [exec_transaction s formed] at taken
  cases taken
  by_cases across : splitsPage t = true
  · exact .inl ⟨.split, none, by rw [State.takeTransaction, if_pos across]; rfl⟩
  · obtain ⟨y, z, treated⟩ : ∃ y z, s.treatmentOf t = (y, z) := ⟨_, _, rfl⟩
    have selected : s.treatment (tget s.transaction.roles t.requester) t.direction t.address = (y, z) := treated
    simp only [State.takeTransaction, if_neg across, selected]
    cases y with
    | refused reason => exact .inl ⟨reason, z.map Prod.fst, rfl⟩
    | pass => exact .inr (.inl rfl)
    | raw => exact .inr (.inr (.inl rfl))
    | enciphered =>
      obtain ⟨i, r, j, inside, rfl, granted⟩ := inRegion_of_cipher treated (.inl rfl)
      exact .inr (.inr (.inr (.inl ⟨i, r, j, inside, granted, rfl⟩)))
    | deciphered =>
      obtain ⟨i, r, j, inside, rfl, granted⟩ := inRegion_of_cipher treated (.inr rfl)
      exact .inr (.inr (.inr (.inr ⟨i, r, j, inside, granted, rfl⟩)))

/-! ### Reads answered RAW or refused (R71) -/

/-- The roles and states of the table of R71. -/
theorem readsRaw_iff (state : JobState) (role : Role) :
    readsRaw state role = true ↔
      (role = .control ∧ (state = .active ∨ state = .held ∨ state = .released)) ∨
        (role = .store ∧ (state = .held ∨ state = .closing)) := by
  cases role <;> cases state <;> simp [readsRaw]

/-- The state of a job in a slot is not FREE (R43). -/
theorem phase_state_ne_free (p : JobPhase) : p.state ≠ .free := by
  cases p <;> simp [JobPhase.state]

/-- A read that is forwarded is answered with what memory holds. -/
theorem forward_answersRead (s : State) {t : Transaction} (read : t.direction = .read) :
    s.answersRead (s.forward t) t (s.stored t) := by
  rw [State.forward, read]
  exact ⟨rfl, Touches.changesOnly (by simp)⟩

/-- Settles O6, by the table of R71. -/
theorem readNotDecipheredIsRawOrRefused : Obligations.ReadNotDecipheredIsRawOrRefused := by
  intro t s i r j port read inside unread
  have treated := treatment_inRegion inside
  simp only [read, grant, grantRead, unread, Bool.false_eq_true, if_false] at treated
  have table : readsRaw j.phase.state (s.roleOf t) = true ↔
      (s.roleOf t = .control ∧ j.phase.state ≠ .closing) ∨
        (s.roleOf t = .store ∧ (j.phase.state = .held ∨ j.phase.state = .closing)) := by
    rw [readsRaw_iff]
    have held := phase_state_ne_free j.phase
    cases state : j.phase.state <;> simp_all
  split
  · rename_i raw
    rw [if_pos (table.mpr raw)] at treated
    exact ⟨_, exec_raw port treated, forward_answersRead s read⟩
  · rename_i others
    rw [if_neg (mt table.mp others)] at treated
    exact ⟨_, exec_refused port treated, refuseAccess_refuses .noGrant (some i)⟩

/-! ### Writes by the grant table (R72) -/

/-- What an enciphered write stores and counts (R12, R13, R16). -/
theorem encipherWrite_storesEnciphered {s : State} {t : Transaction} {r : Region} {key : JobKey} (i : Nat)
    (holds : s.holdsKey r.slot key) (canonical : s.memoryCanonical) :
    s.storesEnciphered (s.encipherWrite t (s.roleOf t) i r) t i r key := by
  refine ⟨?_, storesOnly_store canonical (encipherWrite_memory holds),
    (touches_encipherWrite_of_holdsKey holds).changesOnly⟩
  rw [encipherWrite_of_holdsKey _ holds]
  split <;> rfl

/-- A write that is forwarded stores its own bytes. -/
theorem forward_answersWrite {s : State} {t : Transaction} (write : t.direction = .write)
    (canonical : s.memoryCanonical) : s.answersWrite (s.forward t) t t.data := by
  rw [State.forward, write]
  exact ⟨rfl, storesOnly_store canonical rfl, Touches.changesOnly (by simp)⟩

/-- The table of R72 in the order of its rows. -/
theorem grantWrite_eq (state : JobState) (kind : RegionKind) (role : Role) (stop : Bool) :
    grantWrite state kind role stop =
      if role = .scan ∧ kind = .scan ∧ state = .active then if stop = true then .refused .scanStop else .enciphered
      else if (role = .control ∨ role = .pipeline) ∧ kind = .page ∧ (state = .active ∨ state = .released) then
        .enciphered
      else if role = .store ∧ state = .held then .raw
      else .refused .noGrant := by
  cases role <;> cases kind <;> cases state <;> rfl

/-- Settles O7, row by row of the table of R72. -/
theorem writeIntoARegionFollowsTheGrantTable : Obligations.WriteIntoARegionFollowsTheGrantTable := by
  intro t s i r j key port write inside holds canonical
  have treated := treatment_inRegion inside
  simp only [write, grant, grantWrite_eq] at treated
  split_ifs at treated ⊢
  · exact ⟨_, exec_refused port treated, refuseAccess_refuses .scanStop (some i)⟩
  · exact ⟨_, exec_enciphered port treated, encipherWrite_storesEnciphered i holds canonical⟩
  · exact ⟨_, exec_enciphered port treated, encipherWrite_storesEnciphered i holds canonical⟩
  · exact ⟨_, exec_raw port treated, forward_answersWrite write canonical⟩
  · exact ⟨_, exec_refused port treated, refuseAccess_refuses .noGrant (some i)⟩

/-! ### Who reads deciphered bytes (R70) -/

/-- The table of R70: the kind of the job, the kind of the region, the state of the job, and a role that reads
deciphered bytes there. -/
def decipheredTable : List (JobKind × RegionKind × JobState × Role) :=
  [(.copy, .scan, .active, .pipeline), (.copy, .page, .active, .pipeline), (.copy, .page, .active, .video),
    (.print, .page, .active, .control), (.print, .page, .active, .pipeline), (.print, .page, .active, .video),
    (.heldPrint, .page, .active, .control), (.heldPrint, .page, .active, .pipeline),
    (.heldPrint, .page, .released, .video), (.scanSend, .scan, .active, .pipeline),
    (.scanSend, .scan, .active, .control), (.scanBox, .scan, .active, .pipeline),
    (.scanBox, .scan, .released, .pipeline), (.scanBox, .scan, .released, .control),
    (.scanBox, .page, .released, .video)]

theorem readsDeciphered_iff (job : JobKind) (state : JobState) (kind : RegionKind) (role : Role) :
    readsDeciphered job state kind role = true ↔ (job, kind, state, role) ∈ decipheredTable := by
  constructor
  · intro reads
    unfold readsDeciphered at reads
    split at reads
    case h_16 => cases reads
    all_goals simp [decipheredTable]
  · have rows : ∀ x ∈ decipheredTable, readsDeciphered x.1 x.2.2.1 x.2.1 x.2.2.2 = true := by decide
    exact rows (job, kind, state, role)

/-- A read is forwarded where the treatment passes it: the directive unit examines writes only (R23). -/
theorem passTransaction_read (s : State) {t : Transaction} (role : Role) (read : t.direction = .read) :
    s.passTransaction t role = s.respond t.requester true (s.stored t) := by
  simp only [State.passTransaction, State.forward, read]
  rfl

/-- A read that is not answered DECIPHERED is answered REFUSED with no byte, or OKAY with what memory holds. -/
theorem response_of_read_not_deciphered {t : Transaction} {s u : State} (read : t.direction = .read)
    (taken : exec (.subordinateTransaction t) s = .next u)
    (unread : ∀ i r j, s.inRegion t i r j → readsDeciphered j.kind j.phase.state r.kind (s.roleOf t) ≠ true) :
    u.transaction.response = some { requester := t.requester, okay := false, data := [] } ∨
      u.transaction.response = some { requester := t.requester, okay := true, data := s.stored t } := by
  rcases transaction_cases taken with
    ⟨reason, region, rfl⟩ | rfl | rfl | ⟨i, r, j, inside, granted, -⟩ | ⟨i, r, j, inside, granted, -⟩
  · exact .inl rfl
  · rw [passTransaction_read s _ read]
    exact .inr rfl
  · rw [State.forward, read]
    exact .inr rfl
  all_goals
    rw [read, grant, grantRead, if_neg (unread i r j inside)] at granted
    split at granted <;> cases granted

/-- Settles O9: the response by the treatment of the read, and the table of R70 row by row. -/
theorem onlyTheRolesOfTheTableReadDeciphered : Obligations.OnlyTheRolesOfTheTableReadDeciphered :=
  ⟨fun _ _ _ read taken unread => response_of_read_not_deciphered read taken fun i r j inside reads =>
      unread ⟨i, r, j, inside, reads⟩,
    readsDeciphered_iff⟩

end Sys2Proof.Machine
end

section
/-! The tables that name a job slot (R6, R16, R41, R63), and what agrees between them. -/

namespace Sys2Proof.Machine

/-! ### What the tables say of job slots -/

/-- What the tables say of job slots: the number held in each, the keys PRESENT, the slot of each bound region, and the
last scan write record. -/
structure SlotTables where
  number  : Nat → Option Nat
  present : Nat → Bool
  owner   : Nat → Option Nat
  scan    : Option Nat

/-- The tables of a state. -/
def State.slotTables (s : State) : SlotTables :=
  { number := s.jobNumber
    present := fun slot => (tget s.cipher.keys slot : Option KeyEntry).isSome
    owner := fun i => (s.region i).map Region.slot
    scan := s.transaction.lastScanWrite }

/-- The tables agree on the slots that are not FREE, and no job number stands twice (R6, R16, R41, R63). -/
structure SlotTables.Agree (x : SlotTables) : Prop where
  present : ∀ slot, x.present slot = (x.number slot).isSome
  owner   : ∀ i slot, x.owner i = some slot → (x.number slot).isSome = true
  scan    : ∀ slot, x.scan = some slot → (x.number slot).isSome = true
  unique  : ∀ a b n, x.number a = some n → x.number b = some n → a = b

/-- The tables with the slots kept that a test passes, and the others freed. -/
def SlotTables.only (kept : Nat → Bool) (x : SlotTables) : SlotTables :=
  { number := fun slot => if kept slot = true then x.number slot else none
    present := fun slot => kept slot && x.present slot
    owner := fun i => (x.owner i).filter kept
    scan := x.scan.filter kept }

/-- The tables in which every slot is FREE. -/
def SlotTables.free : SlotTables :=
  { number := fun _ => none, present := fun _ => false, owner := fun _ => none, scan := none }

@[simp] theorem only_all (x : SlotTables) : x.only (fun _ => true) = x := by
  have keeps (o : Option Nat) : o.filter (fun _ => true) = o := by cases o <;> rfl
  simp [SlotTables.only, keeps]

theorem only_only (x : SlotTables) (kept kept' : Nat → Bool) :
    (x.only kept).only kept' = x.only fun slot => kept' slot && kept slot := by
  simp only [SlotTables.only, Option.filter_filter, SlotTables.mk.injEq]
  refine ⟨funext fun slot => ?_, funext fun slot => ?_, funext fun i => ?_, ?_⟩
  · by_cases keeps : kept' slot = true <;> simp [keeps]
  · rw [Bool.and_assoc]
  · simp only [Bool.and_comm]
  · simp only [Bool.and_comm]

@[simp] theorem only_free (kept : Nat → Bool) : SlotTables.free.only kept = .free := by
  simp [SlotTables.only, SlotTables.free]

theorem agree_free : SlotTables.free.Agree := by
  refine ⟨fun _ => rfl, fun i slot h => ?_, fun slot h => ?_, fun a b n h => ?_⟩ <;> cases h

/-- Tables from which slots are freed whole still agree. -/
theorem SlotTables.Agree.only {x : SlotTables} (h : x.Agree) (kept : Nat → Bool) : (x.only kept).Agree := by
  refine ⟨fun slot => ?_, fun i slot owned => ?_, fun slot taken => ?_, fun a b n left right => ?_⟩
  · simp only [SlotTables.only, h.present slot]
    cases kept slot <;> rfl
  · obtain ⟨held, keeps⟩ := Option.filter_eq_some_iff.mp owned
    simpa [SlotTables.only, keeps] using h.owner i slot held
  · obtain ⟨held, keeps⟩ := Option.filter_eq_some_iff.mp taken
    simpa [SlotTables.only, keeps] using h.scan slot held
  · simp only [SlotTables.only, Option.ite_none_right_eq_some] at left right
    exact h.unique a b n left.2 right.2

/-! ### The laws by the tables -/

theorem jobNumber_isSome (s : State) (slot : Nat) : (s.jobNumber slot).isSome = (s.jobAt slot).isSome :=
  Option.isSome_map

theorem jobAt_beyond (s : State) {slot : Nat} (h : 32 ≤ slot) : s.jobAt slot = none := dif_neg (by omega)

theorem key_beyond (s : State) {slot : Nat} (h : 32 ≤ slot) : (tget s.cipher.keys slot : Option KeyEntry) = none :=
  dif_neg (by omega)

theorem tablesAgree_iff (s : State) : s.tablesAgree ↔ s.slotTables.Agree := by
  constructor
  · rintro ⟨keys, regions, scan, numbers⟩
    refine ⟨fun slot => ?_, fun i slot owned => ?_, fun slot taken => ?_, fun a b n left right => ?_⟩
    · by_cases inside : slot < 32
      · exact (keys slot inside).trans (jobNumber_isSome s slot).symm
      · simp [State.slotTables, State.jobNumber, jobAt_beyond s (Nat.le_of_not_lt inside),
          key_beyond s (Nat.le_of_not_lt inside)]
    · obtain ⟨r, bound, rfl⟩ := Option.map_eq_some_iff.mp owned
      exact (jobNumber_isSome s r.slot).trans (regions i (lt_of_region s bound) r bound)
    · exact (jobNumber_isSome s slot).trans (scan slot taken)
    · obtain ⟨j, first, rfl⟩ := Option.map_eq_some_iff.mp left
      obtain ⟨k, second, same⟩ := Option.map_eq_some_iff.mp right
      by_contra other
      exact numbers a (slot_lt_of_jobAt first) b (slot_lt_of_jobAt second) other j first k second same.symm
  · intro h
    refine ⟨fun slot _ => ?_, fun i _ r bound => ?_, fun slot taken => ?_,
      fun a _ b _ other j first k second same => ?_⟩
    · exact (h.present slot).trans (jobNumber_isSome s slot)
    · rw [← jobNumber_isSome]
      exact h.owner i r.slot (congrArg (Option.map Region.slot) bound)
    · rw [← jobNumber_isSome]
      exact h.scan slot taken
    · exact other (h.unique a b j.number (congrArg (Option.map JobRecord.number) first)
        (same ▸ congrArg (Option.map JobRecord.number) second))

/-- No job, key, region or last scan write record remains. -/
theorem slotTables_eq_free_iff (s : State) :
    s.slotTables = .free ↔
      (∀ slot, s.jobAt slot = none) ∧ (∀ slot, (tget s.cipher.keys slot : Option KeyEntry) = none) ∧
        (∀ i, s.region i = none) ∧ s.transaction.lastScanWrite = none := by
  simp only [State.slotTables, SlotTables.free, SlotTables.mk.injEq, funext_iff, State.jobNumber,
    Option.map_eq_none_iff, Option.isSome_eq_false_iff, Option.isNone_iff_eq_none]

theorem lockdownHoldsNoJob_iff (s : State) :
    s.lockdownHoldsNoJob ↔
      (s.lockdown.mode = .lockdown → s.slotTables = .free ∧ s.parser.openSide = none) := by
  unfold State.lockdownHoldsNoJob
  rw [slotTables_eq_free_iff]
  refine imp_congr_right fun _ => ⟨?_, ?_⟩
  · rintro ⟨jobs, keys, regions, scan, side⟩
    refine ⟨⟨fun slot => ?_, fun slot => ?_, fun i => ?_, scan⟩, side⟩
    · rcases Nat.lt_or_ge slot 32 with inside | beyond
      · exact jobs slot inside
      · exact jobAt_beyond s beyond
    · rcases Nat.lt_or_ge slot 32 with inside | beyond
      · exact keys slot inside
      · exact key_beyond s beyond
    · rcases Nat.lt_or_ge i 64 with inside | beyond
      · exact regions i inside
      · exact region_beyond s beyond
  · rintro ⟨⟨jobs, keys, regions, scan⟩, side⟩
    exact ⟨fun slot _ => jobs slot, fun slot _ => keys slot, fun i _ => regions i, scan, side⟩

end Sys2Proof.Machine
end

section
/-! Operations that leave the tables naming a job slot: what a record, a region or a key is changed to keeps its slot. -/

namespace Sys2Proof.Machine

/-! ### Operations that leave the tables -/

variable (a : State)

theorem slotTables_congr {s t : State} (jobs : ∀ slot, t.jobNumber slot = s.jobNumber slot)
    (keys : t.cipher.keys = s.cipher.keys) (regions : t.transaction.regions = s.transaction.regions)
    (scan : t.transaction.lastScanWrite = s.transaction.lastScanWrite) : t.slotTables = s.slotTables := by
  simp only [State.slotTables, State.region, keys, regions, scan, funext jobs]

/-- What touches neither the transaction unit, the cipher unit nor the job unit leaves the tables. -/
theorem slotTables_of_touches {ps : List Part} {s t : State} (h : Touches ps s t) (hT : .transaction ∉ ps)
    (hC : .cipher ∉ ps) (hJ : .job ∉ ps) : t.slotTables = s.slotTables := by
  have transaction : t.transaction = s.transaction := h _ hT
  have cipher : t.cipher = s.cipher := h _ hC
  have job : t.job = s.job := h _ hJ
  refine slotTables_congr (fun slot => ?_) (by rw [cipher]) (by rw [transaction]) (by rw [transaction])
  rw [State.jobNumber, State.jobNumber, jobAt_of_job_eq job]

@[simp] theorem slotTables_setOpenSide (o : Option OpenSide) : (a.setOpenSide o).slotTables = a.slotTables := rfl
@[simp] theorem slotTables_setSheets (q : List Sheet) : (a.setSheets q).slotTables = a.slotTables := rfl
@[simp] theorem slotTables_setLink (u : LinkUnit) : (a.setLink u).slotTables = a.slotTables := rfl
@[simp] theorem slotTables_setRunning (r : Running) : (a.setRunning r).slotTables = a.slotTables := rfl
@[simp] theorem slotTables_askNotice (k : NoticeKind) (vs : List Val) :
    (a.askNotice k vs).slotTables = a.slotTables := rfl
@[simp] theorem slotTables_respond (q : Nat) (ok : Bool) (bs : List Byte) :
    (a.respond q ok bs).slotTables = a.slotTables := rfl
@[simp] theorem slotTables_keyFault (t : Transaction) (q : Role) (i : Nat) (r : Region) :
    (a.keyFault t q i r).slotTables = a.slotTables := rfl
@[simp] theorem slotTables_noticeFraming (r : VideoRead) (x : FramingReason) (y : ParserState) (c : Nat) :
    (a.noticeFraming r x y c).slotTables = a.slotTables := rfl
@[simp] theorem slotTables_noticeSide (r : VideoRead) (j : JobRecord) (k : SideKind) (m : PlaneMask) (o : Nat)
    (x : SideReason) : (a.noticeSide r j k m o x).slotTables = a.slotTables := rfl

@[simp] theorem slotTables_forward (t : Transaction) : (a.forward t).slotTables = a.slotTables := by
  unfold State.forward
  split <;> rfl

@[simp] theorem slotTables_passTransaction (t : Transaction) (q : Role) :
    (a.passTransaction t q).slotTables = a.slotTables := by
  unfold State.passTransaction
  split
  · exact (slotTables_of_touches (ps := [.directive]) (by simp) (by decide) (by decide) (by decide)).trans
      (slotTables_forward a t)
  · exact slotTables_forward a t

@[simp] theorem slotTables_decipherRead (t : Transaction) (q : Role) (i : Nat) (r : Region) :
    (a.decipherRead t q i r).slotTables = a.slotTables := by
  unfold State.decipherRead
  split <;> rfl

/-- A record changed in its slot, with its number kept (R41). -/
theorem slotTables_updateJob (slot : Nat) (f : JobRecord → JobRecord) (h : ∀ j, (f j).number = j.number) :
    (a.updateJob slot f).slotTables = a.slotTables := by
  refine slotTables_congr (fun k => ?_) rfl rfl rfl
  unfold State.jobNumber
  by_cases same : k = slot
  · subst same
    cases held : a.jobAt k with
    | none =>
      by_cases inside : k < 32
      · rw [State.updateJob, jobAt_setJob_same _ _ inside, held]
        rfl
      · rw [jobAt_beyond _ (Nat.le_of_not_lt inside)]
    | some j => rw [jobAt_updateJob_same f held, Option.map_some, Option.map_some, h]
  · rw [jobAt_updateJob_other _ _ same]

/-- A region written back at its place. -/
theorem slotTables_setRegion {i : Nat} {r q : Region} (h : a.region i = some q) (hs : r.slot = q.slot) :
    (a.setRegion i (some r)).slotTables = a.slotTables := by
  simp only [State.slotTables, SlotTables.mk.injEq]
  refine ⟨rfl, rfl, funext fun k => ?_, rfl⟩
  rw [region_setRegion a i k _ (lt_of_region a h)]
  by_cases same : k = i
  · rw [if_pos same, same, h, Option.map_some, Option.map_some, hs]
  · rw [if_neg same]

/-! ### The charging unit -/

@[simp] theorem slotTables_commitJob (o : Owner) (b : Bool) : (a.commitJob o b).slotTables = a.slotTables := by
  cases o with
  | orphan => rfl
  | job slot => exact slotTables_updateJob a slot _ fun _ => rfl

@[simp] theorem slotTables_commitSide (h : Sheet) (r : SideRecord) :
    (State.commitSide h a r).slotTables = a.slotTables := by
  have charged : (a.commitAccount h.account r.isColour r.charge r.reservation).slotTables = a.slotTables :=
    slotTables_of_touches (ps := [.account, .directive]) (by simp) (by decide) (by decide) (by decide)
  exact (slotTables_commitJob _ _ _).trans charged

@[simp] theorem slotTables_commitSides (h : Sheet) (l : List SideRecord) :
    (l.foldl (State.commitSide h) a).slotTables = a.slotTables := by
  induction l generalizing a with
  | nil => rfl
  | cons r l ih => rw [List.foldl_cons, ih, slotTables_commitSide]

@[simp] theorem slotTables_dropJob (o : Owner) (n : Nat) : (a.dropJob o n).slotTables = a.slotTables := by
  cases o with
  | orphan => rfl
  | job slot => exact slotTables_updateJob a slot _ fun _ => rfl

/-- A scan page counted at its job (R107). -/
@[simp] theorem slotTables_chargeScan (slot : Nat) (j : JobRecord) :
    (a.chargeScan slot j).slotTables = a.slotTables := by
  have decided : (a.decideScan j.account (a.tariff j.tariff).scan).1.slotTables = a.slotTables :=
    slotTables_of_touches (ps := [.account]) (by simp) (by decide) (by decide) (by decide)
  simp only [State.chargeScan]
  split <;> exact (slotTables_updateJob _ slot (JobRecord.countScan _) fun _ => rfl).trans decided

/-! ### The band parser -/

@[simp] theorem slotTables_setFraming (i : Nat) (f : Framing) (c : Nat) :
    (a.setFraming i f c).slotTables = a.slotTables := by
  unfold State.setFraming
  split
  case h_1 r _ bound _ => exact slotTables_setRegion a bound rfl
  case h_2 => rfl

@[simp] theorem slotTables_frameAbandoned (i : Nat) (c : AbandonCause) :
    (a.frameAbandoned i c).slotTables = a.slotTables := by
  have broken : (a.breakRegion i).slotTables = a.slotTables := by
    unfold State.breakRegion
    split <;> simp
  cases c <;> simp [State.frameAbandoned, broken]

@[simp] theorem slotTables_abandonSide (o : OpenSide) (c : AbandonCause) :
    (a.abandonSide o c).slotTables = a.slotTables := by
  have left : (((a.handBand (a.currentPlane o.region) o.bandDots).releaseSide o).abandonSheet o.sheet
      o.kind).slotTables = a.slotTables :=
    slotTables_of_touches (ps := [.directive, .account, .charging, .consumable, .link]) (by simp) (by decide)
      (by decide) (by decide)
  simp only [State.abandonSide, slotTables_askNotice, slotTables_frameAbandoned, slotTables_setOpenSide]
  exact (slotTables_updateJob _ _ JobRecord.abandonSide fun _ => rfl).trans left

@[simp] theorem slotTables_makeSide (r : VideoRead) (j : JobRecord) (k : SideKind) (m : PlaneMask) :
    (a.makeSide r j k m).slotTables = a.slotTables := by
  have placed : ((a.reserve j.account (a.newSide j k m).reservation).placeSide r.slot j.account k
      (a.newSide j k m)).slotTables = a.slotTables :=
    slotTables_of_touches (ps := [.account, .charging]) (by simp) (by decide) (by decide) (by decide)
  exact (slotTables_updateJob _ _ (fun j => { j with inQueue := j.inQueue + 1 }) fun _ => rfl).trans placed

@[simp] theorem slotTables_consumeHeader (i o : Nat) (h : BandHeader) (p : Plane) :
    (a.consumeHeader i o h p).slotTables = a.slotTables := by
  simp [State.consumeHeader]

@[simp] theorem slotTables_countPayload (i : Nat) (p : Plane) (bs : List Byte) :
    (a.countPayload i p bs).slotTables = a.slotTables := by
  unfold State.countPayload
  split <;> rfl

@[simp] theorem slotTables_endBand (i : Nat) (p : Plane) (c : Nat) : (a.endBand i p c).slotTables = a.slotTables := by
  have handed (q : Option Plane) (n : Nat) : (a.handBand q n).slotTables = a.slotTables :=
    slotTables_of_touches (ps := [.directive, .consumable, .link]) (by simp) (by decide) (by decide) (by decide)
  have completed (b : State) (o : OpenSide) : (b.completeSide o).slotTables = b.slotTables :=
    slotTables_of_touches (ps := [.charging, .directive, .consumable, .link, .parser]) (by simp) (by decide)
      (by decide) (by decide)
  simp only [State.endBand]
  (repeat' split) <;> simp [handed, completed]

/-! ### The link unit -/

/-- An attempt that begins draws from the generator of keys, and leaves the keys (R149). -/
@[simp] theorem slotTables_beginAttempt (e : LinkEntry) (r : Running) :
    (a.beginAttempt e r).slotTables = a.slotTables := by
  simp only [State.beginAttempt]
  split <;> rfl

@[simp] theorem slotTables_beginOldest : a.beginOldest.slotTables = a.slotTables := by
  unfold State.beginOldest
  split
  · unfold State.beginEntry
    split <;> exact slotTables_beginAttempt _ _ _
  · rfl

@[simp] theorem slotTables_failAttempt (e : LinkEntry) (r : Running) : (a.failAttempt e r).slotTables = a.slotTables :=
  slotTables_of_touches (ps := [.directive, .consumable, .link]) (by simp) (by decide) (by decide) (by decide)

@[simp] theorem slotTables_exchangeReply (e : LinkEntry) (r : Running) (bs : List Byte) (b : Bool) :
    (a.exchangeReply e r bs b).slotTables = a.slotTables := by
  have ended {t : State} (h : Touches [.directive, .consumable, .link] a t) : t.slotTables = a.slotTables :=
    slotTables_of_touches h (by decide) (by decide) (by decide)
  unfold State.exchangeReply
  split
  · exact slotTables_beginAttempt _ _ _
  · exact slotTables_beginAttempt _ _ _
  · exact ended (by simp)
  · split <;> exact ended (by simp)

@[simp] theorem slotTables_replyFrame (bs : List LinkByte) (b : Bool) :
    (a.replyFrame bs b).slotTables = a.slotTables := by
  have received (e : LinkEntry) (r : Running) (got : List Byte) :
      (a.receiveBytes e r got bs b).slotTables = a.slotTables := by
    unfold State.receiveBytes
    (repeat' split) <;> simp
  unfold State.replyFrame
  (repeat' split) <;> simp [received]

@[simp] theorem slotTables_quietEnd : a.quietEnd.slotTables = a.slotTables := by
  unfold State.quietEnd State.quietAfterEnd
  (repeat' split) <;> simp

end Sys2Proof.Machine
end

section
/-! Operations that free job slots whole: the number, the key, the regions and the last scan write record of a slot go
together (R10, R56, R67). -/

namespace Sys2Proof.Machine

/-- The tables of a state are those of another, less the slots freed. -/
def FreesSlots (s t : State) : Prop := ∃ kept, t.slotTables = s.slotTables.only kept

@[simp] theorem freesSlots_refl (s : State) : FreesSlots s s := ⟨_, (only_all _).symm⟩

theorem FreesSlots.trans {s t u : State} (h : FreesSlots s t) (h' : FreesSlots t u) : FreesSlots s u := by
  obtain ⟨kept, first⟩ := h
  obtain ⟨kept', second⟩ := h'
  exact ⟨_, by rw [second, first, only_only]⟩

/-- What leaves the tables of a state keeps them those of another, less the slots freed. -/
theorem FreesSlots.keep {s a b : State} (h : FreesSlots s a) (e : b.slotTables = a.slotTables) : FreesSlots s b := by
  obtain ⟨kept, same⟩ := h
  exact ⟨kept, e.trans same⟩

theorem FreesSlots.agree {s t : State} (h : FreesSlots s t) (hs : s.slotTables.Agree) : t.slotTables.Agree := by
  obtain ⟨kept, same⟩ := h
  exact same ▸ hs.only kept

theorem FreesSlots.free {s t : State} (h : FreesSlots s t) (hs : s.slotTables = .free) : t.slotTables = .free := by
  obtain ⟨kept, same⟩ := h
  rw [same, hs, only_free]

/-- A slot freed with its key, its regions and the record that names it. -/
theorem freesSlots_of_freesSlot {s t : State} {slot : Nat} (h : s.freesSlot t slot) : FreesSlots s t := by
  obtain ⟨freed, others, -, erased, keys, regions, unit⟩ := h
  have scan : t.transaction.lastScanWrite =
      if s.transaction.lastScanWrite = some slot then none else s.transaction.lastScanWrite := by rw [unit]
  refine ⟨fun k => decide (k ≠ slot), ?_⟩
  simp only [State.slotTables, SlotTables.only, SlotTables.mk.injEq]
  refine ⟨funext fun k => ?_, funext fun k => ?_, funext fun i => ?_, ?_⟩
  · by_cases same : k = slot
    · simp [State.jobNumber, same, freed]
    · simp [State.jobNumber, same, others k same]
  · by_cases same : k = slot
    · simp [same, erased]
    · simp [same, keys k same]
  · refine Option.ext fun owner => ?_
    simp only [Option.map_eq_some_iff, Option.filter_eq_some_iff, decide_eq_true_eq]
    constructor
    · rintro ⟨r, bound, rfl⟩
      obtain ⟨before, other⟩ := (regions i r).mp bound
      exact ⟨⟨r, before, rfl⟩, other⟩
    · rintro ⟨⟨r, before, rfl⟩, other⟩
      exact ⟨r, (regions i r).mpr ⟨before, other⟩, rfl⟩
  · rw [scan]
    cases s.transaction.lastScanWrite with
    | none => rfl
    | some k => by_cases same : k = slot <;> simp [Option.filter, same]

variable {s a : State}

/-! ### Closes -/

theorem freesSlots_completeClose (slot : Nat) (reason : CloseReason) (x y : Nat) (h : FreesSlots s a) :
    FreesSlots s (a.completeClose slot reason x y) := by
  cases job : a.jobAt slot with
  | none => simpa [State.completeClose, job] using h
  | some j =>
    cases phase : j.phase with
    | closing c => exact h.trans (freesSlots_of_freesSlot (completeClose_freesSlot job phase reason x y))
    | active | held | released => simpa [State.completeClose, job, phase] using h

theorem freesSlots_drainTest (slot : Nat) (h : FreesSlots s a) : FreesSlots s (a.drainTest slot) := by
  unfold State.drainTest
  split
  · split
    · exact freesSlots_completeClose _ _ _ _ h
    · exact h
  · exact h

theorem freesSlots_drainOwner (o : Owner) (h : FreesSlots s a) : FreesSlots s (a.drainOwner o) := by
  cases o with
  | job slot => exact freesSlots_drainTest slot h
  | orphan => exact h

/-! ### Sheets and sides -/

theorem freesSlots_deliverSheet (x : Sheet) (l : List SideRecord) (h : FreesSlots s a) :
    FreesSlots s (a.deliverSheet x l) := by
  have counted (b : State) : b.countSheet.slotTables = b.slotTables :=
    slotTables_of_touches (ps := [.meter]) (by simp) (by decide) (by decide) (by decide)
  exact freesSlots_drainOwner _ (h.keep (by simp [counted]))

theorem freesSlots_dropSheet (x : Sheet) (h : FreesSlots s a) : FreesSlots s (a.dropSheet x) :=
  freesSlots_drainOwner _ (h.keep (slotTables_dropJob _ _ _))

theorem freesSlots_dropSheets (l : List Sheet) (h : FreesSlots s a) : FreesSlots s (l.foldl State.dropSheet a) := by
  induction l generalizing a with
  | nil => exact h
  | cons x l ih => exact ih (freesSlots_dropSheet x h)

theorem freesSlots_abandon (c : AbandonCause) (h : FreesSlots s a) : FreesSlots s (a.abandon c) := by
  unfold State.abandon
  split
  · split
    · exact freesSlots_drainTest _ (h.keep (by simp))
    · exact h.keep (by simp)
  · exact h

/-! ### VIDEO reads -/

theorem freesSlots_restartFraming (v : VideoRead) (h : FreesSlots s a) : FreesSlots s (a.restartFraming v) := by
  unfold State.restartFraming
  split
  · refine FreesSlots.keep ?_ (slotTables_setFraming _ _ _ _)
    split
    · exact freesSlots_abandon _ h
    · exact h
  · exact h

theorem freesSlots_framingError (v : VideoRead) (o : Nat) (x : FramingReason) (h : FreesSlots s a) :
    FreesSlots s (a.framingError v o x) := by
  refine FreesSlots.keep ?_ (slotTables_setFraming _ v.index .broken o)
  split
  · exact freesSlots_abandon _ h
  · exact h

theorem freesSlots_startSide (v : VideoRead) (o : Nat) (x : BandHeader) (k : SideKind) (p : Plane)
    (h : FreesSlots s a) : FreesSlots s (a.startSide v o x k p).1 := by
  have cleared : FreesSlots s (a.abandonForStart v.index) := freesSlots_abandon _ h
  simp only [State.startSide]
  (repeat' split) <;> exact cleared.keep (by simp)

theorem freesSlots_takeHeader (v : VideoRead) (o : Nat) (bs : List Byte) (h : FreesSlots s a) :
    FreesSlots s (a.takeHeader v o bs).1 := by
  simp only [State.takeHeader]
  split
  · exact freesSlots_framingError _ _ _ h
  · exact h.keep (by simp)
  · exact freesSlots_startSide _ _ _ _ _ h

/-- One turn of the parser after another: payload is counted, a header is taken (R81). -/
theorem freesSlots_parseFrom (v : VideoRead) (n o : Nat) (bs : List Byte) (h : FreesSlots s a) :
    FreesSlots s (State.parseFrom v n a o bs).1 := by
  induction n generalizing a o bs with
  | zero => exact h
  | succ n ih =>
    cases bs with
    | nil => exact h
    | cons b bs =>
      simp only [State.parseFrom]
      split
      · split
        · exact ih _ _ (h.keep (by simp))
        · exact h.keep (by simp)
      · split
        · exact h.keep (by simp)
        · have taken := freesSlots_takeHeader v o ((b :: bs).take 32) h
          split
          all_goals
            rename_i result
            rw [result] at taken
          · exact ih _ _ taken
          · exact taken
      · exact h
      · exact h

theorem freesSlots_parseVideo (t : Transaction) (i : Nat) (r : Region) (h : FreesSlots s a) :
    FreesSlots s (a.parseVideo t i r) := by
  have restarted := freesSlots_restartFraming (videoReadOf t i r) h
  simp only [State.parseVideo]
  split
  · exact restarted.keep (by simp)
  · rename_i key _
    have parsed : FreesSlots s ((a.restartFraming (videoReadOf t i r)).parseRead (videoReadOf t i r)
        ((a.restartFraming (videoReadOf t i r)).plainBytes t r key)).1 := freesSlots_parseFrom _ _ _ _ restarted
    split
    all_goals
      rename_i result
      rw [result] at parsed
      exact parsed.keep (by simp)

theorem freesSlots_decipheredRead (t : Transaction) (q : Role) (i : Nat) (r : Region) (h : FreesSlots s a) :
    FreesSlots s (a.decipheredRead t q i r) := by
  unfold State.decipheredRead
  split
  · unfold State.videoRead
    split
    · exact h.keep (by simp)
    · exact freesSlots_parseVideo t i r h
  · exact h.keep (by simp)

/-! ### The engine lines and the close deadline -/

theorem freesSlots_engSheet (h : FreesSlots s a) : FreesSlots s a.engSheet := by
  unfold State.engSheet
  split
  · unfold State.sheetDelivered
    split
    · exact freesSlots_deliverSheet _ _ h
    · exact (freesSlots_deliverSheet _ _ h).keep (slotTables_askNotice _ _ _)
    · exact (freesSlots_deliverSheet _ _ (freesSlots_abandon _ h)).keep (slotTables_askNotice _ _ _)
    · exact (freesSlots_abandon _ h).keep (slotTables_askNotice _ _ _)
  · exact h.keep (slotTables_askNotice _ _ _)

theorem freesSlots_engJam (h : FreesSlots s a) : FreesSlots s a.engJam :=
  (freesSlots_dropSheets _ ((freesSlots_abandon .jam h).keep (slotTables_setSheets _ _))).keep
    (slotTables_askNotice _ _ _)

theorem freesSlots_closeDeadline (slot : Nat) (h : FreesSlots s a) : FreesSlots s (a.closeDeadline slot) := by
  unfold State.closeDeadline
  split
  · split
    · refine freesSlots_completeClose _ _ _ _ (FreesSlots.keep ?_ (slotTables_askNotice _ _ _))
      have orphaned (b : State) :
          ((b.orphanSheetsOf slot).updateJob slot fun j => { j with inQueue := 0 }).slotTables = b.slotTables :=
        slotTables_updateJob _ _ _ fun _ => rfl
      refine FreesSlots.keep ?_ (orphaned _)
      split
      · exact freesSlots_abandon _ h
      · exact h
    · exact h
  · exact h

end Sys2Proof.Machine
end

section
/-! The tables that name a job slot under every step, and LOCKDOWN without jobs (R6, R16, R41, R63, R168). -/

namespace Sys2Proof.Machine

variable {s t : State}

/-! ### The laws under an operation -/

/-- The tables agree, and in LOCKDOWN no job remains. -/
def State.slotsLawful (s : State) : Prop := s.tablesAgree ∧ s.lockdownHoldsNoJob

theorem State.slotsLawful.agree (h : s.slotsLawful) : s.slotTables.Agree := (tablesAgree_iff s).mp h.1

theorem State.slotsLawful.locked (h : s.slotsLawful) (mode : s.lockdown.mode = .lockdown) :
    s.slotTables = .free ∧ s.parser.openSide = none := (lockdownHoldsNoJob_iff s).mp h.2 mode

/-- In NORMAL mode the agreement of the tables is all there is to show. -/
theorem slotsLawful_of_normal (normal : s.lockdown.mode = .normal) (agree : s.slotTables.Agree) : s.slotsLawful := by
  refine ⟨(tablesAgree_iff s).mpr agree, (lockdownHoldsNoJob_iff s).mpr fun locked => ?_⟩
  rw [normal] at locked
  cases locked

/-- Where no job, key, region, record or open side remains, the laws hold in either mode. -/
theorem slotsLawful_of_free (free : s.slotTables = .free) (side : s.parser.openSide = none) : s.slotsLawful :=
  ⟨(tablesAgree_iff s).mpr (free ▸ agree_free), (lockdownHoldsNoJob_iff s).mpr fun _ => ⟨free, side⟩⟩

/-- Slots are freed whole, the mode stays, and in LOCKDOWN no side is opened. -/
theorem FreesSlots.slotsLawful (h : FreesSlots s t) (hs : s.slotsLawful) (mode : t.lockdown.mode = s.lockdown.mode)
    (side : s.slotTables = .free → s.parser.openSide = none → t.parser.openSide = none) : t.slotsLawful := by
  refine ⟨(tablesAgree_iff t).mpr (h.agree hs.agree), (lockdownHoldsNoJob_iff t).mpr fun locked => ?_⟩
  obtain ⟨free, closed⟩ := hs.locked (mode ▸ locked)
  exact ⟨h.free free, side free closed⟩

/-- What leaves the tables and the open side, and does not enter LOCKDOWN, keeps the laws. -/
theorem slotsLawful_congr (hs : s.slotsLawful) (tables : t.slotTables = s.slotTables)
    (side : t.parser.openSide = s.parser.openSide)
    (mode : t.lockdown.mode = .lockdown → s.lockdown.mode = .lockdown) : t.slotsLawful := by
  refine ⟨(tablesAgree_iff t).mpr (tables ▸ hs.agree), (lockdownHoldsNoJob_iff t).mpr fun locked => ?_⟩
  rw [tables, side]
  exact hs.locked (mode locked)

/-- What touches neither the band parser nor lockdown control, and leaves the tables, keeps the laws. -/
theorem slotsLawful_of_slotTables {ps : List Part} (hs : s.slotsLawful) (h : Touches ps s t) (hB : .parser ∉ ps)
    (hO : .lockdown ∉ ps) (tables : t.slotTables = s.slotTables) : t.slotsLawful := by
  have parser : t.parser = s.parser := h _ hB
  have lockdown : t.lockdown = s.lockdown := h _ hO
  exact slotsLawful_congr hs tables (by rw [parser]) (by rw [lockdown]; exact id)

/-- What touches neither the units that name job slots nor lockdown control keeps the laws. -/
theorem slotsLawful_of_touches {ps : List Part} (hs : s.slotsLawful) (h : Touches ps s t)
    (apart : ∀ p ∈ [Part.transaction, .cipher, .job, .parser, .lockdown], p ∉ ps) : t.slotsLawful :=
  slotsLawful_of_slotTables hs h (apart _ (by simp)) (apart _ (by simp))
    (slotTables_of_touches h (apart _ (by simp)) (apart _ (by simp)) (apart _ (by simp)))

/-! ### Job slots, regions and the last scan write record -/

/-- The last scan write record becomes absent, or names a slot that is not FREE (R16). -/
theorem SlotTables.Agree.withScan {x : SlotTables} (h : x.Agree) {scan : Option Nat}
    (held : ∀ slot, scan = some slot → (x.number slot).isSome = true) : { x with scan := scan }.Agree :=
  ⟨h.present, h.owner, held, h.unique⟩

/-- A region is bound to a slot that is not FREE (R6). -/
theorem agree_bind {i : Nat} {r : Region} (h : s.slotTables.Agree) (hi : i < 64)
    (held : (s.jobAt r.slot).isSome = true) : (s.setRegion i (some r)).slotTables.Agree := by
  refine ⟨h.present, fun k slot owned => ?_, h.scan, h.unique⟩
  obtain ⟨q, bound, rfl⟩ := Option.map_eq_some_iff.mp owned
  rw [region_setRegion s i k _ hi] at bound
  split at bound
  · cases bound
    exact (jobNumber_isSome s r.slot).trans held
  · exact h.owner k q.slot (congrArg (Option.map Region.slot) bound)

/-- A region becomes FREE (R8). -/
theorem agree_unbind {i : Nat} (h : s.slotTables.Agree) (hi : i < 64) : (s.setRegion i none).slotTables.Agree := by
  refine ⟨h.present, fun k slot owned => ?_, h.scan, h.unique⟩
  obtain ⟨q, bound, rfl⟩ := Option.map_eq_some_iff.mp owned
  rw [region_setRegion s i k _ hi] at bound
  split at bound
  · cases bound
  · exact h.owner k q.slot (congrArg (Option.map Region.slot) bound)

/-- A job number that is not in use stands in no slot (R45). -/
theorem jobNumber_ne_of_numberInUse {n slot : Nat} (h : s.numberInUse n = false) : s.jobNumber slot ≠ some n := by
  intro held
  obtain ⟨j, job, number⟩ := Option.map_eq_some_iff.mp held
  have entry : some j ∈ tlist s.job.slots := mem_tlist.mpr ⟨slot, slot_lt_of_jobAt job, job⟩
  have other := List.any_eq_false.mp h _ entry
  simp [number] at other

/-- A record with a new number takes a FREE slot, and a key is drawn for it (R45, R64). -/
theorem agree_open {slot : Nat} {j : JobRecord} (h : s.slotTables.Agree) (inside : slot < 32)
    (free : s.jobAt slot = none) (new : ∀ k, s.jobNumber k ≠ some j.number) :
    ((s.setJob slot (some j)).drawKey slot).slotTables.Agree := by
  have number (k : Nat) : ((s.setJob slot (some j)).drawKey slot).jobNumber k =
      if k = slot then some j.number else s.jobNumber k := by
    by_cases same : k = slot
    · rw [if_pos same, same]
      exact congrArg (Option.map JobRecord.number) (jobAt_setJob_same s (some j) inside)
    · rw [if_neg same]
      exact congrArg (Option.map JobRecord.number) (jobAt_setJob_other s (some j) same)
  have held {k : Nat} (old : (s.jobNumber k).isSome = true) :
      (((s.setJob slot (some j)).drawKey slot).jobNumber k).isSome = true := by
    rw [number]
    split
    · rfl
    · exact old
  refine ⟨fun k => ?_, fun i k owned => held (h.owner i k owned), fun k taken => held (h.scan k taken),
    fun a b n left right => ?_⟩
  · simp only [State.slotTables, number]
    by_cases same : k = slot
    · subst same
      rw [if_pos rfl]
      exact congrArg Option.isSome (tget_tset_same s.cipher.keys _ inside)
    · rw [if_neg same]
      exact (congrArg Option.isSome (tget_tset_other s.cipher.keys _ same)).trans (h.present k)
  · simp only [State.slotTables, number] at left right
    split at left <;> split at right
    · rename_i first second
      rw [first, second]
    · exact absurd (right.trans left.symm) (new b)
    · exact absurd (left.trans right.symm) (new a)
    · exact h.unique a b n left right

/-! ### Directives -/

/-- The lowest-numbered FREE slot is in the table, and FREE (R45). -/
theorem free_of_lowestFreeSlot {slot : Nat} (h : s.lowestFreeSlot = some slot) : slot < 32 ∧ s.jobAt slot = none := by
  obtain ⟨inside, free, -⟩ := List.findIdx?_eq_some_iff_getElem.mp h
  rw [getElem_slots inside] at free
  exact ⟨by simpa [tlist] using inside, by simpa using free⟩

theorem agree_ownJobOpen (d : Directive) (h : s.slotTables.Agree) : (ownJobOpen d s).2.slotTables.Agree := by
  simp only [ownJobOpen]
  (repeat' split) <;> try exact h
  rename_i unused _ _ slot lowest
  obtain ⟨inside, free⟩ := free_of_lowestFreeSlot lowest
  exact agree_open h inside free fun k => jobNumber_ne_of_numberInUse (Bool.eq_false_iff.mpr unused)

/-- The job that binds a region stands in its slot (R6 test 4). -/
theorem jobAt_of_bindingJob {slot : Nat} {j : JobRecord} (h : s.bindingJob slot = some j) : s.jobAt slot = some j := by
  unfold State.bindingJob at h
  split at h
  · split at h <;> cases h
    assumption
  · cases h

theorem agree_ownRegionBind (d : Directive) (h : s.slotTables.Agree) : (ownRegionBind d s).2.slotTables.Agree := by
  simp only [ownRegionBind, State.bindRegion]
  (repeat' split) <;> try exact h
  rename_i binding _ _ _ _ lowest
  exact agree_bind h (lt_of_lowestFreeRegion lowest) (by rw [jobAt_of_bindingJob binding]; rfl)

theorem agree_ownRegionUnbind (d : Directive) (h : s.slotTables.Agree) : (ownRegionUnbind d s).2.slotTables.Agree := by
  simp only [ownRegionUnbind]
  (repeat' split) <;> try exact h
  exact agree_unbind h (by omega)

/-- A job directive leaves or frees slots where it does so for the record it names. -/
theorem freesSlots_withNamedJob {slot number : Nat} {owner : JobRecord → Verdict × State}
    (h : ∀ j, FreesSlots s (owner j).2) : FreesSlots s (withNamedJob slot number s owner).2 := by
  unfold withNamedJob
  split
  · exact freesSlots_refl s
  · exact h _
  · exact freesSlots_refl s

theorem freesSlots_ownJobHold (d : Directive) : FreesSlots s (ownJobHold d s).2 := by
  refine freesSlots_withNamedJob fun j => ?_
  (repeat' split) <;> try exact freesSlots_refl s
  exact (freesSlots_refl s).keep (slotTables_updateJob s _ _ fun _ => rfl)

theorem freesSlots_ownJobRelease (d : Directive) : FreesSlots s (ownJobRelease d s).2 := by
  refine freesSlots_withNamedJob fun j => ?_
  (repeat' split) <;> try exact freesSlots_refl s
  exact (freesSlots_refl s).keep (slotTables_updateJob s _ _ fun _ => rfl)

theorem freesSlots_ownJobClose (d : Directive) : FreesSlots s (ownJobClose d s).2 := by
  refine freesSlots_withNamedJob fun j => ?_
  split
  · exact freesSlots_refl s
  · have owned (a : State) (l : Option Nat) : (a.ownSummary l).slotTables = a.slotTables :=
      slotTables_of_touches (ps := [.directive]) (by simp) (by decide) (by decide) (by decide)
    exact freesSlots_drainTest _ ((freesSlots_refl s).keep
      ((owned _ _).trans (slotTables_updateJob s _ _ fun _ => rfl)))

/-- A directive keeps the laws where its owner does; in LOCKDOWN the owner is asked for STATUS and RECOVER only. -/
theorem slotsLawful_runDirective (name : DirectiveName) {owner : Directive → State → Verdict × State}
    (hs : s.slotsLawful)
    (h : ∀ d, s.lockdown.mode = .normal ∨ executedInLockdown name.code = true → (owner d s).2.slotsLawful) :
    (s.runDirective name owner).slotsLawful := by
  unfold State.runDirective
  split
  · split
    · rename_i d _ named
      split
      · exact hs
      · rename_i executed
        refine slotsLawful_of_touches (s := (owner d s).2) (ps := [.directive]) (h d ?_) (by simp) (by decide)
        rw [← named]
        cases mode : s.lockdown.mode with
        | normal => exact .inl rfl
        | lockdown => exact .inr (by simpa [State.locked, mode] using executed)
    · exact hs
  · exact hs

/-- A directive that is not executed in LOCKDOWN, whose owner leaves lockdown control, keeps the laws where the owner
keeps the tables in agreement. -/
theorem slotsLawful_runDirective_of_agree {ps : List Part} (name : DirectiveName)
    {owner : Directive → State → Verdict × State} (hs : s.slotsLawful) (normal : executedInLockdown name.code = false)
    (leaves : ∀ d, Touches ps s (owner d s).2) (apart : .lockdown ∉ ps)
    (h : ∀ d, (owner d s).2.slotTables.Agree) : (s.runDirective name owner).slotsLawful :=
  slotsLawful_runDirective name hs fun d allowed => by
    have lockdown : (owner d s).2.lockdown = s.lockdown := leaves d _ apart
    have mode := allowed.resolve_right (by simp [normal])
    exact slotsLawful_of_normal (lockdown ▸ mode) (h d)

/-! ### The subordinate port -/

/-- A SCAN write that is counted makes its slot the last scan write record (R16). -/
theorem agree_encipherWrite (t : Transaction) (q : Role) {i : Nat} {r : Region} (h : s.slotTables.Agree)
    (bound : s.region i = some r) (held : (s.jobAt r.slot).isSome = true) :
    (s.encipherWrite t q i r).slotTables.Agree := by
  simp only [State.encipherWrite]
  split
  · exact h
  · split
    · have counted : (s.setRegion i (some { r with body := r.body.countBeats t.beats })).slotTables = s.slotTables :=
        slotTables_setRegion s bound rfl
      refine SlotTables.Agree.withScan (counted ▸ h) fun slot named => ?_
      cases named
      exact (jobNumber_isSome s r.slot).trans held
    · exact h

/-- A transaction is treated ENCIPHERED or DECIPHERED in NORMAL mode only; any other leaves the tables (R12, R20). -/
theorem slotsLawful_transaction {tr : Transaction} (hs : s.slotsLawful)
    (taken : exec (.subordinateTransaction tr) s = .next t) : t.slotsLawful := by
  have lockdown : t.lockdown = s.lockdown := exec_footprint taken .lockdown (by simp [footprint])
  rcases transaction_cases taken with
    ⟨reason, region, rfl⟩ | rfl | rfl | ⟨i, r, j, ⟨normal, place, job⟩, -, rfl⟩ |
    ⟨i, r, j, ⟨normal, -, -⟩, -, rfl⟩
  · exact hs
  · exact slotsLawful_of_slotTables (ps := [.transaction, .directive, .memory]) hs (by simp) (by decide) (by decide)
      (slotTables_passTransaction s tr _)
  · exact slotsLawful_of_slotTables (ps := [.transaction, .memory]) hs (by simp) (by decide) (by decide)
      (slotTables_forward s tr)
  · obtain ⟨_, bound, _⟩ := regionOf_some place
    exact slotsLawful_of_normal (lockdown ▸ normal) (agree_encipherWrite tr _ hs.agree bound (by rw [job]; rfl))
  · exact slotsLawful_of_normal (lockdown ▸ normal)
      ((freesSlots_decipheredRead tr _ i r (freesSlots_refl s)).agree hs.agree)

/-! ### The engine lines and the close deadline -/

/-- With no open side there is nothing to abandon (R92). -/
theorem abandon_of_closed (c : AbandonCause) (h : s.parser.openSide = none) : s.abandon c = s := by
  rw [State.abandon, h]

theorem slotsLawful_engSheet (hs : s.slotsLawful) : s.engSheet.slotsLawful := by
  have kept : Touches (footprint .engSheet) s s.engSheet := exec_footprint (c := .engSheet) rfl
  refine (freesSlots_engSheet (freesSlots_refl s)).slotsLawful hs (congrArg _ (kept .lockdown (by decide)))
    fun _ closed => ?_
  have unparsed : Touches [.transaction, .cipher, .directive, .job, .charging, .account, .meter] s s.engSheet := by
    simp only [State.engSheet, State.sheetDelivered, abandon_of_closed _ closed]
    (repeat' split) <;> simp
  rw [show s.engSheet.parser = s.parser from unparsed .parser (by decide), closed]

theorem slotsLawful_engJam (hs : s.slotsLawful) : s.engJam.slotsLawful := by
  have kept : Touches (footprint .engJam) s s.engJam := exec_footprint (c := .engJam) rfl
  refine (freesSlots_engJam (freesSlots_refl s)).slotsLawful hs (congrArg _ (kept .lockdown (by decide)))
    fun _ closed => ?_
  have unparsed : Touches [.transaction, .cipher, .directive, .job, .charging, .account] s s.engJam := by
    simp only [State.engJam, abandon_of_closed _ closed]
    rw [touches_askNotice _ _ (by decide), touches_foldl fun a h => touches_dropSheet h (by decide) (by decide)
      (by decide) (by decide) (by decide)]
    simp
  rw [show s.engJam.parser = s.parser from unparsed .parser (by decide), closed]

theorem slotsLawful_closeDeadline (slot : Nat) (hs : s.slotsLawful) : (s.closeDeadline slot).slotsLawful := by
  have kept : Touches (footprint (.closeDeadline slot)) s (s.closeDeadline slot) :=
    exec_footprint (c := .closeDeadline slot) rfl
  refine (freesSlots_closeDeadline slot (freesSlots_refl s)).slotsLawful hs
    (congrArg _ (kept .lockdown (by simp [footprint]))) fun free closed => ?_
  obtain ⟨jobs, -⟩ := (slotTables_eq_free_iff s).mp free
  rw [State.closeDeadline, jobs slot, closed]

/-- A scan page takes the last scan write record, and counts at its job if it names one (R106). -/
theorem slotsLawful_scnPage (hs : s.slotsLawful) : s.scnPage.slotsLawful := by
  have kept : Touches (footprint .scnPage) s s.scnPage := exec_footprint (c := .scnPage) rfl
  have tables : s.scnPage.slotTables = { s.slotTables with scan := none } := by
    simp only [State.scnPage]
    split
    · exact slotTables_chargeScan s.takeScanRecord _ _
    · rfl
  refine ⟨(tablesAgree_iff _).mpr ?_, (lockdownHoldsNoJob_iff _).mpr fun locked => ?_⟩
  · rw [tables]
    exact hs.agree.withScan fun slot named => by cases named
  · rw [show s.scnPage.lockdown = s.lockdown from kept .lockdown (by decide)] at locked
    obtain ⟨free, closed⟩ := hs.locked locked
    rw [tables, free, show s.scnPage.parser = s.parser from kept .parser (by decide), closed]
    exact ⟨rfl, rfl⟩

/-! ### Lockdown and reset -/

/-- An abandoned side is open no more (R92). -/
theorem abandon_openSide (s : State) (c : AbandonCause) : (s.abandon c).parser.openSide = none := by
  unfold State.abandon
  split
  · rename_i o _
    split
    · have drained : Touches [.transaction, .cipher, .directive, .job] (s.abandonSide o c)
          ((s.abandonSide o c).drainTest o.slot) := by simp
      rw [show _ = (s.abandonSide o c).parser from drained .parser (by decide), abandonSide_openSide]
    · exact abandonSide_openSide s o c
  · assumption

/-- Keys erased, regions freed and slots freed, nothing names a job slot (R60, R68, R20). -/
theorem freeAll_slotTables (a : State) : a.eraseKeys.freeAllRegions.freeAllSlots.slotTables = .free := by
  have slots : Touches [.directive, .job] a.eraseKeys.freeAllRegions a.eraseKeys.freeAllRegions.freeAllSlots := by simp
  have cipher : a.eraseKeys.freeAllRegions.freeAllSlots.cipher = a.eraseKeys.cipher := slots .cipher (by decide)
  have transaction : a.eraseKeys.freeAllRegions.freeAllSlots.transaction = a.freeAllRegions.transaction :=
    slots .transaction (by decide)
  rw [slotTables_eq_free_iff]
  simp only [State.region, cipher, transaction]
  exact ⟨fun slot => tget_replicate _ _ fun _ => rfl, fun slot => tget_replicate _ _ fun _ => rfl,
    fun i => tget_replicate _ _ fun _ => rfl, rfl⟩

/-- The entry at every block leaves nothing that names a job slot, and no open side (R168). -/
theorem slotsLawful_enterBlocks (s : State) (e : CauseEvent) : (s.enterBlocks e).slotsLawful := by
  have meter (b : State) : Touches [.directive, .meter] b b.meterEntry := by simp
  have erased (b : State) : Touches [.cipher, .transaction, .directive, .job, .meter]
      b b.eraseKeys.freeAllRegions.freeAllSlots.meterEntry := by simp
  refine slotsLawful_of_free ?_ ?_
  · exact (slotTables_of_touches (meter _) (by decide) (by decide) (by decide)).trans (freeAll_slotTables _)
  · exact (congrArg BandParser.openSide (erased _ .parser (by decide))).trans
      (abandon_openSide (s.enterMode e) .lockdown)

theorem slotsLawful_takeCause (e : CauseEvent) (hs : s.slotsLawful) : (s.takeCause e).slotsLawful := by
  unfold State.takeCause
  split
  · exact hs
  · exact slotsLawful_of_touches (ps := [.directive]) (slotsLawful_enterBlocks s e) (by simp) (by decide)

theorem slotsLawful_keyFaultReport (hs : s.slotsLawful) : s.keyFaultReport.slotsLawful := by
  unfold State.keyFaultReport
  split
  · exact slotsLawful_takeCause _ hs
  · exact hs

theorem slotsLawful_ownRecover (d : Directive) (hs : s.slotsLawful) : (ownRecover d s).2.slotsLawful := by
  unfold ownRecover
  (repeat' split) <;> try exact hs
  exact slotsLawful_of_normal rfl hs.agree

/-- Reset leaves no job, key, region, last scan write record or open side (R21, R61, R63, R85). -/
theorem slotsLawful_resetTo (s : State) (cause : ResetCause) : (s.resetTo cause).slotsLawful :=
  slotsLawful_of_free ((slotTables_eq_free_iff _).mpr ⟨reset_jobAt, reset_key, reset_region, rfl⟩) rfl

/-! ### Every command -/

/-- Every command keeps the tables that name a job slot in step, and LOCKDOWN without jobs. -/
theorem slotsLawful_exec {c : Instr} (hs : s.slotsLawful) (h : exec c s = .next t) : t.slotsLawful := by
  have kept := exec_footprint h
  cases c with
  | subordinateTransaction tr => exact slotsLawful_transaction hs h
  | keyFaultReport =>
    cases h
    exact slotsLawful_keyFaultReport hs
  | setRoles =>
    cases h
    refine slotsLawful_runDirective_of_agree (ps := [.transaction]) _ hs rfl (fun d => ?_) (by decide) fun d => ?_
    · simp
    · unfold ownSetRoles
      (repeat' split) <;> exact hs.agree
  | lockdown =>
    cases h
    refine slotsLawful_of_touches (s := s.runDirective .lockdown ownLockdown) (ps := [.directive])
      (slotsLawful_runDirective _ hs fun d _ => slotsLawful_enterBlocks s _)
      ((touches_afterLockdown s (by decide)).mpr (touches_refl _ _)) (by decide)
  | recover =>
    cases h
    exact slotsLawful_runDirective _ hs fun d _ => slotsLawful_ownRecover d hs
  | regionBind =>
    cases h
    exact slotsLawful_runDirective_of_agree (ps := [.transaction]) _ hs rfl (fun d => by simp) (by decide)
      fun d => agree_ownRegionBind d hs.agree
  | regionUnbind =>
    cases h
    exact slotsLawful_runDirective_of_agree (ps := [.transaction]) _ hs rfl (fun d => by simp) (by decide)
      fun d => agree_ownRegionUnbind d hs.agree
  | jobOpen =>
    cases h
    exact slotsLawful_runDirective_of_agree (ps := [.cipher, .job]) _ hs rfl (fun d => by simp) (by decide)
      fun d => agree_ownJobOpen d hs.agree
  | jobHold =>
    cases h
    exact slotsLawful_runDirective_of_agree (ps := [.job]) _ hs rfl (fun d => by simp) (by decide)
      fun d => (freesSlots_ownJobHold d).agree hs.agree
  | jobRelease =>
    cases h
    exact slotsLawful_runDirective_of_agree (ps := [.job]) _ hs rfl (fun d => by simp) (by decide)
      fun d => (freesSlots_ownJobRelease d).agree hs.agree
  | jobClose =>
    cases h
    exact slotsLawful_runDirective_of_agree (ps := [.transaction, .cipher, .directive, .job]) _ hs rfl
      (fun d => by simp) (by decide) fun d => (freesSlots_ownJobClose d).agree hs.agree
  | closeDeadline slot =>
    cases h
    exact slotsLawful_closeDeadline slot hs
  | engSheet =>
    cases h
    exact slotsLawful_engSheet hs
  | engJam =>
    cases h
    exact slotsLawful_engJam hs
  | scnPage =>
    cases h
    exact slotsLawful_scnPage hs
  | linkEntryStart =>
    refine slotsLawful_of_slotTables hs kept (by decide) (by decide) ?_
    cases h
    split <;> simp
  | replyFrame bs b =>
    refine slotsLawful_of_slotTables hs kept (by simp [footprint]) (by simp [footprint]) ?_
    cases h
    split <;> simp
  | quietEnd =>
    refine slotsLawful_of_slotTables hs kept (by decide) (by decide) ?_
    cases h
    exact slotTables_quietEnd s
  | tamperFall =>
    cases h
    split
    · exact slotsLawful_takeCause (s := s.setTamper false) _ hs
    · exact hs
  | tamperRise =>
    cases h
    exact hs
  | powerOn =>
    cases h
    exact slotsLawful_resetTo _ _
  | resetN =>
    cases h
    exact slotsLawful_resetTo _ _
  | _ => exact slotsLawful_of_touches hs kept (by simp [footprint])

/-- Settles O56: a command at the front of the queue keeps the laws, and so does the clock, which leaves the tables. -/
theorem tablesThatNameAJobStayInStep : Obligations.TablesThatNameAJobStayInStep := by
  intro s t tables locked h
  unfold step at h
  split at h
  · rename_i c rest _
    exact slotsLawful_exec (s := { s with pending := rest }) ⟨tables, locked⟩ h
  · cases h
    unfold State.tick
    split <;> exact ⟨tables, locked⟩

end Sys2Proof.Machine
end

section
/-! The draw-down of consumables beside the rest of the state (R134, R135), and the framing of a PAGE region (R78). -/

namespace Sys2Proof.Machine

/-! ### The draw-down beside the rest of the state -/

/-- The directive, consumable and link units of one state beside the rest of another. -/
def State.beside (s t : State) : State :=
  { t with directive := s.directive, consumable := s.consumable, link := s.link }

@[simp] theorem touches_beside {ps : List Part} {s a : State} (b : State) (hD : .directive ∈ ps) (hK : .consumable ∈ ps)
    (hL : .link ∈ ps) : Touches ps s (b.beside a) ↔ Touches ps s a :=
  touches_iff fun p outside => by
    cases p
    case directive => exact absurd hD outside
    case consumable => exact absurd hK outside
    case link => exact absurd hL outside
    all_goals rfl

theorem updateConsumable_beside (s t : State) (p : Nat) (f : Consumable → Consumable) :
    (s.beside t).updateConsumable p f = (s.updateConsumable p f).beside t :=
  rfl

theorem requestSync_beside (s t : State) (p : Nat) : (s.beside t).requestSync p = (s.requestSync p).beside t := by
  rw [requestSync_eq, requestSync_eq]
  rfl

theorem noticeLowIf_beside (s t : State) (p : Nat) (b : Bool) :
    (s.beside t).noticeLowIf p b = (s.noticeLowIf p b).beside t := by
  rw [noticeLowIf_eq, noticeLowIf_eq]
  rfl

theorem syncAfterDraw_beside (s t : State) (p : Nat) : (s.beside t).syncAfterDraw p = (s.syncAfterDraw p).beside t := by
  have requested := requestSync_beside s t p
  by_cases asks : ((s.consumableAt p).syncRefused && (s.consumableAt p).syncNeeded ||
      ((s.consumableAt p).state == .genuine && decide (1024 ≤ (s.consumableAt p).unsynced) &&
        !s.linkHolds p .sync)) = true
  · exact (if_pos asks).trans (requested.trans (congrArg (State.beside · t) (if_pos asks).symm))
  · exact (if_neg asks).trans (congrArg (State.beside · t) (if_neg asks).symm)

/-- A unit is drawn by the records, the link queue and the notices alone (R135). -/
theorem drawUnit_beside (s t : State) (p : Nat) : (s.beside t).drawUnit p = (s.drawUnit p).beside t := by
  have record : (s.beside t).consumableAt p = s.consumableAt p := rfl
  simp only [State.drawUnit, record]
  split
  · rfl
  · split
    · rw [updateConsumable_beside, syncAfterDraw_beside]
    · rw [← syncAfterDraw_beside, ← noticeLowIf_beside]
      split
      · rw [← requestSync_beside]
        rfl
      · rfl

theorem drawUnits_beside (s t : State) (p n : Nat) : (s.beside t).drawUnits p n = (s.drawUnits p n).beside t := by
  induction n generalizing s with
  | zero => rfl
  | succ n ih => rw [State.drawUnits, State.drawUnits, drawUnit_beside, ih]

theorem handDots_beside (s t : State) (plane : Plane) (dots : Nat) :
    (s.beside t).handDots plane dots = (s.handDots plane dots).beside t := by
  have record : (s.beside t).consumableAt plane.code = s.consumableAt plane.code := rfl
  simp only [State.handDots, record]
  split
  · rfl
  · rw [updateConsumable_beside, drawUnits_beside]

theorem handBand_beside (s t : State) (plane : Option Plane) (dots : Nat) :
    (s.beside t).handBand plane dots = (s.handBand plane dots).beside t := by
  unfold State.handBand
  split
  · split
    · exact handDots_beside ..
    · rfl
  · rfl

/-! ### Framing fields (R78) -/

theorem framingOf_of_page {s : State} {i : Nat} {r : Region} {f : Framing} {cursor : Nat}
    (bound : s.region i = some r) (body : r.body = .page f cursor) : s.framingOf i = some (f, cursor) := by
  simp [State.framingOf, bound, body]

/-- The framing of a PAGE region is replaced in its entry and nowhere else. -/
theorem setFraming_of_page {s : State} {i : Nat} {r : Region} {f : Framing} {cursor : Nat}
    (bound : s.region i = some r) (body : r.body = .page f cursor) (f' : Framing) (cursor' : Nat) :
    s.setFraming i f' cursor' = s.setTransaction (s.transaction.framed i r f' cursor') := by
  simp only [State.setFraming, bound, framingOf_of_page bound body]
  rfl

theorem breakRegion_of_page {s : State} {i : Nat} {r : Region} {f : Framing} {cursor : Nat}
    (bound : s.region i = some r) (body : r.body = .page f cursor) :
    s.breakRegion i = s.setTransaction (s.transaction.framed i r .broken cursor) := by
  rw [State.breakRegion, framingOf_of_page bound body]
  exact setFraming_of_page bound body ..

end Sys2Proof.Machine
end

section
/-! The abandonment of the open side (R92, R93), with the drain test that follows it (R55). -/

namespace Sys2Proof.Machine

/-! ### The steps of R92 -/

/-- The transaction unit as R93 leaves the region of an abandoned side, by cause. -/
def TransactionUnit.afterAbandon (u : TransactionUnit) (cause : AbandonCause) (i : Nat) (r : Region) (cursor : Nat) :
    TransactionUnit :=
  if cause = .restart then u.framed i r .atHeader 0
  else if cause = .framing ∨ cause = .newSideOtherRegion ∨ cause = .earlySheet ∨ cause = .jam then
    u.framed i r .broken cursor
  else u

theorem frameAbandoned_of_page {s : State} {i : Nat} {r : Region} {f : Framing} {cursor : Nat}
    (bound : s.region i = some r) (body : r.body = .page f cursor) (cause : AbandonCause) :
    s.frameAbandoned i cause = s.setTransaction (s.transaction.afterAbandon cause i r cursor) := by
  cases cause
  case restart => exact setFraming_of_page bound body ..
  case newSideSameRegion | closeTimeout | lockdown => rfl
  all_goals exact breakRegion_of_page bound body

section Abandoned

variable {s : State} {o : OpenSide} {h : Sheet} {j : JobRecord} {r : Region} {f : Framing} {cursor : Nat}

/-- The band's dot-levels handed over are all that an abandonment does at the consumable and link units (R92 step 1). -/
theorem touches_abandonSide_afterBand (s : State) (o : OpenSide) (cause : AbandonCause) :
    Touches [.transaction, .directive, .job, .parser, .charging, .account]
      (s.handBand (s.currentPlane o.region) o.bandDots) (s.abandonSide o cause) := by
  simp [State.abandonSide]

/-- The release of the reservation (R92 step 2). -/
theorem abandonSide_account (sheet : s.sheetNamed o.sheet = some h) (cause : AbandonCause) :
    (s.abandonSide o cause).account = (s.release h.account o.reservation).account := by
  have kept : Touches [.directive, .consumable, .link] s (s.handBand (s.currentPlane o.region) o.bandDots) := by simp
  have after : Touches [.transaction, .directive, .job, .parser, .charging]
      ((s.handBand (s.currentPlane o.region) o.bandDots).releaseSide o) (s.abandonSide o cause) := by
    simp [State.abandonSide]
  have account : (s.handBand (s.currentPlane o.region) o.bandDots).account = s.account := kept .account (by simp)
  have charging : (s.handBand (s.currentPlane o.region) o.bandDots).charging = s.charging := kept .charging (by simp)
  have named : (s.handBand (s.currentPlane o.region) o.bandDots).sheetNamed o.sheet = some h := by
    rw [State.sheetNamed, charging]
    exact sheet
  refine (after .account (by simp)).trans ?_
  rw [State.releaseSide, named]
  simp [State.release, State.chargeAccount, State.updateAccount, State.clearPristine, State.accountAt, account]

/-- The sheet of the side leaves the queue or awaits its back side again (R92 step 3). -/
theorem abandonSide_charging (s : State) (o : OpenSide) (cause : AbandonCause) :
    (s.abandonSide o cause).charging = (s.abandonSheet o.sheet o.kind).charging := by
  have kept : Touches [.directive, .consumable, .link, .account] s
      ((s.handBand (s.currentPlane o.region) o.bandDots).releaseSide o) := by simp
  have after : Touches [.transaction, .directive, .job, .parser]
      (((s.handBand (s.currentPlane o.region) o.bandDots).releaseSide o).abandonSheet o.sheet o.kind)
      (s.abandonSide o cause) := by
    simp [State.abandonSide]
  have charging : ((s.handBand (s.currentPlane o.region) o.bandDots).releaseSide o).charging = s.charging :=
    kept .charging (by simp)
  refine (after .charging (by simp)).trans ?_
  cases o.kind <;> simp [State.abandonSheet, State.updateSheet, charging]

/-- The job's share of an abandonment, at the job unit (R92 step 4). -/
theorem abandonSide_job (held : s.jobAt o.slot = some j) (cause : AbandonCause) :
    (s.abandonSide o cause).job.slots = tset s.job.slots o.slot (some j.abandonSide) := by
  have kept : Touches [.directive, .consumable, .link, .account, .charging] s
      (((s.handBand (s.currentPlane o.region) o.bandDots).releaseSide o).abandonSheet o.sheet o.kind) := by simp
  have after : Touches [.transaction, .directive, .parser]
      ((((s.handBand (s.currentPlane o.region) o.bandDots).releaseSide o).abandonSheet o.sheet o.kind).updateJob o.slot
        JobRecord.abandonSide) (s.abandonSide o cause) := by
    simp [State.abandonSide]
  have jobs := kept .job (by simp)
  have job : (s.abandonSide o cause).job = _ := after .job (by simp)
  rw [job, updateJob_job, jobAt_of_job_eq jobs, held]
  exact congrArg (fun u : JobUnit => tset u.slots o.slot _) jobs

/-- The region as R93 leaves it by cause (R92 step 5). -/
theorem abandonSide_transaction (bound : s.region o.region = some r) (body : r.body = .page f cursor)
    (cause : AbandonCause) :
    (s.abandonSide o cause).transaction = s.transaction.afterAbandon cause o.region r cursor := by
  let left := ((((s.handBand (s.currentPlane o.region) o.bandDots).releaseSide o).abandonSheet o.sheet
    o.kind).updateJob o.slot JobRecord.abandonSide).setOpenSide none
  have kept : left.transaction = s.transaction :=
    (show Touches [.directive, .consumable, .link, .account, .charging, .job, .parser] s left by simp [left])
      .transaction (by simp)
  have bound' : left.region o.region = some r := by rw [State.region, kept]; exact bound
  show (left.frameAbandoned o.region cause).transaction = _
  rw [frameAbandoned_of_page bound' body, setTransaction_transaction, kept]

/-- The ABANDONED notice follows what the draw-down asks for (R92 step 6). -/
theorem abandonSide_directive (held : s.jobAt o.slot = some j) (cause : AbandonCause) :
    (s.abandonSide o cause).directive =
      (s.handBand (s.currentPlane o.region) o.bandDots).directive.asked
        [noticeOf .sideAbandoned (abandonedValues o (some j.number) cause)] := by
  let left := (((((s.handBand (s.currentPlane o.region) o.bandDots).releaseSide o).abandonSheet o.sheet
    o.kind).updateJob o.slot JobRecord.abandonSide).setOpenSide none).frameAbandoned o.region cause
  have kept : left.directive = (s.handBand (s.currentPlane o.region) o.bandDots).directive :=
    (show Touches [.transaction, .account, .charging, .job, .parser]
      (s.handBand (s.currentPlane o.region) o.bandDots) left by simp [left]) .directive (by simp)
  have number : s.jobNumber o.slot = some j.number := by rw [State.jobNumber, held]; rfl
  show (left.askNotice .sideAbandoned (abandonedValues o (s.jobNumber o.slot) cause)).directive = _
  rw [askNotice_directive, kept, number]
  rfl

end Abandoned

/-! ### The drain test after an abandonment (R55) -/

theorem abandon_of_open {s : State} {o : OpenSide} (side : s.parser.openSide = some o) (cause : AbandonCause) :
    s.abandon cause =
      if cause.drains = true then (s.abandonSide o cause).drainTest o.slot else s.abandonSide o cause := by
  rw [State.abandon, side]

theorem drains_iff {cause : AbandonCause} : cause.drains = true ↔ cause ≠ .closeTimeout ∧ cause ≠ .lockdown := by
  cases cause <;> decide

section Drained

variable {s : State} {o : OpenSide} {h : Sheet} {j : JobRecord} {r : Region} {f : Framing} {cursor : Nat}

/-- The drain test that follows an abandonment reaches the job, its key, its regions and the reply writer alone. -/
theorem touches_abandon_afterSteps (side : s.parser.openSide = some o) (cause : AbandonCause) :
    Touches [.transaction, .directive, .job, .cipher] (s.abandonSide o cause) (s.abandon cause) := by
  rw [abandon_of_open side]
  split <;> simp

/-- The drain test completes the close of a CLOSING job whose last side in the queue was abandoned. -/
theorem abandon_of_drained {c : Closing} {cause : AbandonCause} (side : s.parser.openSide = some o)
    (held : s.jobAt o.slot = some j) (phase : j.phase = .closing c)
    (drained : cause ≠ .closeTimeout ∧ cause ≠ .lockdown ∧ j.abandonSide.inQueue = 0) :
    s.abandon cause = (s.abandonSide o cause).completeClose o.slot .drained 0 0 := by
  obtain ⟨deadline, lockdown, last⟩ := drained
  rw [abandon_of_open side, if_pos (drains_iff.mpr ⟨deadline, lockdown⟩),
    drainTest_of_closing (abandonSide_jobAt o cause held) phase, if_pos last]

/-- Nothing follows the six steps where the job is not CLOSING, has sides left or makes no drain test. -/
theorem abandon_of_not_drained {cause : AbandonCause} (side : s.parser.openSide = some o)
    (held : s.jobAt o.slot = some j)
    (stays : ¬(j.phase.state = .closing ∧ cause ≠ .closeTimeout ∧ cause ≠ .lockdown ∧ j.abandonSide.inQueue = 0)) :
    s.abandon cause = s.abandonSide o cause := by
  rw [abandon_of_open side]
  split
  · rename_i drains
    obtain ⟨deadline, lockdown⟩ := drains_iff.mp drains
    simp only [State.drainTest, abandonSide_jobAt o cause held]
    exact if_neg fun drained => stays ⟨drained.1, deadline, lockdown, drained.2⟩
  · rfl

/-- A close that the drain test completes frees the slot beside the region's new framing, and hands over its summary
and its reply after the notices (R55, R56). -/
theorem abandon_closes {c : Closing} {cause : AbandonCause} (side : s.parser.openSide = some o)
    (held : s.jobAt o.slot = some j) (phase : j.phase = .closing c)
    (drained : cause ≠ .closeTimeout ∧ cause ≠ .lockdown ∧ j.abandonSide.inQueue = 0) :
    { s with transaction := (s.abandonSide o cause).transaction }.freesSlot (s.abandon cause) o.slot ∧
      (s.abandon cause).directive =
        (s.abandonSide o cause).directive.handed
          (j.abandonSide.closed o.slot c.summary c.parked .drained 0 0 s.now) := by
  have left := abandonSide_jobAt o cause held
  have now := (asksOnly_abandonSide o cause (asksOnly_of_eq (rfl : s.directive = s.directive))).now
  rw [abandon_of_drained side held phase drained]
  refine ⟨?freed, ?unit⟩
  case freed =>
    have kept : Touches [.directive, .job, .parser, .charging, .account, .consumable, .link]
        { s with transaction := (s.abandonSide o cause).transaction } (s.abandonSide o cause) := by
      have all : Touches [.transaction, .directive, .job, .parser, .charging, .account, .consumable, .link] s
          (s.abandonSide o cause) := by simp
      intro p outside
      by_cases unit : p = .transaction
      · subst unit
        rfl
      · have same := all p (by simp_all)
        cases p <;> first | exact absurd rfl unit | exact same
    refine freesSlot_congr (completeClose_freesSlot left phase .drained 0 0) kept (by simp) (by simp) ?others
      (touches_refl _ _)
    intro k other
    rw [State.jobAt, abandonSide_job held, tget_tset_other _ _ other]
    rfl
  case unit => rw [completeClose_directive left phase, now]

end Drained

/-- The dot-levels of the band handed over by an abandonment (R90, R92 step 1). -/
theorem handBand_of_page {s : State} {i : Nat} {r : Region} {f : Framing} {cursor : Nat} (dots : Nat) :
    s.region i = some r → r.body = .page f cursor →
    s.handBand (s.currentPlane i) dots =
      match f with
      | .inPayload _ plane => if 0 < dots then s.handDots plane dots else s
      | _ => s := by
  intro bound body
  rw [State.currentPlane, framingOf_of_page bound body]
  cases f <;> rfl

/-- Settles O36, by whether the drain test completes a close. -/
theorem openSideIsAbandoned : Obligations.OpenSideIsAbandoned := by
  intro s cause o h j r f cursor side sheet held bound body u a handed left framed told stays
  have band : s.handBand (s.currentPlane o.region) o.bandDots = handed := handBand_of_page o.bandDots bound body
  have steps : Touches [.transaction, .directive, .job, .cipher] (s.abandonSide o cause) u :=
    touches_abandon_afterSteps side cause
  have unit : (s.abandonSide o cause).transaction = framed := abandonSide_transaction bound body cause
  have notice : (s.abandonSide o cause).directive = told := by
    rw [abandonSide_directive held, band]
    rfl
  have afterBand : Touches [.transaction, .directive, .job, .parser, .charging, .account] handed
      (s.abandonSide o cause) := band ▸ touches_abandonSide_afterBand s o cause
  have remains : u = s.abandonSide o cause → stays := fun same =>
    ⟨by rw [same, abandonSide_job held]; rfl, by rw [same, unit], by rw [same, notice],
      by rw [same]; exact (show Touches [.transaction, .directive, .job, .parser, .charging, .account, .consumable,
        .link] s (s.abandonSide o cause) by simp) .cipher (by simp)⟩
  refine ⟨?parser, ?account, ?sheets, ?consumable, ?link, ?job, ?frame⟩
  case parser => rw [steps .parser (by simp), abandonSide_openSide]
  case account => rw [steps .account (by simp), abandonSide_account sheet]; rfl
  case sheets =>
    rw [steps .charging (by simp), abandonSide_charging]
    cases o.kind <;> rfl
  case consumable => exact (steps .consumable (by simp)).trans (afterBand .consumable (by simp))
  case link => exact (steps .link (by simp)).trans (afterBand .link (by simp))
  case job =>
    split
    case h_1 c phase =>
      split
      · rename_i drained
        have closes := abandon_closes side held phase drained
        rwa [unit, notice] at closes
      · rename_i waits
        exact remains (abandon_of_not_drained side held fun drained => waits drained.2)
    case h_2 other =>
      refine remains (abandon_of_not_drained side held fun drained => ?_)
      cases phase : j.phase with
      | closing c => exact other c phase
      | active | held | released =>
        rw [phase] at drained
        cases drained.1
  case frame =>
    apply Touches.changesOnly
    simp [u]

end Sys2Proof.Machine
end

section
/-! A VIDEO read as the band parser takes it: from its placement (R79) and the restart (R80) to its parse (R81). -/

namespace Sys2Proof.Machine

/-! ### The turns of the parser (R81) -/

section Turns

variable {v : VideoRead} {s s' : State} {n offset cursor : Nat} {data : List Byte}

theorem parseFrom_nil (v : VideoRead) (n : Nat) (s : State) (offset : Nat) :
    State.parseFrom v n s offset [] = (s, true) := by
  cases n <;> rfl

/-- Payload is taken as far as the band or the data reaches (R81, R90). -/
theorem parseFrom_payload {remaining : Nat} {plane : Plane} (more : data ≠ [])
    (stands : s.framingOf v.index = some (.inPayload remaining plane, cursor)) :
    State.parseFrom v (n + 1) s offset data =
      if remaining ≤ data.length then
        State.parseFrom v n
          ((s.countPayload v.index plane (data.take remaining)).endBand v.index plane (offset + remaining))
          (offset + remaining) (data.drop remaining)
      else
        ((s.countPayload v.index plane (data.take remaining)).setFraming v.index
          (.inPayload (remaining - data.length) plane) (offset + data.length), true) := by
  cases data with
  | nil => exact absurd rfl more
  | cons b bs => simp only [State.parseFrom, stands]

/-- A header that ends after the data (R84). -/
theorem parseFrom_split (more : data ≠ []) (stands : s.framingOf v.index = some (.atHeader, cursor))
    (short : data.length < 32) :
    State.parseFrom v (n + 1) s offset data = (s.noticeFraming v .headerSplit .atHeader offset, false) := by
  cases data with
  | nil => exact absurd rfl more
  | cons b bs => simp only [State.parseFrom, stands, if_pos short]

theorem parseFrom_header (stands : s.framingOf v.index = some (.atHeader, cursor)) (whole : 32 ≤ data.length) :
    State.parseFrom v (n + 1) s offset data =
      if (s.takeHeader v offset (data.take 32)).2 = true then
        State.parseFrom v n (s.takeHeader v offset (data.take 32)).1 (offset + 32) (data.drop 32)
      else ((s.takeHeader v offset (data.take 32)).1, false) := by
  cases data with
  | nil => simp at whole
  | cons b bs =>
    simp only [State.parseFrom, stands, if_neg (Nat.not_lt.mpr whole)]
    split <;> simp_all

/-- A header with nothing after it decides its read. -/
theorem parseFrom_header_alone (stands : s.framingOf v.index = some (.atHeader, cursor)) (alone : data.length = 32) :
    State.parseFrom v (n + 1) s offset data = s.takeHeader v offset data := by
  have whole : data.take 32 = data := List.take_of_length_le (by omega)
  have rest : data.drop 32 = [] := List.drop_eq_nil_of_le (by omega)
  rw [parseFrom_header stands (by omega), whole, rest, parseFrom_nil]
  generalize s.takeHeader v offset data = taken
  obtain ⟨after, passes⟩ := taken
  cases passes <;> rfl

/-- A header that fails its tests (R83). -/
theorem takeHeader_of_error {bytes : List Byte} {reason : FramingReason}
    (judged : judgeHeader (.ofBytes bytes) v.length offset (s.openSideIn v.index) = .error reason) :
    s.takeHeader v offset bytes = (s.framingError v offset reason, false) := by
  simp only [State.takeHeader, judged]

/-- A header that starts a side goes to the checks of R87. -/
theorem takeHeader_of_starts {bytes : List Byte} {kind : SideKind} {plane : Plane}
    (judged : judgeHeader (.ofBytes bytes) v.length offset (s.openSideIn v.index) = .starts kind plane) :
    s.takeHeader v offset bytes = s.startSide v offset (.ofBytes bytes) kind plane := by
  simp only [State.takeHeader, judged]

/-- Data from a header on is refused where the header is. -/
theorem parseRead_of_refused (stands : s.framingOf v.index = some (.atHeader, cursor)) (whole : 32 ≤ data.length)
    (refused : s.takeHeader v v.offset (data.take 32) = (s', false)) : s.parseRead v data = (s', false) := by
  obtain ⟨turns, enough⟩ : ∃ turns, 2 * data.length = turns + 1 := ⟨2 * data.length - 1, by omega⟩
  rw [State.parseRead, enough, parseFrom_header stands whole, refused]
  rfl

end Turns

/-! ### Regions that stand at a header -/

theorem tset_of_tget {α : Type} [Inhabited α] {n : Nat} {v : Vector α n} {i : Nat} {x : α} (h : tget v i = x) :
    tset v i x = v := by
  by_cases inside : i < n
  · simp only [tget, inside, dif_pos] at h
    simp [tset, inside, ← h]
  · exact tset_beyond v x (by omega)

/-- A region framed as it stands is as it was. -/
theorem setFraming_self {s : State} {i : Nat} {r : Region} {f : Framing} {cursor : Nat} (bound : s.region i = some r)
    (body : r.body = .page f cursor) : s.setFraming i f cursor = s := by
  have same : ({ r with body := .page f cursor } : Region) = r := by rw [← body]
  rw [setFraming_of_page bound body, TransactionUnit.framed, same, tset_of_tget bound]
  rfl

/-- A read at offset 0 of a region that stands at a header there and holds no open side restarts nothing, as no other
read does (R80). -/
theorem restartFraming_atHeader {s : State} {t : Transaction} {i : Nat} {r : Region} {cursor : Nat}
    (bound : s.region i = some r) (body : r.body = .page .atHeader cursor) (place : t.address - r.base = cursor)
    (closed : cursor = 0 → s.openSideIn i = none) : s.restartFraming (videoReadOf t i r) = s := by
  by_cases start : cursor = 0
  · subst start
    have none := closed rfl
    simp [State.restartFraming, videoReadOf, place, none, setFraming_self bound body]
  · exact restartFraming_of_offset (show t.address - r.base ≠ 0 by omega)

/-! ### The read as a transaction (R15) -/

section Reads

variable {t : Transaction} {s : State} {i : Nat} {r : Region} {j : JobRecord} {f : Framing} {cursor : Nat}
  {key : JobKey}

theorem region_of_readsPage (reads : s.readsPage t i r j f cursor) :
    s.region i = some r ∧ r.base ≤ t.address ∧ r.body = .page f cursor ∧ 1 ≤ t.beats := by
  obtain ⟨⟨formed, _⟩, _, _, ⟨_, region, _⟩, body, _⟩ := reads
  obtain ⟨bound, held, _⟩ := regionOf_eq_some_iff.mp region
  simp only [Region.holds, Bool.and_eq_true, decide_eq_true_eq] at held
  obtain ⟨_, _, _, beats, _⟩ := (transaction_wellFormed_iff t).mp formed
  exact ⟨bound, held.1, body, beats⟩

/-- The answer to a VIDEO read by what its parse came to (R15, R81). -/
def State.answeredBy (p : State × Bool) (t : Transaction) (data : List Byte) : State :=
  p.1.respond t.requester p.2 (if p.2 = true then data else [])

/-- A read that R79 lets through is parsed after the restart that it makes (R80, R81). -/
theorem exec_parsed (reads : s.readsPage t i r j f cursor)
    (placed : placementRefusal f cursor (t.address - r.base) t.beats = none)
    (holds : (s.restartFraming (videoReadOf t i r)).holdsKey r.slot key) :
    exec (.subordinateTransaction t) s =
      .next
        (State.answeredBy
          ((s.restartFraming (videoReadOf t i r)).parseRead (videoReadOf t i r) (s.plainBytes t r key)) t
          (s.plainBytes t r key)) := by
  have kept : Touches [.transaction, .cipher, .directive, .job, .parser, .charging, .account, .consumable, .link] s
      (s.restartFraming (videoReadOf t i r)) := by simp
  have plain : (s.restartFraming (videoReadOf t i r)).plainBytes t r key = s.plainBytes t r key := by
    rw [State.plainBytes, State.plainBytes, State.bytesAt, State.bytesAt, kept .memory (by simp)]
  rw [exec_readsPage reads, videoRead_eq_parseVideo placed, parseVideo_of_holdsKey holds, plain]
  rfl

/-- A read that meets a header at the cursor is parsed from there. -/
theorem exec_meetsHeader {plain : List Byte} (meets : s.meetsHeader t i r j cursor key plain)
    (closed : cursor = 0 → s.openSideIn i = none) :
    exec (.subordinateTransaction t) s =
      .next (State.answeredBy (s.parseRead (videoReadOf t i r) plain) t plain) := by
  obtain ⟨reads, place, beats, holds, plainIs⟩ := meets
  obtain ⟨bound, _, body, _⟩ := region_of_readsPage reads
  have stays := restartFraming_atHeader bound body place closed
  have data : s.plainBytes t r key = plain := by rw [plainIs, ← place]; rfl
  have placed : placementRefusal .atHeader cursor (t.address - r.base) t.beats = none :=
    placementRefusal_of_lets (.inr ⟨place, by omega⟩)
  rw [exec_parsed reads placed (by rw [stays]; exact holds), stays, data]

theorem length_of_meetsHeader {plain : List Byte} (meets : s.meetsHeader t i r j cursor key plain) :
    plain.length = 16 * t.beats ∧ 32 ≤ plain.length := by
  obtain ⟨_, _, beats, _, plainIs⟩ := meets
  have length : plain.length = 16 * t.beats := by rw [plainIs, length_decipherBeats]
  exact ⟨length, by omega⟩

theorem framingOf_of_meetsHeader {plain : List Byte} (meets : s.meetsHeader t i r j cursor key plain) :
    s.framingOf i = some (.atHeader, cursor) := by
  obtain ⟨bound, _, body, _⟩ := region_of_readsPage meets.1
  exact framingOf_of_page bound body

end Reads

end Sys2Proof.Machine
end

section
/-! Payload and the ends of bands and sides (R90, R91). -/

namespace Sys2Proof.Machine

theorem openSideIn_of_open {s : State} {i : Nat} {o : OpenSide} (side : s.parser.openSide = some o)
    (mine : o.region = i) : s.openSideIn i = some o := by
  rw [State.openSideIn, side]
  exact if_pos mine

/-- Payload counted in an open side (R90). -/
def OpenSide.counted (o : OpenSide) (plane : Plane) (n : Nat) : OpenSide :=
  { o with dots := o.dots.add plane n, bandDots := o.bandDots + n }

/-- The open side after the end of a band (R90). -/
def OpenSide.bandEnded (o : OpenSide) : OpenSide := { o with bandDots := 0, nextBand := o.nextBand + 1 }

theorem countPayload_of_open {s : State} {i : Nat} {o : OpenSide} (side : s.openSideIn i = some o) (plane : Plane)
    (bytes : List Byte) :
    s.countPayload i plane bytes = s.setOpenSide (some (o.counted plane (bytes.map dotLevels).sum)) := by
  simp only [State.countPayload, side]
  rfl

section BandEnd

variable {s : State} {i : Nat} {r : Region} {f : Framing} {cursor : Nat} {o : OpenSide} {plane : Plane}

/-- The state after the end of a band, with the side still open: the band's dot-levels are handed to the plane's
position, the next band number rises, and the region stands at a header (R90). -/
def State.afterBand (s : State) (i : Nat) (r : Region) (plane : Plane) (o : OpenSide) (next : Nat) : State :=
  (((s.handBand (some plane) o.bandDots).beside s).setOpenSide (some o.bandEnded)).setTransaction
    (s.transaction.framed i r .atHeader next)

/-- The end of a band that the open side counted (R90, R91). -/
theorem endBand_of_open (bound : s.region i = some r) (body : r.body = .page f cursor) (mine : o.region = i)
    (next : Nat) :
    (s.setOpenSide (some o)).endBand i plane next =
      if o.lastBand = true then (s.afterBand i r plane o next).completeSide o.bandEnded
      else s.afterBand i r plane o next := by
  have side : (s.setOpenSide (some o)).openSideIn i = some o := openSideIn_of_open rfl mine
  have handed : (s.setOpenSide (some o)).handBand (some plane) o.bandDots =
      (s.handBand (some plane) o.bandDots).beside (s.setOpenSide (some o)) :=
    handBand_beside s (s.setOpenSide (some o)) ..
  have framed : (((s.handBand (some plane) o.bandDots).beside (s.setOpenSide (some o))).setOpenSide
      (some o.bandEnded)).setFraming i .atHeader next = s.afterBand i r plane o next :=
    setFraming_of_page (s := ((s.handBand (some plane) o.bandDots).beside (s.setOpenSide (some o))).setOpenSide
      (some o.bandEnded)) bound body ..
  simp only [State.endBand, side, handed]
  exact congrArg (fun x : State => if o.lastBand = true then x.completeSide o.bandEnded else x) framed

/-- The completion of a side draws the imaging unit after the band's dot-levels, beside the advance of the sheet
(R91). -/
theorem completeSide_afterBand (s : State) (i : Nat) (r : Region) (plane : Plane) (o o' : OpenSide) (next : Nat) :
    (s.afterBand i r plane o next).completeSide o' =
      (((s.handBand (some plane) o.bandDots).drawUnit 4).beside
        ((s.afterBand i r plane o next).updateSheet o'.sheet (Sheet.completeSide o'.kind o'.dots))).setOpenSide none :=
  congrArg (State.setOpenSide · none)
    (drawUnit_beside (s.handBand (some plane) o.bandDots)
      ((s.afterBand i r plane o next).updateSheet o'.sheet (Sheet.completeSide o'.kind o'.dots)) 4)

@[simp] theorem touches_afterBand {ps : List Part} {a : State} (i : Nat) (r : Region) (plane : Plane) (o : OpenSide)
    (next : Nat) (hT : .transaction ∈ ps) (hD : .directive ∈ ps) (hB : .parser ∈ ps) (hK : .consumable ∈ ps)
    (hL : .link ∈ ps) : Touches ps s (a.afterBand i r plane o next) ↔ Touches ps s a := by
  simp [State.afterBand, *]

end BandEnd

/-- A read of payload only is counted, and ends the band with its last byte where it reaches the band's end (R90). -/
theorem parseRead_payload {v : VideoRead} {s : State} {remaining cursor : Nat} {plane : Plane} {data : List Byte}
    (more : data ≠ []) (stands : s.framingOf v.index = some (.inPayload remaining plane, cursor))
    (within : data.length ≤ remaining) :
    s.parseRead v data =
      (if data.length < remaining then
        (s.countPayload v.index plane data).setFraming v.index (.inPayload (remaining - data.length) plane)
          (v.offset + data.length)
       else (s.countPayload v.index plane data).endBand v.index plane (v.offset + data.length), true) := by
  have positive : 0 < data.length := List.length_pos_iff.mpr more
  obtain ⟨turns, enough⟩ : ∃ turns, 2 * data.length = turns + 1 := ⟨2 * data.length - 1, by omega⟩
  have taken : data.take remaining = data := List.take_of_length_le within
  rw [State.parseRead, enough, parseFrom_payload more stands, taken]
  by_cases short : data.length < remaining
  · rw [if_neg (by omega), if_pos short]
  · have whole : remaining = data.length := by omega
    rw [if_pos (by omega), if_neg short, whole, List.drop_length, parseFrom_nil]

/-- What a read of payload only comes to, by whether it ends the band and whether the band ends the side. -/
theorem exec_payload {t : Transaction} {s : State} {i : Nat} {r : Region} {j : JobRecord} {remaining cursor : Nat}
    {plane : Plane} {key : JobKey} {o : OpenSide} (reads : s.readsPage t i r j (.inPayload remaining plane) cursor)
    (place : t.address - r.base = cursor) (away : cursor ≠ 0) (within : 16 * t.beats ≤ remaining)
    (holds : s.holdsKey r.slot key) (side : s.parser.openSide = some o) (mine : o.region = i) :
    let plain := decipherBeats key r.segment (cursor / 16) t.beats (s.stored t)
    let counted := o.counted plane (plain.map dotLevels).sum
    let next := cursor + 16 * t.beats
    exec (.subordinateTransaction t) s =
      .next
        (State.respond
          (if 16 * t.beats < remaining then
            (s.setOpenSide (some counted)).setTransaction
              (s.transaction.framed i r (.inPayload (remaining - 16 * t.beats) plane) next)
          else if o.lastBand = true then (s.afterBand i r plane counted next).completeSide counted.bandEnded
          else s.afterBand i r plane counted next)
          t.requester true plain) := by
  intro plain counted next
  obtain ⟨bound, _, body, beats⟩ := region_of_readsPage reads
  have stays : s.restartFraming (videoReadOf t i r) = s :=
    restartFraming_of_offset (show t.address - r.base ≠ 0 by omega)
  have placed : placementRefusal (.inPayload remaining plane) cursor (t.address - r.base) t.beats = none :=
    placementRefusal_of_lets (.inr ⟨place, by omega⟩)
  have data : s.plainBytes t r key = plain := congrArg (decipherBeats key r.segment · t.beats _) (by rw [← place]; rfl)
  have length : plain.length = 16 * t.beats := length_decipherBeats ..
  have offset : (videoReadOf t i r).offset + 16 * t.beats = next := congrArg (· + 16 * t.beats) place
  have counts : s.countPayload (videoReadOf t i r).index plane plain = s.setOpenSide (some counted) :=
    countPayload_of_open (openSideIn_of_open side mine) ..
  have framed : (s.setOpenSide (some counted)).setFraming (videoReadOf t i r).index
      (.inPayload (remaining - 16 * t.beats) plane) next = _ :=
    setFraming_of_page (s := s.setOpenSide (some counted)) bound body ..
  have ends : (s.setOpenSide (some counted)).endBand (videoReadOf t i r).index plane next = _ :=
    endBand_of_open (o := counted) bound body mine next
  have parsed := parseRead_payload (v := videoReadOf t i r) (data := plain)
    (List.ne_nil_of_length_pos (by omega)) (framingOf_of_page bound body) (by omega)
  rw [length, offset, counts, framed, ends] at parsed
  have done := exec_parsed reads placed (by rw [stays]; exact holds)
  rw [stays, data, parsed] at done
  exact done

/-- Settles O35, by whether the read ends the band and whether the band ends the side. -/
theorem payloadIsCountedAndEndsBandAndSide : Obligations.PayloadIsCountedAndEndsBandAndSide := by
  intro t s i r j remaining plane cursor key o reads place away within holds side mine
  refine ⟨_, exec_payload reads place away within holds side mine, ?_⟩
  intro plain n dots next answered
  by_cases short : 16 * t.beats < remaining
  · rw [if_pos short, if_pos short]
    refine ⟨rfl, rfl, ?_⟩
    apply Touches.changesOnly
    simp
  · rw [if_neg short, if_neg short]
    by_cases last : o.lastBand = true
    · rw [if_pos last, completeSide_afterBand]
      intro handed
      rw [if_pos last]
      refine ⟨rfl, rfl, ?sheets, rfl, rfl, rfl, ?frame⟩
      case sheets => cases o with | mk region slot sheet kind => cases kind <;> rfl
      case frame =>
        apply Touches.changesOnly
        simp
    · rw [if_neg last]
      intro handed
      rw [if_neg last]
      refine ⟨rfl, rfl, rfl, rfl, rfl, ?_⟩
      apply Touches.changesOnly
      simp

end Sys2Proof.Machine
end

section
/-! The start of a side: its checks in order (R87, R88), and the side made (R89, R96, R97). -/

namespace Sys2Proof.Machine

/-! ### The checks of R87 -/

theorem atLimit_iff {j : JobRecord} :
    j.atLimit = true ↔ j.limit ≠ 0 ∧ j.limit ≤ j.mono + j.colour + j.inQueue := by
  simp [JobRecord.atLimit]

/-- An account can take a reservation where it could pay that amount: an UNMETERED one takes any (R116). -/
theorem canTake_eq_pays (a : Account) (amount : Nat) : a.canTake amount = a.pays amount := by
  cases mode : a.mode <;> simp [Account.pays, Account.canTake, Account.floor, floorOf, atOrAbove, mode]

/-- An account cannot take a reservation above 0 that would bring it below its floor (R114, R116). -/
theorem not_canTake_iff {a : Account} {amount : Nat} :
    ¬ a.canTake amount = true ↔
      amount ≠ 0 ∧ a.mode ≠ .unmetered ∧
        a.balance - a.reserved - amount < if a.mode = .credit then -(a.creditLimit : Int) else 0 := by
  rw [canTake_eq_pays, pays_iff, not_or, not_or, not_le]
  exact and_left_comm

theorem notGenuine_isSome_iff {s : State} {mask : PlaneMask} :
    (s.notGenuine mask).isSome = true ↔
      (neededPositions mask).find? (fun p => (s.consumableAt p).state != .genuine) ≠ none := by
  rw [State.notGenuine, Option.isSome_map, Option.isSome_iff_ne_none]

theorem not_queueTakes_iff {s : State} {slot : Nat} {kind : SideKind} :
    ¬ s.queueTakes slot kind = true ↔
      (kind ≠ .back ∧ 8 ≤ s.charging.sheets.length) ∨
        (kind = .back ∧ (s.charging.sheets.filter fun x => x.awaits slot) = []) := by
  cases kind <;> simp [State.queueTakes, List.filter_eq_nil_iff]

/-- The checks of R87 after the first, which a read that the grant table answers DECIPHERED passes. -/
theorem sideRefusal_eq {s : State} {slot reservation : Nat} {needed : List Nat} {j : JobRecord} {kind : SideKind}
    {mask : PlaneMask} (grants : readsDeciphered j.kind j.phase.state .page .video = true)
    (reserves : s.reservationOf j mask = reservation) (needs : neededPositions mask = needed) :
    s.sideRefusal slot j kind mask =
      let a := s.accountAt j.account
      let floor : Int := if a.mode = .credit then -(a.creditLimit : Int) else 0
      if j.limit ≠ 0 ∧ j.limit ≤ j.mono + j.colour + j.inQueue then some .limit
      else if a.state ≠ .active then some .account
      else if hasColour mask = true ∧ a.colour = false then some .colourDenied
      else if reservation ≠ 0 ∧ a.mode ≠ .unmetered ∧ a.balance - a.reserved - reservation < floor then some .funds
      else if needed.find? (fun p => (s.consumableAt p).state != .genuine) ≠ none then some .consumable
      else if (kind ≠ .back ∧ 8 ≤ s.charging.sheets.length) ∨
          (kind = .back ∧ (s.charging.sheets.filter fun x => x.awaits slot) = []) then
        some .sheetQueue
      else none := by
  have colour : (hasColour mask && !(s.accountAt j.account).colour) = true ↔
      hasColour mask = true ∧ (s.accountAt j.account).colour = false := by simp
  simp only [State.sideRefusal, grants, Bool.not_true, Bool.false_eq_true, if_false, atLimit_iff, colour,
    Bool.not_eq_true', ← Bool.not_eq_true, not_canTake_iff, notGenuine_isSome_iff, not_queueTakes_iff, reserves, needs]

/-! ### The side made (R89) -/

section Made

variable {s : State} {v : VideoRead} {r : Region} {j : JobRecord} {kind : SideKind} {mask : PlaneMask}

@[simp] theorem makeSide_transaction : (s.makeSide v j kind mask).transaction = s.transaction := by
  cases kind <;> rfl

@[simp] theorem makeSide_account :
    (s.makeSide v j kind mask).account = (s.reserve j.account (s.reservationOf j mask)).account := by
  cases kind <;> rfl

@[simp] theorem makeSide_tariffs : (s.makeSide v j kind mask).charging.tariffs = s.charging.tariffs := by
  cases kind <;> rfl

theorem makeSide_sheets :
    (s.makeSide v j kind mask).charging.sheets =
      if kind = .back then
        s.charging.sheets.map fun x =>
          if x.name = s.sheetForSide v.slot kind then
            { x with state := .fillingBack, back := some (s.newSide j kind mask) }
          else x
      else
        s.charging.sheets ++
          [{ name := s.sheetForSide v.slot kind, owner := .job v.slot, account := j.account, state := .fillingFront,
             front := s.newSide j kind mask, back := none }] := by
  cases kind <;> rfl

theorem makeSide_slots (held : s.jobAt v.slot = some j) :
    (s.makeSide v j kind mask).job.slots = tset s.job.slots v.slot (some { j with inQueue := j.inQueue + 1 }) := by
  have counted : tset s.job.slots v.slot ((s.jobAt v.slot).map fun j => { j with inQueue := j.inQueue + 1 }) = _ :=
    congrArg (fun x => tset s.job.slots v.slot (Option.map _ x)) held
  cases kind <;> exact counted

/-- The sheet that a side takes: for a BACK side the oldest that awaits one (R97), else a new one (log 26). -/
theorem sheetForSide_eq {slot : Nat}
    (room : kind = .back → (s.charging.sheets.filter fun x => x.awaits slot) ≠ []) :
    s.sheetForSide slot kind =
      if kind = .back then ((s.charging.sheets.filter fun x => x.awaits slot).head?.map Sheet.name).getD 0
      else s.charging.nextSheet := by
  cases kind with
  | simplex | front => rfl
  | back =>
    obtain ⟨oldest, younger, waiting⟩ := List.exists_cons_of_ne_nil (room rfl)
    have found : s.charging.sheets.find? (fun x => x.awaits slot) = some oldest := by
      rw [← List.head?_filter, waiting]
      rfl
    simp [State.sheetForSide, found, waiting]

/-- A header consumed is kept with the open side, and the region stands in its payload (R81; log 27). -/
theorem consumeHeader_of_page {i : Nat} {f : Framing} {cursor : Nat} (bound : s.region i = some r)
    (body : r.body = .page f cursor) (offset : Nat) (h : BandHeader) (plane : Plane) :
    s.consumeHeader i offset h plane =
      (s.setOpenSide (s.parser.openSide.map (OpenSide.takeHeader h.sideEnd))).setTransaction
        (s.transaction.framed i r (.inPayload (32 * h.units) plane) (offset + 32)) :=
  setFraming_of_page (s := s.setOpenSide (s.parser.openSide.map (OpenSide.takeHeader h.sideEnd))) bound body ..

end Made

/-! ### The read of a header that starts a side -/

section Checked

variable {s : State} {v : VideoRead} {j : JobRecord} {kind : SideKind} {h : BandHeader}

/-- With no side open, a header that starts a side is refused at the first check that fails (R86 to R88). -/
theorem startSide_of_refusal {reason : SideReason} (closed : s.parser.openSide = none) (held : s.jobAt v.slot = some j)
    (refusal : s.sideRefusal v.slot j kind h.mask = some reason) (offset : Nat) (plane : Plane) :
    s.startSide v offset h kind plane = (s.noticeSide v j kind h.mask offset reason, false) := by
  simp only [State.startSide, State.abandonForStart, abandon_of_closed _ closed, held, refusal]

/-- With no side open, a header starts a side where no check fails (R89). -/
theorem startSide_of_passes (closed : s.parser.openSide = none) (held : s.jobAt v.slot = some j)
    (passes : s.sideRefusal v.slot j kind h.mask = none) (offset : Nat) (plane : Plane) :
    s.startSide v offset h kind plane =
      ((s.makeSide v j kind h.mask).consumeHeader v.index offset h plane, true) := by
  simp only [State.startSide, State.abandonForStart, abandon_of_closed _ closed, held, passes]

end Checked

/-- The answer to a read of a header that starts a side, by the check that refuses it. -/
def State.sideAnswer (s : State) (t : Transaction) (i : Nat) (r : Region) (j : JobRecord) (cursor : Nat)
    (plain : List Byte) (kind : SideKind) (plane : Plane) : Option SideReason → State
  | some reason =>
    (s.noticeSide (videoReadOf t i r) j kind (BandHeader.ofBytes plain).mask cursor reason).respond t.requester false []
  | none =>
    ((s.makeSide (videoReadOf t i r) j kind (BandHeader.ofBytes plain).mask).consumeHeader i cursor (.ofBytes plain)
      plane).respond t.requester true plain

theorem exec_startsSide {t : Transaction} {s : State} {i : Nat} {r : Region} {j : JobRecord} {cursor : Nat}
    {key : JobKey} {plain : List Byte} {kind : SideKind} {plane : Plane}
    (meets : s.meetsHeader t i r j cursor key plain) (alone : t.beats = 2) (closed : s.parser.openSide = none)
    (judged : judgeHeader (.ofBytes plain) r.length cursor none = .starts kind plane) :
    exec (.subordinateTransaction t) s =
      .next
        (s.sideAnswer t i r j cursor plain kind plane
          (s.sideRefusal r.slot j kind (BandHeader.ofBytes plain).mask)) := by
  obtain ⟨length, _⟩ := length_of_meetsHeader meets
  have closed' : s.openSideIn i = none := by rw [State.openSideIn, closed]
  have place : (videoReadOf t i r).offset = cursor := meets.2.1
  have held : s.jobAt r.slot = some j := meets.1.2.2.2.1.2.2
  have judged' : judgeHeader (.ofBytes plain) (videoReadOf t i r).length cursor
      (s.openSideIn (videoReadOf t i r).index) = .starts kind plane := by
    rw [← judged]
    exact congrArg (judgeHeader _ _ _) closed'
  have turns : 2 * plain.length = 63 + 1 := by omega
  have parsed : s.parseRead (videoReadOf t i r) plain =
      s.startSide (videoReadOf t i r) cursor (.ofBytes plain) kind plane := by
    rw [State.parseRead, turns, place, parseFrom_header_alone (framingOf_of_meetsHeader meets) (by omega),
      takeHeader_of_starts judged']
  rw [exec_meetsHeader meets fun _ => closed', parsed]
  cases refusal : s.sideRefusal r.slot j kind (BandHeader.ofBytes plain).mask with
  | some reason => rw [startSide_of_refusal (v := videoReadOf t i r) closed held refusal]; rfl
  | none => rw [startSide_of_passes (v := videoReadOf t i r) closed held refusal]; rfl

/-- The state that a side start which no check refuses leaves (R81, R89). -/
theorem sideAnswer_of_passes {s : State} {t : Transaction} {i : Nat} {r : Region} {f : Framing} {cursor : Nat}
    (bound : s.region i = some r) (body : r.body = .page f cursor) (j : JobRecord) (offset : Nat) (plain : List Byte)
    (kind : SideKind) (plane : Plane) :
    let h := BandHeader.ofBytes plain
    let made := s.makeSide (videoReadOf t i r) j kind h.mask
    s.sideAnswer t i r j offset plain kind plane none =
      ((made.setOpenSide (made.parser.openSide.map (OpenSide.takeHeader h.sideEnd))).setTransaction
        (s.transaction.framed i r (.inPayload (32 * h.units) plane) (offset + 32))).respond t.requester true plain := by
  intro h made
  have same : made.transaction = s.transaction := makeSide_transaction
  have bound' : made.region i = some r := by
    rw [State.region, same]
    exact bound
  rw [← same]
  exact congrArg (State.respond · t.requester true plain) (consumeHeader_of_page bound' body ..)

/-- What a side start refused by a check does (R88; logs 31 and 38). -/
theorem noticeSide_refuses {s : State} {mask : PlaneMask} {reason : SideReason} {position length : Option Nat}
    (t : Transaction) (i : Nat) (r : Region) (j : JobRecord) (kind : SideKind) (offset : Nat)
    (failing : (if reason = .consumable then s.notGenuine mask else none) =
      position.map fun p => (p, (s.consumableAt p).state))
    (queue : (if reason = .sheetQueue then some s.charging.sheets.length else none) = length) :
    let u := (s.noticeSide (videoReadOf t i r) j kind mask offset reason).respond t.requester false []
    u.transaction = s.transaction.responding t.requester false [] ∧
      u.directive =
        s.directive.asked
          [noticeOf (.sideRefused reason)
            [u8 i, u8 r.slot, u16 j.number, u16 j.account, u8 kind.code, u8 mask.toNat, u32 offset,
             opt 1 position, opt 1 length, opt 1 (position.map fun p => (s.consumableAt p).state.code)]] ∧
      s.changesOnly u [.transaction, .directive] := by
  intro u
  refine ⟨rfl, ?notice, ?frame⟩
  case notice =>
    have places : (position.map fun p => (p, (s.consumableAt p).state)).map Prod.fst = position :=
      (Option.map_map ..).trans (Option.map_id' ..)
    have codes : (position.map fun p => (p, (s.consumableAt p).state)).map (fun f => f.2.code) =
        position.map fun p => (s.consumableAt p).state.code := Option.map_map ..
    simp only [u, State.noticeSide, failing, queue, places, codes]
    rfl
  case frame =>
    apply Touches.changesOnly
    simp [u]

/-- Settles O34, by the first check that fails. -/
theorem sideStartsWhereEveryCheckPasses : Obligations.SideStartsWhereEveryCheckPasses := by
  intro t s i r j cursor key plain kind plane meets alone closed judged
  obtain ⟨bound, _, body, _⟩ := region_of_readsPage meets.1
  obtain ⟨_, _, _, ⟨_, _, held⟩, _, grants⟩ := meets.1
  refine ⟨_, exec_startsSide meets alone closed judged, ?_⟩
  generalize answer : s.sideAnswer t i r j cursor plain kind plane _ = u
  intro h a costs reservation floor queued needed failed refuses
  rw [sideRefusal_eq grants (rfl : _ = reservation) (rfl : _ = needed)] at answer
  split
  · rename_i fails
    rw [if_pos fails] at answer
    subst answer
    exact noticeSide_refuses (reason := .limit) (position := none) t i r j kind cursor rfl rfl
  rename_i limit
  rw [if_neg limit] at answer
  split
  · rename_i fails
    rw [if_pos fails] at answer
    subst answer
    exact noticeSide_refuses (reason := .account) (position := none) t i r j kind cursor rfl rfl
  rename_i account
  rw [if_neg account] at answer
  split
  · rename_i fails
    rw [if_pos fails] at answer
    subst answer
    exact noticeSide_refuses (reason := .colourDenied) (position := none) t i r j kind cursor rfl rfl
  rename_i colour
  rw [if_neg colour] at answer
  split
  · rename_i fails
    rw [if_pos fails] at answer
    subst answer
    exact noticeSide_refuses (reason := .funds) (position := none) t i r j kind cursor rfl rfl
  rename_i funds
  rw [if_neg funds] at answer
  split
  · rename_i fails
    rw [if_pos fails] at answer
    subst answer
    exact noticeSide_refuses (reason := .consumable) (position := failed) t i r j kind cursor rfl rfl
  rename_i consumable
  rw [if_neg consumable] at answer
  split
  · rename_i fails
    rw [if_pos fails] at answer
    subst answer
    exact noticeSide_refuses (reason := .sheetQueue) (position := none) t i r j kind cursor rfl rfl
  rename_i queue
  rw [if_neg queue] at answer
  subst answer
  have room : kind = .back → queued ≠ [] := fun back empty => queue (.inr ⟨back, empty⟩)
  have name := sheetForSide_eq room
  rw [sideAnswer_of_passes bound body]
  intro side taken
  have taken' : s.sheetForSide r.slot kind = taken := name
  refine ⟨rfl, ?side, makeSide_account, ?sheets, makeSide_tariffs, makeSide_slots held, ?frame⟩
  case side =>
    rw [← taken']
    cases kind <;> rfl
  case sheets =>
    rw [← taken']
    exact makeSide_sheets
  case frame =>
    apply Touches.changesOnly
    simp

end Sys2Proof.Machine
end

section
/-! What the treatment of a VIDEO read rests on (R12, R65, R70), and the operations of the band parser that leave it:
the abandonment of a side closes another job's slot at most. -/

namespace Sys2Proof.Machine

/-! ### What a read of a region rests on -/

/-- What the treatment and the deciphering of reads of a region rest on: the role table, the mode, page memory, the key
and the job of a slot, and the region without its framing (R3, R12, R65, R70). -/
structure GrantView where
  roles  : Vector Role 16
  mode   : PartMode
  memory : List Host.Cell
  key    : Option KeyEntry
  job    : Option (JobKind × JobPhase)
  region : Option (Region × RegionKind)

/-- What reads of the region of an index rest on where it belongs to the job of a slot. -/
def State.grantView (s : State) (i slot : Nat) : GrantView :=
  { roles := s.transaction.roles
    mode := s.lockdown.mode
    memory := s.memory
    key := tget s.cipher.keys slot
    job := (s.jobAt slot).map fun j => (j.kind, j.phase)
    region := (s.region i).map fun r => (r.place, r.kind) }

/-- The region of an index belongs to the job of a slot, and that job is not CLOSING. -/
def State.serves (s : State) (i slot : Nat) : Prop :=
  ∃ r j, s.region i = some r ∧ r.slot = slot ∧ s.jobAt slot = some j ∧ j.phase.state ≠ .closing

section View

variable {s t : State} {i slot : Nat}

theorem grantView_of_touches {ps : List Part} (h : Touches ps s t) (hT : .transaction ∉ ps) (hC : .cipher ∉ ps)
    (hJ : .job ∉ ps) (hO : .lockdown ∉ ps) (hY : .memory ∉ ps) : t.grantView i slot = s.grantView i slot := by
  have transaction : t.transaction = s.transaction := h _ hT
  have cipher : t.cipher = s.cipher := h _ hC
  have job : t.job = s.job := h _ hJ
  have lockdown : t.lockdown = s.lockdown := h _ hO
  have memory : t.memory = s.memory := h _ hY
  simp only [State.grantView, State.region, State.jobAt, transaction, cipher, job, lockdown, memory]

theorem region_of_grantView {r : Region} (e : t.grantView i slot = s.grantView i slot) (bound : s.region i = some r) :
    ∃ q, t.region i = some q ∧ q.place = r.place ∧ q.kind = r.kind := by
  have region : (t.region i).map (fun r => (r.place, r.kind)) = some (r.place, r.kind) := by
    rw [← Option.map_some (f := fun r : Region => (r.place, r.kind)), ← bound]
    exact congrArg GrantView.region e
  obtain ⟨q, found, same⟩ := Option.map_eq_some_iff.mp region
  exact ⟨q, found, congrArg Prod.fst same, congrArg Prod.snd same⟩

theorem place_of_grantView {r q : Region} (e : t.grantView i slot = s.grantView i slot) (bound : s.region i = some r)
    (bound' : t.region i = some q) : q.place = r.place := by
  obtain ⟨q', again, place, _⟩ := region_of_grantView e bound
  rw [bound'] at again
  cases again
  exact place

theorem job_of_grantView {j : JobRecord} (e : t.grantView i slot = s.grantView i slot) (held : s.jobAt slot = some j) :
    ∃ k, t.jobAt slot = some k ∧ k.kind = j.kind ∧ k.phase = j.phase := by
  have job : (t.jobAt slot).map (fun j => (j.kind, j.phase)) = some (j.kind, j.phase) := by
    rw [← Option.map_some (f := fun j : JobRecord => (j.kind, j.phase)), ← held]
    exact congrArg GrantView.job e
  obtain ⟨k, found, same⟩ := Option.map_eq_some_iff.mp job
  exact ⟨k, found, congrArg Prod.fst same, congrArg Prod.snd same⟩

theorem holdsKey_of_grantView {key : JobKey} (e : t.grantView i slot = s.grantView i slot) (h : s.holdsKey slot key) :
    t.holdsKey slot key :=
  (congrArg GrantView.key e).trans h

theorem serves_of_grantView (e : t.grantView i slot = s.grantView i slot) (h : s.serves i slot) : t.serves i slot := by
  obtain ⟨r, j, bound, mine, held, phase⟩ := h
  obtain ⟨q, found, place, _⟩ := region_of_grantView e bound
  obtain ⟨k, named, _, same⟩ := job_of_grantView e held
  obtain ⟨_, _, sameSlot, _⟩ := place_eq_iff.mp place
  exact ⟨q, k, found, sameSlot.trans mine, named, same ▸ phase⟩

/-- A PAGE region stays one. -/
theorem framingOf_of_grantView (e : t.grantView i slot = s.grantView i slot) {x : Framing × Nat}
    (h : s.framingOf i = some x) : ∃ y, t.framingOf i = some y := by
  cases bound : s.region i with
  | none => simp [State.framingOf, bound] at h
  | some r =>
    obtain ⟨q, found, _, kind⟩ := region_of_grantView e bound
    cases body : r.body with
    | scan n => simp [State.framingOf, bound, body] at h
    | page f c =>
      cases body' : q.body with
      | scan n => simp [Region.kind, body, body'] at kind
      | page f' c' => exact ⟨_, framingOf_of_page found body'⟩

end View

/-! ### Framing -/

section Framing

variable {s : State} {i k : Nat} {f : Framing} {cursor : Nat}

theorem framingOf_eq_some_iff :
    s.framingOf i = some (f, cursor) ↔ ∃ r, s.region i = some r ∧ r.body = .page f cursor := by
  constructor
  · intro stands
    cases bound : s.region i with
    | none => simp [State.framingOf, bound] at stands
    | some r =>
      cases body : r.body with
      | scan n => simp [State.framingOf, bound, body] at stands
      | page f' c' =>
        rw [framingOf_of_page bound body] at stands
        cases stands
        exact ⟨r, rfl, body⟩
  · rintro ⟨r, bound, body⟩
    exact framingOf_of_page bound body

theorem setFraming_of_none (unframed : s.framingOf i = none) (f : Framing) (c : Nat) : s.setFraming i f c = s := by
  unfold State.setFraming
  rw [unframed]
  cases s.region i <;> rfl

theorem framingOf_setFraming {x : Framing × Nat} (framed : s.framingOf i = some x) (f : Framing) (c : Nat) :
    (s.setFraming i f c).framingOf i = some (f, c) := by
  obtain ⟨r, bound, body⟩ := framingOf_eq_some_iff.mp framed
  rw [setFraming_of_page bound body]
  exact framingOf_of_page (tget_tset_same _ _ (lt_of_region s bound)) rfl

theorem region_setFraming_other (other : i ≠ k) (f : Framing) (c : Nat) :
    (s.setFraming k f c).region i = s.region i := by
  cases stands : s.framingOf k with
  | none => rw [setFraming_of_none stands]
  | some x =>
    obtain ⟨r, bound, body⟩ := framingOf_eq_some_iff.mp stands
    rw [setFraming_of_page bound body]
    exact tget_tset_other _ _ other

/-- The framing of a region is no part of what its reads rest on. -/
@[simp] theorem grantView_setFraming (s : State) (i slot k : Nat) (f : Framing) (c : Nat) :
    (s.setFraming k f c).grantView i slot = s.grantView i slot := by
  cases stands : s.framingOf k with
  | none => rw [setFraming_of_none stands]
  | some x =>
    obtain ⟨r, bound, body⟩ := framingOf_eq_some_iff.mp stands
    have region : ((s.setFraming k f c).region i).map (fun r => (r.place, r.kind)) =
        (s.region i).map fun r => (r.place, r.kind) := by
      by_cases here : i = k
      · subst here
        have framed : (s.setFraming i f c).region i = some { r with body := .page f c } := by
          rw [setFraming_of_page bound body]
          exact tget_tset_same _ _ (lt_of_region s bound)
        rw [framed, bound]
        simp [Region.place, Region.kind, body]
      · rw [region_setFraming_other here]
    rw [State.grantView, region, setFraming_of_page bound body]
    rfl

@[simp] theorem grantView_frameAbandoned (s : State) (i slot k : Nat) (cause : AbandonCause) :
    (s.frameAbandoned k cause).grantView i slot = s.grantView i slot := by
  have broken : (s.breakRegion k).grantView i slot = s.grantView i slot := by
    unfold State.breakRegion
    split <;> simp
  cases cause <;> simp [State.frameAbandoned, broken]

theorem region_frameAbandoned {cause : AbandonCause} (apart : k ≠ i ∨ cause = .newSideSameRegion) :
    (s.frameAbandoned k cause).region i = s.region i := by
  have broken (other : i ≠ k) : (s.breakRegion k).region i = s.region i := by
    unfold State.breakRegion
    split
    · exact region_setFraming_other other ..
    · rfl
  rcases apart with other | rfl
  · cases cause
    case restart => exact region_setFraming_other other.symm ..
    case newSideSameRegion | closeTimeout | lockdown => rfl
    all_goals exact broken other.symm
  · rfl

end Framing

/-! ### Jobs and the abandonment of a side -/

section Abandoned

variable {s : State} {i slot : Nat}

@[simp] theorem grantView_updateJob (s : State) (i slot k : Nat) (f : JobRecord → JobRecord)
    (kept : ∀ j, (f j).kind = j.kind ∧ (f j).phase = j.phase) :
    (s.updateJob k f).grantView i slot = s.grantView i slot := by
  have job : ((s.updateJob k f).jobAt slot).map (fun j => (j.kind, j.phase)) =
      (s.jobAt slot).map fun j => (j.kind, j.phase) := by
    by_cases here : slot = k
    · subst here
      cases held : s.jobAt slot with
      | none => rw [State.updateJob, held, Option.map_none, State.setJob, State.jobAt, setJobs_job, tset_of_tget held]
                exact congrArg (Option.map _) held
      | some j => rw [jobAt_updateJob_same f held, Option.map_some, Option.map_some, (kept j).1, (kept j).2]
    · rw [jobAt_updateJob_other s f here]
  rw [State.grantView, job]
  rfl

/-- A close that completes by the drain test is another job's, and leaves the regions of this one (R10, R55). -/
theorem drainTest_keeps (h : s.serves i slot) (k : Nat) :
    (s.drainTest k).grantView i slot = s.grantView i slot ∧ (s.drainTest k).region i = s.region i := by
  obtain ⟨r, j, bound, mine, held, phase⟩ := h
  unfold State.drainTest
  split
  · rename_i closed named
    split
    · rename_i drained
      have other : slot ≠ k := by
        rintro rfl
        rw [held] at named
        cases named
        exact phase drained.1
      cases closing : closed.phase with
      | closing c =>
        have kept : Touches [.transaction, .cipher, .directive, .job] s (s.completeClose k .drained 0 0) := by simp
        obtain ⟨_, jobs, _, _, keys, regions, table⟩ := completeClose_freesSlot named closing .drained 0 0
        have region : (s.completeClose k .drained 0 0).region i = some r :=
          (regions i r).mpr ⟨bound, mine ▸ other⟩
        have lockdown : (s.completeClose k .drained 0 0).lockdown = s.lockdown := kept .lockdown (by simp)
        have memory : (s.completeClose k .drained 0 0).memory = s.memory := kept .memory (by simp)
        have roles : (s.completeClose k .drained 0 0).transaction.roles = s.transaction.roles :=
          (congrArg TransactionUnit.roles table).trans rfl
        refine ⟨?_, by rw [region, bound]⟩
        simp only [State.grantView, jobs slot other, keys slot other, region, bound, lockdown, memory, roles]
      | active | held | released =>
        rw [closing] at drained
        cases drained.1
    · exact ⟨rfl, rfl⟩
  · exact ⟨rfl, rfl⟩

theorem abandonSide_keeps (s : State) (i slot : Nat) (o : OpenSide) (cause : AbandonCause) :
    (s.abandonSide o cause).grantView i slot = s.grantView i slot ∧
      (o.region ≠ i ∨ cause = .newSideSameRegion → (s.abandonSide o cause).region i = s.region i) := by
  have before : Touches [.directive, .consumable, .link, .account, .charging] s
      (((s.handBand (s.currentPlane o.region) o.bandDots).releaseSide o).abandonSheet o.sheet o.kind) := by simp
  have notice (b : State) (vs : List Val) : Touches [.directive] b (b.askNotice .sideAbandoned vs) := by simp
  have side (b : State) : Touches [.parser] b (b.setOpenSide none) := by simp
  constructor
  · rw [State.abandonSide, grantView_of_touches (notice _ _) (by simp) (by simp) (by simp) (by simp) (by simp),
      grantView_frameAbandoned, grantView_of_touches (side _) (by simp) (by simp) (by simp) (by simp) (by simp),
      grantView_updateJob, grantView_of_touches before (by simp) (by simp) (by simp) (by simp) (by simp)]
    exact fun _ => ⟨rfl, rfl⟩
  · intro apart
    refine (region_frameAbandoned apart).trans ?_
    exact congrArg (fun u : TransactionUnit => tget u.regions i) (before .transaction (by simp))

/-- An abandonment leaves what reads of a job's region rest on, where the job is not CLOSING; the region's framing
changes only where R93 says (R92). -/
theorem abandon_keeps (h : s.serves i slot) (cause : AbandonCause) :
    (s.abandon cause).grantView i slot = s.grantView i slot ∧
      ((∀ o, s.parser.openSide = some o → o.region ≠ i ∨ cause = .newSideSameRegion) →
        (s.abandon cause).region i = s.region i) := by
  cases side : s.parser.openSide with
  | none => simp [abandon_of_closed cause side]
  | some o =>
    obtain ⟨view, region⟩ := abandonSide_keeps s i slot o cause
    rw [abandon_of_open side]
    split
    · obtain ⟨view', region'⟩ := drainTest_keeps (serves_of_grantView view h) o.slot
      exact ⟨view'.trans view, fun apart => region'.trans (region (apart o rfl))⟩
    · exact ⟨view, fun apart => region (apart o rfl)⟩

/-- What the restart of a region leaves (R80). -/
theorem grantView_restarted (h : s.serves i slot) (k : Nat) :
    (s.restarted k).grantView i slot = s.grantView i slot := by
  rw [State.restarted, grantView_setFraming]
  split
  · exact (abandon_keeps h .restart).1
  · rfl

theorem restarted_openSideIn (s : State) (i : Nat) : (s.restarted i).openSideIn i = none := by
  have parser (b : State) : (b.setFraming i .atHeader 0).parser = b.parser :=
    (show Touches [.transaction] b (b.setFraming i .atHeader 0) by simp) .parser (by simp)
  rw [State.restarted, State.openSideIn, parser, ← State.openSideIn]
  split
  · rw [State.openSideIn, abandon_openSide]
  · rename_i closed
    simpa using closed

/-- A region restarted stands at its first header (R80). -/
theorem restarted_framingOf {x : Framing × Nat} (h : s.serves i slot) (framed : s.framingOf i = some x) :
    (s.restarted i).framingOf i = some (.atHeader, 0) := by
  rw [State.restarted]
  split
  · obtain ⟨y, stands⟩ := framingOf_of_grantView (abandon_keeps h .restart).1 framed
    exact framingOf_setFraming stands ..
  · exact framingOf_setFraming framed ..

/-- A region just restarted is restarted in vain. -/
theorem restarted_restarted {x : Framing × Nat} (h : s.serves i slot) (framed : s.framingOf i = some x) :
    (s.restarted i).restarted i = s.restarted i := by
  obtain ⟨r, bound, body⟩ := framingOf_eq_some_iff.mp (restarted_framingOf h framed)
  conv_lhs => rw [State.restarted]
  rw [restarted_openSideIn]
  exact setFraming_self bound body

end Abandoned

end Sys2Proof.Machine
end

section
/-! Reads that restart a region and headers that start a side act after the abandonment they make (R80, R86). -/

namespace Sys2Proof.Machine

/-! ### A read after an operation that leaves what it rests on -/

/-- A CLOSING job's regions are read deciphered by no role (R70). -/
theorem not_closing_of_readsDeciphered {job : JobKind} {state : JobState} {kind : RegionKind} {role : Role}
    (h : readsDeciphered job state kind role = true) : state ≠ .closing := by
  rintro rfl
  rw [readsDeciphered_iff] at h
  simp [decipheredTable] at h

section Kept

variable {t : Transaction} {s u : State} {i : Nat} {r : Region} {j : JobRecord} {f : Framing} {cursor : Nat}

theorem serves_of_readsPage (reads : s.readsPage t i r j f cursor) : s.serves i r.slot := by
  obtain ⟨_, _, _, ⟨_, region, held⟩, _, grants⟩ := reads
  exact ⟨r, j, (regionOf_eq_some_iff.mp region).1, rfl, held, not_closing_of_readsDeciphered grants⟩

theorem holds_of_place {q : Region} (place : q.place = r.place) (a : Nat) : q.holds a = r.holds a := by
  obtain ⟨base, length, _⟩ := place_eq_iff.mp place
  rw [Region.holds, Region.holds, base, length]

/-- A read lies in its region as long as that region stands at its place and no other takes one (R12). -/
theorem regionOf_of_shrinks {q : Region} (shrinks : Shrinks s u) (region : s.regionOf t.address = some (i, r))
    (bound : u.region i = some q) (place : q.place = r.place) : u.regionOf t.address = some (i, q) := by
  obtain ⟨_, held, first⟩ := regionOf_eq_some_iff.mp region
  refine regionOf_eq_some_iff.mpr ⟨bound, (holds_of_place place _).trans held, fun k lower p found => ?_⟩
  obtain ⟨p', found', place'⟩ := shrinks.region found
  rw [← holds_of_place place']
  exact first k lower p' found'

/-- A VIDEO read of a region is granted as another was before an operation that leaves what both rest on. -/
theorem readsPage_of_grantView {t' : Transaction} {q : Region} {f' : Framing} {cursor' : Nat}
    (reads : s.readsPage t i r j f cursor) (view : u.grantView i r.slot = s.grantView i r.slot) (port : passesPort t')
    (read : t'.direction = .read) (requester : t'.requester = t.requester)
    (region : u.regionOf t'.address = some (i, q)) (body : q.body = .page f' cursor') :
    ∃ k, u.readsPage t' i q k f' cursor' := by
  obtain ⟨_, _, role, ⟨normal, region', held⟩, _, grants⟩ := reads
  obtain ⟨q', bound, place, _⟩ := region_of_grantView view (regionOf_eq_some_iff.mp region').1
  have same : q = q' := by
    rw [(regionOf_eq_some_iff.mp region).1] at bound
    exact Option.some.inj bound
  subst same
  obtain ⟨k, named, kind, phase⟩ := job_of_grantView view held
  obtain ⟨_, _, slot, _⟩ := place_eq_iff.mp place
  have roles : u.transaction.roles = s.transaction.roles := congrArg GrantView.roles view
  refine ⟨k, port, read, ?_, ⟨(congrArg GrantView.mode view).trans normal, region, slot ▸ named⟩, body, ?_⟩
  · rw [State.roleOf, roles, requester]
    exact role
  · rw [kind, phase]
    exact grants

/-- A parse reads nothing of its region but its place. -/
theorem parseVideo_of_place {q : Region} (place : q.place = r.place) : s.parseVideo t i q = s.parseVideo t i r := by
  obtain ⟨base, length, slot, segment⟩ := place_eq_iff.mp place
  cases q
  cases r
  cases base
  cases length
  cases slot
  cases segment
  rfl

end Kept

/-! ### Restart (R80) -/

/-- A read at offset 0 acts on its region as the restart leaves it. -/
theorem exec_restarted {t : Transaction} {s : State} {i : Nat} {r : Region} {j : JobRecord} {f : Framing} {cursor : Nat}
    (reads : s.readsPage t i r j f cursor) (start : t.address = r.base) :
    exec (.subordinateTransaction t) s = exec (.subordinateTransaction t) (s.restarted i) := by
  obtain ⟨bound, _, body, _⟩ := region_of_readsPage reads
  have serves := serves_of_readsPage reads
  have stands := framingOf_of_page bound body
  have view := grantView_restarted serves i
  obtain ⟨q, bound', body'⟩ := framingOf_eq_some_iff.mp (restarted_framingOf serves stands)
  have place := place_of_grantView view bound bound'
  have base : q.base = r.base := (place_eq_iff.mp place).1
  have restarts : s.restartFraming (videoReadOf t i r) = s.restarted i := by
    rw [restartFraming_eq s t start.ge, if_pos start]
  have restartsAgain : (s.restarted i).restartFraming (videoReadOf t i r) = s.restarted i := by
    rw [restartFraming_eq _ t start.ge, if_pos start, restarted_restarted serves stands]
  have shrinks : Shrinks s (s.restarted i) := restarts ▸ shrinks_restartFraming _ (shrinks_refl s)
  obtain ⟨k, reads'⟩ := readsPage_of_grantView reads view reads.1 reads.2.1 rfl
    (regionOf_of_shrinks shrinks reads.2.2.2.1.2.1 bound' place) body'
  have placed (f : Framing) (c : Nat) (p : Region) (same : p.base = r.base) :
      placementRefusal f c (t.address - p.base) t.beats = none :=
    placementRefusal_of_lets (.inl (by omega))
  rw [exec_readsPage reads, exec_readsPage reads', videoRead_eq_parseVideo (placed _ _ _ rfl),
    videoRead_eq_parseVideo (placed _ _ _ base), parseVideo_of_place place]
  simp only [State.parseVideo, restarts, restartsAgain]

/-! ### Side starts (R86) -/

theorem sideStart_of_starts {h : BandHeader} {length offset : Nat} {open? : Option OpenSide} {kind : SideKind}
    {plane : Plane} (judged : judgeHeader h length offset open? = .starts kind plane) : h.sideStart = true := by
  by_contra later
  simp only [judgeHeader, if_neg later, judgeLater] at judged
  (repeat' split at judged) <;> cases judged

/-- The open side is no part of the tests of a header that starts a side (R82). -/
theorem judgeHeader_starts {h : BandHeader} {length offset : Nat} {open? : Option OpenSide} {kind : SideKind}
    {plane : Plane} (judged : judgeHeader h length offset open? = .starts kind plane) (open?' : Option OpenSide) :
    judgeHeader h length offset open?' = .starts kind plane := by
  have start := sideStart_of_starts judged
  simp only [judgeHeader, start, if_true] at judged ⊢
  exact judged

/-- The start of a side begins with the abandonment of the open one (R86). -/
theorem startSide_afterAbandon (s : State) (v : VideoRead) (offset : Nat) (h : BandHeader) (kind : SideKind)
    (plane : Plane) :
    s.startSide v offset h kind plane = (s.abandonForStart v.index).startSide v offset h kind plane := by
  have again : (s.abandonForStart v.index).abandonForStart v.index = s.abandonForStart v.index :=
    abandon_of_closed _ (abandon_openSide s _)
  rw [State.startSide, State.startSide, again]

/-- Two states that stand at a header and take it alike parse the same data alike. -/
theorem parseRead_of_takeHeader {s u : State} {v : VideoRead} {data : List Byte} {c c' : Nat}
    (stands : s.framingOf v.index = some (.atHeader, c)) (stands' : u.framingOf v.index = some (.atHeader, c'))
    (whole : 32 ≤ data.length)
    (same : s.takeHeader v v.offset (data.take 32) = u.takeHeader v v.offset (data.take 32)) :
    s.parseRead v data = u.parseRead v data := by
  obtain ⟨turns, enough⟩ : ∃ turns, 2 * data.length = turns + 1 := ⟨2 * data.length - 1, by omega⟩
  rw [State.parseRead, State.parseRead, enough, parseFrom_header stands whole, parseFrom_header stands' whole, same]

section Start

variable {t : Transaction} {s : State} {i : Nat} {r : Region} {j : JobRecord} {cursor : Nat} {key : JobKey}
  {plain : List Byte}

/-- After the abandonment that a side start makes, the read meets the same header (R86, R93). -/
theorem meetsHeader_abandonForStart (meets : s.meetsHeader t i r j cursor key plain) :
    ∃ k, (s.abandonForStart i).meetsHeader t i r k cursor key plain := by
  obtain ⟨reads, place, beats, holds, plainIs⟩ := meets
  obtain ⟨bound, _, body, _⟩ := region_of_readsPage reads
  obtain ⟨view, region⟩ := abandon_keeps (serves_of_readsPage reads)
    (if (s.openSideIn i).isSome then .newSideSameRegion else .newSideOtherRegion)
  have apart : ∀ o, s.parser.openSide = some o → o.region ≠ i ∨
      (if (s.openSideIn i).isSome then AbandonCause.newSideSameRegion else .newSideOtherRegion) =
        .newSideSameRegion := by
    intro o side
    by_cases mine : o.region = i
    · right
      rw [openSideIn_of_open side mine]
      rfl
    · exact .inl mine
  obtain ⟨k, reads'⟩ := readsPage_of_grantView reads view reads.1 reads.2.1 rfl
    (regionOf_of_shrinks (shrinks_abandon _ (shrinks_refl s)) reads.2.2.2.1.2.1 ((region apart).trans bound) rfl) body
  have memory : (s.abandonForStart i).memory = s.memory := congrArg GrantView.memory view
  refine ⟨k, reads', place, beats, holdsKey_of_grantView view holds, ?_⟩
  rw [State.stored, memory]
  exact plainIs

/-- A header that starts a side acts after the open side has been abandoned (R86). -/
theorem exec_startsSide_afterAbandon {kind : SideKind} {plane : Plane} (meets : s.meetsHeader t i r j cursor key plain)
    (closed : cursor = 0 → s.openSideIn i = none)
    (judged : judgeHeader (.ofBytes (plain.take 32)) r.length cursor (s.openSideIn i) = .starts kind plane) :
    exec (.subordinateTransaction t) s = exec (.subordinateTransaction t) (s.abandonForStart i) := by
  obtain ⟨k, meets'⟩ := meetsHeader_abandonForStart meets
  have closed' : (s.abandonForStart i).openSideIn i = none := by
    rw [State.openSideIn, State.abandonForStart, abandon_openSide]
  have place : (videoReadOf t i r).offset = cursor := meets.2.1
  have taken : s.takeHeader (videoReadOf t i r) cursor (plain.take 32) =
      (s.abandonForStart i).takeHeader (videoReadOf t i r) cursor (plain.take 32) := by
    rw [takeHeader_of_starts (v := videoReadOf t i r) judged,
      takeHeader_of_starts (v := videoReadOf t i r) (judgeHeader_starts judged _)]
    exact startSide_afterAbandon ..
  rw [← place] at taken
  rw [exec_meetsHeader meets closed, exec_meetsHeader meets' fun _ => closed',
    parseRead_of_takeHeader (framingOf_of_meetsHeader meets) (framingOf_of_meetsHeader meets')
      (length_of_meetsHeader meets).2 taken]

end Start

/-- Settles O33. -/
theorem restartAndSideStartAbandonTheOpenSide : Obligations.RestartAndSideStartAbandonTheOpenSide := by
  constructor
  · intro t s i r j f cursor reads start
    exact exec_restarted reads start
  · intro t s i r j cursor key plain kind plane o meets side apart judged
    have closed : cursor = 0 → s.openSideIn i = none := fun start => by
      rw [State.openSideIn, side]
      exact if_neg (apart start)
    have cause : (if o.region = i then AbandonCause.newSideSameRegion else .newSideOtherRegion) =
        if (s.openSideIn i).isSome then .newSideSameRegion else .newSideOtherRegion := by
      by_cases mine : o.region = i <;> simp [State.openSideIn, side, mine]
    rw [exec_startsSide_afterAbandon meets closed judged, cause]
    rfl

end Sys2Proof.Machine
end

section
/-! A read parsed in two parts: the band parser comes to the rest of the data as a read of its own would, and keeps what
reads of the region rest on (R81). -/

namespace Sys2Proof.Machine

/-! ### What a parse keeps -/

section Keeps

variable {s : State} {i slot : Nat}

theorem grantView_consumeHeader (s : State) (i slot k offset : Nat) (h : BandHeader) (plane : Plane) :
    (s.consumeHeader k offset h plane).grantView i slot = s.grantView i slot := by
  rw [State.consumeHeader, grantView_setFraming]
  rfl

theorem grantView_makeSide (s : State) (i slot : Nat) (v : VideoRead) (j : JobRecord) (kind : SideKind)
    (mask : PlaneMask) : (s.makeSide v j kind mask).grantView i slot = s.grantView i slot := by
  have placed : Touches [.account, .charging] s
      ((s.reserve j.account (s.newSide j kind mask).reservation).placeSide v.slot j.account kind
        (s.newSide j kind mask)) := by simp
  have opened (b : State) (o : Option OpenSide) : (b.setOpenSide o).grantView i slot = b.grantView i slot := rfl
  simp only [State.makeSide]
  rw [grantView_updateJob, opened,
    grantView_of_touches placed (by simp) (by simp) (by simp) (by simp) (by simp)]
  exact fun _ => ⟨rfl, rfl⟩

theorem grantView_startSide (h : s.serves i slot) (v : VideoRead) (offset : Nat) (b : BandHeader) (kind : SideKind)
    (plane : Plane) : (s.startSide v offset b kind plane).1.grantView i slot = s.grantView i slot := by
  have cleared : (s.abandonForStart v.index).grantView i slot = s.grantView i slot := (abandon_keeps h _).1
  simp only [State.startSide]
  split
  · exact cleared
  · split
    · exact cleared
    · exact (grantView_consumeHeader ..).trans ((grantView_makeSide ..).trans cleared)

theorem grantView_framingError (h : s.serves i slot) (v : VideoRead) (offset : Nat) (reason : FramingReason) :
    (s.framingError v offset reason).grantView i slot = s.grantView i slot := by
  have abandoned : (if (s.openSideIn v.index).isSome then s.abandon .framing else s).grantView i slot =
      s.grantView i slot := by
    split
    · exact (abandon_keeps h .framing).1
    · rfl
  exact (grantView_setFraming ..).trans abandoned

theorem grantView_takeHeader (h : s.serves i slot) (v : VideoRead) (offset : Nat) (bytes : List Byte) :
    (s.takeHeader v offset bytes).1.grantView i slot = s.grantView i slot := by
  simp only [State.takeHeader]
  split
  · exact grantView_framingError h ..
  · exact grantView_consumeHeader ..
  · exact grantView_startSide h ..

theorem grantView_countPayload (s : State) (i slot k : Nat) (plane : Plane) (bytes : List Byte) :
    (s.countPayload k plane bytes).grantView i slot = s.grantView i slot := by
  unfold State.countPayload
  split <;> rfl

theorem grantView_endBand (s : State) (i slot k : Nat) (plane : Plane) (c : Nat) :
    (s.endBand k plane c).grantView i slot = s.grantView i slot := by
  have handed (b : State) (n : Nat) (o : Option OpenSide) :
      (((b.handBand (some plane) n).setOpenSide o).setFraming k .atHeader c).grantView i slot = b.grantView i slot :=
    (grantView_setFraming ..).trans
      (grantView_of_touches (ps := [.directive, .consumable, .link, .parser]) (by simp) (by simp) (by simp) (by simp)
        (by simp) (by simp))
  have completed (b : State) (o : OpenSide) : (b.completeSide o).grantView i slot = b.grantView i slot :=
    grantView_of_touches (ps := [.charging, .directive, .consumable, .link, .parser]) (by simp) (by simp) (by simp)
      (by simp) (by simp) (by simp)
  simp only [State.endBand]
  split
  · split
    · exact (completed ..).trans (handed ..)
    · exact handed ..
  · exact grantView_setFraming ..

/-- A parse leaves what reads of its region rest on, turn by turn. -/
theorem grantView_parseFrom (h : s.serves i slot) (v : VideoRead) (n offset : Nat) (data : List Byte) :
    (State.parseFrom v n s offset data).1.grantView i slot = s.grantView i slot := by
  induction n generalizing s offset data with
  | zero => rfl
  | succ n ih =>
    cases data with
    | nil => rfl
    | cons b bs =>
      simp only [State.parseFrom]
      split
      · split
        · have turn (plane : Plane) (taken : List Byte) (c : Nat) :
              ((s.countPayload v.index plane taken).endBand v.index plane c).grantView i slot = s.grantView i slot :=
            (grantView_endBand ..).trans (grantView_countPayload ..)
          exact (ih (serves_of_grantView (turn _ _ _) h) ..).trans (turn _ _ _)
        · exact (grantView_setFraming ..).trans (grantView_countPayload ..)
      · split
        · rfl
        · have turn := grantView_takeHeader h v offset ((b :: bs).take 32)
          split
          · rename_i taken
            rw [taken] at turn
            exact (ih (serves_of_grantView turn h) ..).trans turn
          · rename_i refused
            rw [refused] at turn
            exact turn
      · rfl
      · rfl

end Keeps

/-! ### Where the parser stands -/

section Stands

variable {s : State} {v : VideoRead} {x : Framing × Nat}

theorem framingOf_of_touches {ps : List Part} {t : State} (h : Touches ps s t) (hT : .transaction ∉ ps) (i : Nat) :
    t.framingOf i = s.framingOf i := by
  have transaction : t.transaction = s.transaction := h _ hT
  simp only [State.framingOf, State.region, transaction]

/-- After the end of a band the region stands at a header (R90). -/
theorem framingOf_endBand {i : Nat} (stands : s.framingOf i = some x) (plane : Plane) (c : Nat) :
    (s.endBand i plane c).framingOf i = some (.atHeader, c) := by
  have handed (n : Nat) (o : Option OpenSide) :
      (((s.handBand (some plane) n).setOpenSide o).setFraming i .atHeader c).framingOf i = some (.atHeader, c) :=
    framingOf_setFraming
      ((framingOf_of_touches (ps := [.directive, .consumable, .link, .parser]) (by simp) (by simp) i).trans stands) ..
  have completed (b : State) (o : OpenSide) : (b.completeSide o).framingOf i = b.framingOf i :=
    framingOf_of_touches (ps := [.charging, .directive, .consumable, .link, .parser]) (by simp) (by simp) i
  simp only [State.endBand]
  split
  · split
    · exact (completed ..).trans (handed ..)
    · exact handed ..
  · exact framingOf_setFraming stands ..

theorem framingOf_consumeHeader {i : Nat} (stands : s.framingOf i = some x) (offset : Nat) (h : BandHeader)
    (plane : Plane) :
    (s.consumeHeader i offset h plane).framingOf i = some (.inPayload (32 * h.units) plane, offset + 32) :=
  framingOf_setFraming (s := s.setOpenSide (s.parser.openSide.map (OpenSide.takeHeader h.sideEnd))) stands ..

/-- A side that starts is made after the abandonment (R86, R89). -/
theorem startSide_of_started {offset : Nat} {h : BandHeader} {kind : SideKind} {plane : Plane}
    (passes : (s.startSide v offset h kind plane).2 = true) :
    ∃ j, s.startSide v offset h kind plane =
      (((s.abandonForStart v.index).makeSide v j kind h.mask).consumeHeader v.index offset h plane, true) := by
  simp only [State.startSide] at passes ⊢
  split at passes
  · cases passes
  · split at passes
    · cases passes
    · exact ⟨_, rfl⟩

/-- After a header that passes every test the region stands in its payload (R81). -/
theorem framingOf_takeHeader {slot offset : Nat} {bytes : List Byte} (h : s.serves v.index slot)
    (stands : s.framingOf v.index = some x) (passes : (s.takeHeader v offset bytes).2 = true) :
    ∃ f, (s.takeHeader v offset bytes).1.framingOf v.index = some (f, offset + 32) := by
  cases judged : judgeHeader (.ofBytes bytes) v.length offset (s.openSideIn v.index) with
  | error reason =>
    rw [takeHeader_of_error judged] at passes
    cases passes
  | continues plane =>
    simp only [State.takeHeader, judged]
    exact ⟨_, framingOf_consumeHeader stands ..⟩
  | starts kind plane =>
    rw [takeHeader_of_starts judged] at passes ⊢
    obtain ⟨j, started⟩ := startSide_of_started passes
    have made := (grantView_makeSide (s.abandonForStart v.index) v.index slot v j kind
      (BandHeader.ofBytes bytes).mask).trans (abandon_keeps h _).1
    obtain ⟨y, framed⟩ := framingOf_of_grantView made stands
    rw [started]
    exact ⟨_, framingOf_consumeHeader framed ..⟩

end Stands

/-! ### The same region read by another transaction -/

/-- Two reads of one region: the parser takes their bytes alike, and tells them apart in FRAMING notices alone. -/
def VideoRead.sameRegion (v u : VideoRead) : Prop := u.index = v.index ∧ u.slot = v.slot ∧ u.length = v.length

section SameRegion

variable {s w : State} {v u : VideoRead} {offset : Nat} {bytes : List Byte}

/-- A side starts, or is refused, alike in two reads of one region (R87 to R89). -/
theorem startSide_sameRegion (same : v.sameRegion u) (s : State) (offset : Nat) (h : BandHeader) (kind : SideKind)
    (plane : Plane) : s.startSide u offset h kind plane = s.startSide v offset h kind plane := by
  obtain ⟨index, slot, _⟩ := same
  simp only [State.startSide, State.noticeSide, State.makeSide, index, slot]

/-- A header that does not fail its tests is taken alike in two reads of one region. -/
theorem takeHeader_sameRegion (same : v.sameRegion u)
    (judged : ∀ reason, judgeHeader (.ofBytes bytes) v.length offset (s.openSideIn v.index) ≠ .error reason) :
    s.takeHeader u offset bytes = s.takeHeader v offset bytes := by
  obtain ⟨index, _, length⟩ := id same
  simp only [State.takeHeader, index, length]
  split
  · exact absurd ‹_› (judged _)
  · rfl
  · exact startSide_sameRegion same ..

theorem not_error_of_passes (passes : (s.takeHeader v offset bytes).2 = true) (reason : FramingReason) :
    judgeHeader (.ofBytes bytes) v.length offset (s.openSideIn v.index) ≠ .error reason := by
  intro judged
  rw [takeHeader_of_error judged] at passes
  cases passes

/-- A parse that passes and ends at a header goes on there with whatever data follows (R81). -/
theorem parseFrom_append {slot : Nat} (same : v.sameRegion u) (more : List Byte) (k : Nat) {n : Nat} {data : List Byte}
    {f : Framing} (h : s.serves v.index slot) (stands : s.framingOf v.index = some (f, offset))
    (passes : State.parseFrom v n s offset data = (w, true))
    (ends : w.framingOf v.index = some (.atHeader, offset + data.length)) :
    ∃ m, State.parseFrom u (n + k) s offset (data ++ more) =
      State.parseFrom u (m + k) w (offset + data.length) more := by
  have index : u.index = v.index := same.1
  induction n generalizing s offset data f with
  | zero =>
    cases passes
    rw [stands] at ends
    have empty : data = [] := List.length_eq_zero_iff.mp (by injection ends with pair; injection pair; omega)
    exact ⟨0, by simp [empty]⟩
  | succ n ih =>
    by_cases empty : data = []
    · subst empty
      rw [parseFrom_nil] at passes
      cases passes
      exact ⟨n + 1, rfl⟩
    have longer : data ++ more ≠ [] := by simp [empty]
    have stands' : s.framingOf u.index = some (f, offset) := index ▸ stands
    rw [Nat.add_right_comm]
    cases f with
    | broken =>
      cases data with
      | nil => exact absurd rfl empty
      | cons b bs => simp [State.parseFrom, stands] at passes
    | inPayload remaining plane =>
      rw [parseFrom_payload empty stands] at passes
      by_cases reaches : remaining ≤ data.length
      · rw [if_pos reaches] at passes
        have turn : ((s.countPayload v.index plane (data.take remaining)).endBand v.index plane
            (offset + remaining)).grantView v.index slot = s.grantView v.index slot :=
          (grantView_endBand ..).trans (grantView_countPayload ..)
        have counted : (s.countPayload v.index plane (data.take remaining)).framingOf v.index = _ :=
          (framingOf_of_touches (ps := [.parser]) (by simp) (by simp) v.index).trans stands
        have rest : offset + remaining + (data.drop remaining).length = offset + data.length := by
          rw [List.length_drop]
          omega
        obtain ⟨m, goesOn⟩ := ih (serves_of_grantView turn h) (framingOf_endBand counted ..) passes (rest ▸ ends)
        refine ⟨m, ?_⟩
        rw [parseFrom_payload longer stands', if_pos (by rw [List.length_append]; omega),
          List.take_append_of_le_length reaches, List.drop_append_of_le_length reaches, index, goesOn, rest]
      · rw [if_neg reaches] at passes
        have counted : (s.countPayload v.index plane (data.take remaining)).framingOf v.index = _ :=
          (framingOf_of_touches (ps := [.parser]) (by simp) (by simp) v.index).trans stands
        cases passes
        rw [framingOf_setFraming counted] at ends
        cases ends
    | atHeader =>
      by_cases whole : 32 ≤ data.length
      · rw [parseFrom_header stands whole] at passes
        by_cases taken : (s.takeHeader v offset (data.take 32)).2 = true
        · rw [if_pos taken] at passes
          obtain ⟨f', stands'⟩ := framingOf_takeHeader h stands taken
          have rest : offset + 32 + (data.drop 32).length = offset + data.length := by
            rw [List.length_drop]
            omega
          obtain ⟨m, goesOn⟩ := ih (serves_of_grantView (grantView_takeHeader h ..) h) stands' passes (rest ▸ ends)
          refine ⟨m, ?_⟩
          rw [parseFrom_header (index ▸ stands) (by rw [List.length_append]; omega),
            List.take_append_of_le_length whole, List.drop_append_of_le_length whole,
            takeHeader_sameRegion same (not_error_of_passes taken), if_pos taken, goesOn, rest]
        · rw [if_neg taken] at passes
          cases passes
      · rw [parseFrom_split empty stands (by omega)] at passes
        cases passes

/-- A parse of payload that passes and ends at a header ends its band with its last byte, or has room for a header
after the band's end (R79, R84). -/
theorem parseRead_reaches {remaining cursor c : Nat} {plane : Plane} {data : List Byte} (empty : data ≠ [])
    (stands : s.framingOf v.index = some (.inPayload remaining plane, cursor))
    (passes : s.parseRead v data = (w, true)) (ends : w.framingOf v.index = some (.atHeader, c)) :
    remaining = data.length ∨ remaining + 32 ≤ data.length := by
  have counted : (s.countPayload v.index plane (data.take remaining)).framingOf v.index = _ :=
    (framingOf_of_touches (ps := [.parser]) (by simp) (by simp) v.index).trans stands
  obtain ⟨turns, enough⟩ : ∃ turns, 2 * data.length = turns + 1 + 1 := by
    have := List.length_pos_iff.mpr empty
    exact ⟨2 * data.length - 2, by omega⟩
  rw [State.parseRead, enough, parseFrom_payload empty stands] at passes
  by_cases reaches : remaining ≤ data.length
  · rw [if_pos reaches] at passes
    by_contra neither
    have left : (data.drop remaining).length = data.length - remaining := List.length_drop
    rw [parseFrom_split (List.ne_nil_of_length_pos (by omega)) (framingOf_endBand counted ..) (by omega)] at passes
    cases passes
  · rw [if_neg reaches] at passes
    cases passes
    rw [framingOf_setFraming counted] at ends
    cases ends

end SameRegion

end Sys2Proof.Machine
end

section
/-! The response of the subordinate port is no part of what the band parser reads: it takes a header beside any. -/

namespace Sys2Proof.Machine

theorem beside_of_touches {s a : State} (h : Touches [.directive, .consumable, .link] s a) : a.beside s = a := by
  have transaction : a.transaction = s.transaction := h .transaction (by simp)
  have cipher : a.cipher = s.cipher := h .cipher (by simp)
  have job : a.job = s.job := h .job (by simp)
  have parser : a.parser = s.parser := h .parser (by simp)
  have charging : a.charging = s.charging := h .charging (by simp)
  have account : a.account = s.account := h .account (by simp)
  have meter : a.meter = s.meter := h .meter (by simp)
  have lockdown : a.lockdown = s.lockdown := h .lockdown (by simp)
  have memory : a.memory = s.memory := h .memory (by simp)
  have pending : a.pending = s.pending := h .pending (by simp)
  simp only [State.beside, ← transaction, ← cipher, ← job, ← parser, ← charging, ← account, ← meter, ← lockdown,
    ← memory, ← pending]

section Respond

variable (s : State) (q : Nat) (ok : Bool) (d : List Byte)

theorem handBand_respond (plane : Option Plane) (dots : Nat) :
    (s.respond q ok d).handBand plane dots = (s.handBand plane dots).respond q ok d := by
  have kept : (s.handBand plane dots).beside s = s.handBand plane dots := beside_of_touches (by simp)
  refine (handBand_beside s (s.respond q ok d) plane dots).trans ?_
  exact congrArg (State.respond · q ok d) kept

theorem setFraming_respond (i : Nat) (f : Framing) (c : Nat) :
    (s.respond q ok d).setFraming i f c = (s.setFraming i f c).respond q ok d := by
  cases stands : s.framingOf i with
  | none => rw [setFraming_of_none stands, setFraming_of_none (s := s.respond q ok d) stands]
  | some x =>
    obtain ⟨r, bound, body⟩ := framingOf_eq_some_iff.mp stands
    rw [setFraming_of_page bound body, setFraming_of_page (s := s.respond q ok d) bound body]
    rfl

theorem frameAbandoned_respond (i : Nat) (cause : AbandonCause) :
    (s.respond q ok d).frameAbandoned i cause = (s.frameAbandoned i cause).respond q ok d := by
  have broken : (s.respond q ok d).breakRegion i = (s.breakRegion i).respond q ok d := by
    have same : (s.respond q ok d).framingOf i = s.framingOf i := rfl
    rw [State.breakRegion, State.breakRegion, same]
    cases s.framingOf i with
    | none => rfl
    | some x => exact setFraming_respond ..
  cases cause
  case restart => exact setFraming_respond ..
  case newSideSameRegion | closeTimeout | lockdown => rfl
  all_goals exact broken

theorem releaseSide_respond (o : OpenSide) : (s.respond q ok d).releaseSide o = (s.releaseSide o).respond q ok d := by
  have same : (s.respond q ok d).sheetNamed o.sheet = s.sheetNamed o.sheet := rfl
  rw [State.releaseSide, State.releaseSide, same]
  cases s.sheetNamed o.sheet <;> rfl

theorem abandonSheet_respond (name : Nat) (kind : SideKind) :
    (s.respond q ok d).abandonSheet name kind = (s.abandonSheet name kind).respond q ok d := by
  cases kind <;> rfl

theorem abandonSide_respond (o : OpenSide) (cause : AbandonCause) :
    (s.respond q ok d).abandonSide o cause = (s.abandonSide o cause).respond q ok d := by
  have plane : (s.respond q ok d).currentPlane o.region = s.currentPlane o.region := rfl
  have number : (s.respond q ok d).jobNumber o.slot = s.jobNumber o.slot := rfl
  have job (a : State) : (a.respond q ok d).updateJob o.slot JobRecord.abandonSide =
      (a.updateJob o.slot JobRecord.abandonSide).respond q ok d := rfl
  have side (a : State) : (a.respond q ok d).setOpenSide none = (a.setOpenSide none).respond q ok d := rfl
  rw [State.abandonSide, State.abandonSide, plane, number, handBand_respond, releaseSide_respond, abandonSheet_respond,
    job, side, frameAbandoned_respond]
  rfl

theorem completeClose_respond (slot : Nat) (reason : CloseReason) (sheets sides : Nat) :
    (s.respond q ok d).completeClose slot reason sheets sides =
      (s.completeClose slot reason sheets sides).respond q ok d := by
  have same : (s.respond q ok d).jobAt slot = s.jobAt slot := rfl
  simp only [State.completeClose, same]
  split
  · split
    · rename_i c _
      simp only [State.handSummary]
      cases c.summary <;> rfl
    all_goals rfl
  · rfl

theorem drainTest_respond (slot : Nat) : (s.respond q ok d).drainTest slot = (s.drainTest slot).respond q ok d := by
  have same : (s.respond q ok d).jobAt slot = s.jobAt slot := rfl
  simp only [State.drainTest, same]
  split
  · split
    · exact completeClose_respond ..
    · rfl
  · rfl

theorem abandon_respond (cause : AbandonCause) :
    (s.respond q ok d).abandon cause = (s.abandon cause).respond q ok d := by
  cases side : s.parser.openSide with
  | none => rw [abandon_of_closed cause side, abandon_of_closed (s := s.respond q ok d) cause side]
  | some o =>
    rw [abandon_of_open side, abandon_of_open (s := s.respond q ok d) side, abandonSide_respond]
    split
    · exact drainTest_respond ..
    · rfl

theorem framingError_respond (v : VideoRead) (offset : Nat) (reason : FramingReason) :
    (s.respond q ok d).framingError v offset reason = (s.framingError v offset reason).respond q ok d := by
  have side : (s.respond q ok d).openSideIn v.index = s.openSideIn v.index := rfl
  simp only [State.framingError, side]
  split
  · rw [abandon_respond, setFraming_respond]
    rfl
  · rw [setFraming_respond]
    rfl

theorem consumeHeader_respond (i offset : Nat) (h : BandHeader) (plane : Plane) :
    (s.respond q ok d).consumeHeader i offset h plane = (s.consumeHeader i offset h plane).respond q ok d :=
  setFraming_respond (s.setOpenSide (s.parser.openSide.map (OpenSide.takeHeader h.sideEnd))) ..

theorem makeSide_respond (v : VideoRead) (j : JobRecord) (kind : SideKind) (mask : PlaneMask) :
    (s.respond q ok d).makeSide v j kind mask = (s.makeSide v j kind mask).respond q ok d := by
  cases kind <;> rfl

theorem startSide_respond (v : VideoRead) (offset : Nat) (h : BandHeader) (kind : SideKind) (plane : Plane) :
    (s.respond q ok d).startSide v offset h kind plane =
      ((s.startSide v offset h kind plane).1.respond q ok d, (s.startSide v offset h kind plane).2) := by
  have cleared : (s.respond q ok d).abandonForStart v.index = (s.abandonForStart v.index).respond q ok d :=
    abandon_respond ..
  have job (a : State) : (a.respond q ok d).jobAt v.slot = a.jobAt v.slot := rfl
  have refusal (a : State) (j : JobRecord) : (a.respond q ok d).sideRefusal v.slot j kind h.mask =
      a.sideRefusal v.slot j kind h.mask := rfl
  simp only [State.startSide, cleared, job, refusal]
  cases (s.abandonForStart v.index).jobAt v.slot with
  | none => rfl
  | some j =>
    dsimp only
    cases (s.abandonForStart v.index).sideRefusal v.slot j kind h.mask with
    | some reason => rfl
    | none => simp only [makeSide_respond, consumeHeader_respond]

/-- A header is taken alike beside any response (R81). -/
theorem takeHeader_respond (v : VideoRead) (offset : Nat) (bytes : List Byte) :
    (s.respond q ok d).takeHeader v offset bytes =
      ((s.takeHeader v offset bytes).1.respond q ok d, (s.takeHeader v offset bytes).2) := by
  have side : (s.respond q ok d).openSideIn v.index = s.openSideIn v.index := rfl
  simp only [State.takeHeader, side]
  cases judgeHeader (.ofBytes bytes) v.length offset (s.openSideIn v.index) with
  | error reason => simp only [framingError_respond]
  | continues plane => simp only [consumeHeader_respond]
  | starts kind plane => simp only [startSide_respond]

end Respond

end Sys2Proof.Machine
end

section
/-! Framing refusals: by place (R79), by the tests of a header (R82, R83), and of a header that ends after its read
(R84). -/

namespace Sys2Proof.Machine

/-! ### By place (R79) -/

section Misplaced

variable {t : Transaction} {s : State} {i : Nat} {r : Region} {j : JobRecord} {f : Framing} {cursor : Nat}

theorem exec_misplaced {reason : FramingReason} (reads : s.readsPage t i r j f cursor)
    (refused : placementRefusal f cursor (t.address - r.base) t.beats = some reason) :
    ∃ u, exec (.subordinateTransaction t) s = .next u ∧ s.refusesFraming u t i r reason f cursor := by
  refine ⟨(s.noticeFraming (videoReadOf t i r) reason f.state cursor).respond t.requester false [], ?_, rfl, rfl, ?_⟩
  · rw [exec_readsPage reads, State.videoRead, refused]
  · apply Touches.changesOnly
    simp

/-- R79 lets a read through that none of its tests refuses. -/
theorem lets_of_placementRefusal {offset beats : Nat} (h : placementRefusal f cursor offset beats = none) :
    offset = 0 ∨ f.lets offset beats cursor := by
  by_cases start : offset = 0
  · exact .inl start
  · right
    simp only [placementRefusal, if_neg start] at h
    cases f with
    | broken => cases h
    | atHeader =>
      dsimp only at h
      split at h
      · cases h
      · split at h
        · cases h
        · exact ⟨not_not.mp ‹_›, ‹_›⟩
    | inPayload remaining plane =>
      dsimp only at h
      split at h
      · cases h
      · split at h
        · cases h
        · exact ⟨not_not.mp ‹_›, ‹_›⟩

/-- The tests 2 to 5 of R79, in order. -/
theorem misplaced_by_state (reads : s.readsPage t i r j f cursor) (away : r.base < t.address) :
    ∃ u, exec (.subordinateTransaction t) s = .next u ∧
      let first := t.address - r.base
      let last := t.address - r.base + 16 * t.beats
      match (generalizing := false) f with
      | .broken => s.refusesFraming u t i r .broken f cursor
      | .atHeader =>
        if first ≠ cursor then s.refusesFraming u t i r .framingGap f cursor
        else t.beats = 1 → s.refusesFraming u t i r .headerSplit f cursor
      | .inPayload remaining _ =>
        if first ≠ cursor then s.refusesFraming u t i r .framingGap f cursor
        else cursor + remaining < last → last < cursor + remaining + 32 →
          s.refusesFraming u t i r .headerSplit f cursor := by
  have inside : t.address - r.base ≠ 0 := by omega
  cases f with
  | broken => exact exec_misplaced reads (by rw [placementRefusal, if_neg inside])
  | atHeader =>
    dsimp only
    by_cases gap : t.address - r.base ≠ cursor
    · simp only [if_pos gap]
      exact exec_misplaced reads (by simp [placementRefusal, inside, gap])
    · simp only [if_neg gap]
      by_cases alone : t.beats = 1
      · obtain ⟨u, done, refuses⟩ := exec_misplaced (reason := .headerSplit) reads
          (by simp only [placementRefusal, if_neg inside, if_neg gap, if_pos alone])
        exact ⟨u, done, fun _ => refuses⟩
      · exact ⟨_, exec_readsPage reads, fun one => absurd one alone⟩
  | inPayload remaining plane =>
    dsimp only
    by_cases gap : t.address - r.base ≠ cursor
    · simp only [if_pos gap]
      exact exec_misplaced reads (by simp [placementRefusal, inside, gap])
    · simp only [if_neg gap]
      by_cases splits : cursor + remaining < t.address - r.base + 16 * t.beats ∧
          t.address - r.base + 16 * t.beats < cursor + remaining + 32
      · obtain ⟨u, done, refuses⟩ := exec_misplaced (reason := .headerSplit) reads
          (by simp only [placementRefusal, if_neg inside, if_neg gap, if_pos splits])
        exact ⟨u, done, fun _ _ => refuses⟩
      · exact ⟨_, exec_readsPage reads, fun low high => absurd ⟨low, high⟩ splits⟩

end Misplaced

/-! ### By the tests of a header (R82, R83) -/

/-- The table of R82, test by test. -/
theorem judgeHeader_eq (h : BandHeader) (length offset : Nat) (open? : Option OpenSide) :
    judgeHeader h length offset open? =
      if h.sync ≠ [0x5A, 0xA5, 0x3C, 0xC3] then .error .badSync
      else if h.sum % 256 ≠ 0 then .error .badCheck
      else
        match [Plane.k, .c, .m, .y][h.plane]? with
        | none => .error .badField
        | some plane =>
          if h.units = 0 ∨ 4096 < h.units then .error .badField
          else if h.sideStart = true then
            match [SideKind.simplex, .front, .back][h.kind]? with
            | none => .error .badField
            | some kind =>
              if h.mask = 0 then .error .badField
              else if length < offset + 32 + h.units * 32 then .error .length
              else if hasPlane h.mask plane = false then .error .plane
              else if h.number ≠ 0 then .error .sequence
              else .starts kind plane
          else if length < offset + 32 + h.units * 32 then .error .length
          else
            match open? with
            | none => .error .noSide
            | some o =>
              if hasPlane o.mask plane = false then .error .plane
              else if h.number ≠ o.nextBand - 1 then .error .sequence
              else .continues plane := by
  have room : (!decide (offset + 32 + 32 * h.units ≤ length)) = true ↔ length < offset + 32 + h.units * 32 := by
    simp only [Bool.not_eq_true', decide_eq_false_iff_not]
    omega
  have planes : ofCode? Plane.all h.plane = [Plane.k, .c, .m, .y][h.plane]? := rfl
  have kinds : ofCode? SideKind.all h.kind = [SideKind.simplex, .front, .back][h.kind]? := rfl
  simp only [judgeHeader, judgeStart, judgeLater, room, planes, kinds, bandSync, OpenSide.awaitedBand,
    Bool.not_eq_true']
  cases [Plane.k, .c, .m, .y][h.plane]? with
  | none => rfl
  | some plane => cases [SideKind.simplex, .front, .back][h.kind]? <;> cases open? <;> rfl

/-- A region framed is framed by its place alone. -/
theorem framed_of_place {r q : Region} (place : q.place = r.place) (u : TransactionUnit) (i : Nat) (f : Framing)
    (c : Nat) : u.framed i q f c = u.framed i r f c := by
  have same : ({ q with body := .page f c } : Region) = { r with body := .page f c } :=
    congrArg (fun p : Region => { p with body := .page f c }) place
  rw [TransactionUnit.framed, TransactionUnit.framed, same]

/-- A framing error at a header, with the read's refusal (R83). -/
theorem framingError_breaks {s : State} {i : Nat} {r q : Region} {f : Framing} {c : Nat} (serves : s.serves i r.slot)
    (bound : s.region i = some q) (body : q.body = .page f c) (place : q.place = r.place) (t : Transaction)
    (cursor : Nat) (reason : FramingReason) :
    s.breaksAtHeader ((s.framingError (videoReadOf t i r) cursor reason).respond t.requester false []) t i r reason
      cursor := by
  unfold State.breaksAtHeader
  intro v
  have view : v.grantView i r.slot = s.grantView i r.slot := by
    by_cases opened : (s.openSideIn i).isSome = true
    · rw [show v = s.abandon .framing from if_pos opened]
      exact (abandon_keeps serves .framing).1
    · rw [show v = s from if_neg opened]
  obtain ⟨x, stands⟩ := framingOf_of_grantView view (framingOf_of_page bound body)
  obtain ⟨p, bound', body'⟩ := framingOf_eq_some_iff.mp stands
  have place' := place_of_grantView view bound bound'
  have framed : v.setFraming i .broken cursor = v.setTransaction (v.transaction.framed i r .broken cursor) := by
    rw [setFraming_of_page bound' body', framed_of_place (place'.trans place)]
  have errs : s.framingError (videoReadOf t i r) cursor reason =
      (v.setFraming i .broken cursor).noticeFraming (videoReadOf t i r) reason .atHeader cursor := rfl
  rw [errs, framed]
  refine ⟨rfl, rfl, ?_⟩
  apply Touches.changesOnly
  simp

/-- A header at the cursor that fails its tests. -/
theorem exec_breaksAtHeader {t : Transaction} {s : State} {i : Nat} {r : Region} {j : JobRecord} {cursor : Nat}
    {key : JobKey} {plain : List Byte} {reason : FramingReason} (meets : s.meetsHeader t i r j cursor key plain)
    (closed : cursor = 0 → s.openSideIn i = none)
    (judged : judgeHeader (.ofBytes (plain.take 32)) r.length cursor (s.openSideIn i) = .error reason) :
    ∃ u, exec (.subordinateTransaction t) s = .next u ∧ s.breaksAtHeader u t i r reason cursor := by
  obtain ⟨bound, _, body, _⟩ := region_of_readsPage meets.1
  have place : (videoReadOf t i r).offset = cursor := meets.2.1
  have taken : s.takeHeader (videoReadOf t i r) (videoReadOf t i r).offset (plain.take 32) =
      (s.framingError (videoReadOf t i r) cursor reason, false) := by
    rw [place]
    exact takeHeader_of_error (v := videoReadOf t i r) judged
  refine ⟨_, exec_meetsHeader meets closed, ?_⟩
  rw [parseRead_of_refused (framingOf_of_meetsHeader meets) (length_of_meetsHeader meets).2 taken]
  exact framingError_breaks (serves_of_readsPage meets.1) bound body rfl t cursor reason

/-! ### A header that ends after its read (R84) -/

theorem noticeFraming_splits (s : State) (t : Transaction) (i : Nat) (r : Region) (cursor : Nat) :
    s.splitsHeader
      ((s.noticeFraming (videoReadOf t i r) .headerSplit .atHeader cursor).respond t.requester false []) t i r
      cursor := by
  refine ⟨rfl, rfl, ?_⟩
  apply Touches.changesOnly
  simp

/-- One beat at offset 0 holds no header (R80, R84). -/
theorem exec_splitsFirstHeader {t : Transaction} {s : State} {i : Nat} {r : Region} {j : JobRecord} {f : Framing}
    {cursor : Nat} {key : JobKey} (reads : s.readsPage t i r j f cursor) (start : t.address = r.base)
    (alone : t.beats = 1) (holds : s.holdsKey r.slot key) :
    ∃ u, exec (.subordinateTransaction t) s = .next u ∧ (s.restarted i).splitsHeader u t i r 0 := by
  obtain ⟨bound, _, body, _⟩ := region_of_readsPage reads
  have serves := serves_of_readsPage reads
  have offset : t.address - r.base = 0 := by omega
  have restarts : s.restartFraming (videoReadOf t i r) = s.restarted i := by
    rw [restartFraming_eq s t start.ge, if_pos start]
  have length : (s.plainBytes t r key).length = 16 := by
    rw [State.plainBytes, length_decipherBeats, alone]
  have stands : (s.restarted i).framingOf (videoReadOf t i r).index = some (.atHeader, 0) :=
    restarted_framingOf serves (framingOf_of_page bound body)
  have parsed : (s.restarted i).parseRead (videoReadOf t i r) (s.plainBytes t r key) =
      ((s.restarted i).noticeFraming (videoReadOf t i r) .headerSplit .atHeader 0, false) := by
    rw [State.parseRead, length, parseFrom_split (List.ne_nil_of_length_pos (by omega)) stands (by omega)]
    exact congrArg (fun c => ((s.restarted i).noticeFraming (videoReadOf t i r) .headerSplit .atHeader c, false)) offset
  have done := exec_parsed (key := key) reads (placementRefusal_of_lets (.inl offset))
    (by rw [restarts]; exact holdsKey_of_grantView (grantView_restarted serves i) holds)
  rw [restarts, parsed] at done
  exact ⟨_, done, noticeFraming_splits ..⟩

end Sys2Proof.Machine
end

section
/-! A VIDEO read whose first beats pass: it is decided by the header they leave its region at (R81, R83, R84). -/

namespace Sys2Proof.Machine

/-! ### The first beats of a read -/

/-- The port carries any part of a read that it carries (R1). -/
theorem passesPort_partOf {t : Transaction} {first beats : Nat} (port : passesPort t) (read : t.direction = .read)
    (positive : 0 < beats) (within : first + beats ≤ t.beats) : passesPort (partOf t first beats) := by
  obtain ⟨formed, whole⟩ := port
  obtain ⟨requester, address, aligned, _, most, data⟩ := (transaction_wellFormed_iff t).mp formed
  have page : t.address / 4096 = (t.address + 16 * t.beats - 1) / 4096 := by
    by_contra split
    exact absurd (splitsPage_iff.mpr split) (by simp [whole])
  rw [if_pos read] at data
  constructor
  · refine (transaction_wellFormed_iff _).mpr ⟨requester, ?_, ?_, positive, ?_, ?_⟩
    · show t.address + 16 * first < 2 ^ 40
      omega
    · show (t.address + 16 * first) % 16 = 0
      omega
    · show beats ≤ 16
      omega
    · show t.data.length = if t.direction = .read then 0 else 16 * beats
      rw [if_pos read, data]
  · rw [Bool.eq_false_iff]
    intro splits
    refine splitsPage_iff.mp splits ?_
    show (t.address + 16 * first) / 4096 = (t.address + 16 * first + 16 * beats - 1) / 4096
    omega

theorem readsPage_partOf {t : Transaction} {s : State} {i n : Nat} {r : Region} {j : JobRecord} {f : Framing}
    {cursor : Nat} (reads : s.readsPage t i r j f cursor) (positive : 0 < n) (within : n ≤ t.beats) :
    s.readsPage (partOf t 0 n) i r j f cursor := by
  obtain ⟨port, read, rest⟩ := reads
  exact ⟨passesPort_partOf port read positive (by omega), read, rest⟩

/-- The bytes of a read after its first beats, deciphered (R66). -/
def State.restBytes (s : State) (t : Transaction) (r : Region) (key : JobKey) (n : Nat) : List Byte :=
  decipherBeats key r.segment ((t.address - r.base + 16 * n) / 16) (t.beats - n)
    (Memory.readBytes s.memory (t.address + 16 * n) (16 * (t.beats - n)))

theorem length_restBytes (s : State) (t : Transaction) (r : Region) (key : JobKey) (n : Nat) :
    (s.restBytes t r key n).length = 16 * (t.beats - n) :=
  length_decipherBeats ..

theorem Memory.readBytes_append (m : List Host.Cell) (a k l : Nat) :
    Memory.readBytes m a (k + l) = Memory.readBytes m a k ++ Memory.readBytes m (a + k) l := by
  have front := Memory.readBytes_part m a (k := 0) (n := k) (l := k + l) (by omega)
  have back := Memory.readBytes_part m a (k := k) (n := l) (l := k + l) le_rfl
  rw [Nat.add_zero, List.drop_zero] at front
  rw [List.take_of_length_le (by simp)] at back
  rw [front, back, List.take_append_drop]

/-- Each beat is deciphered by itself (R66). -/
theorem decipherBeats_append (key : JobKey) (segment first n k : Nat) {data more : List Byte}
    (whole : data.length = 16 * n) :
    decipherBeats key segment first (n + k) (data ++ more) =
      decipherBeats key segment first n data ++ decipherBeats key segment (first + n) k more := by
  have front (i : Nat) (inside : i < n) : beatAt (data ++ more) i = beatAt data i := by
    have ends : 16 * i + 16 ≤ data.length := by omega
    rw [beatAt, beatAt, List.drop_append_of_le_length (by omega),
      List.take_append_of_le_length (by rw [List.length_drop]; omega)]
  have back (i : Nat) : beatAt (data ++ more) (n + i) = beatAt more i := by
    rw [beatAt, beatAt, show 16 * (n + i) = data.length + 16 * i by omega, List.drop_append,
      List.drop_eq_nil_of_le (Nat.le_add_right ..), List.nil_append, Nat.add_sub_cancel_left]
  simp only [decipherBeats, List.range_add, List.flatMap_append, List.flatMap_map, back, Nat.add_assoc]
  congr 1
  rw [List.flatMap_def, List.flatMap_def]
  congr 1
  apply List.map_congr_left
  intro i inside
  rw [front i (List.mem_range.mp inside)]

theorem plainBytes_partOf (s : State) {t : Transaction} {n : Nat} (r : Region) (key : JobKey) (within : n ≤ t.beats) :
    s.plainBytes t r key = s.plainBytes (partOf t 0 n) r key ++ s.restBytes t r key n := by
  obtain ⟨k, beats⟩ := Nat.exists_eq_add_of_le within
  have rest : t.beats - n = k := by omega
  have offset : (t.address - r.base + 16 * n) / 16 = (t.address - r.base) / 16 + n := by omega
  rw [State.plainBytes, State.bytesAt, State.restBytes, offset, rest, beats, Nat.mul_add, Memory.readBytes_append]
  exact decipherBeats_append _ _ _ _ _ (Memory.length_readBytes ..)

/-! ### What their parse comes to -/

section Passes

variable {t : Transaction} {s w : State} {i n : Nat} {r : Region} {j : JobRecord} {f : Framing} {cursor : Nat}
  {key : JobKey}

theorem grantView_restartFraming (reads : s.readsPage t i r j f cursor) :
    (s.restartFraming (videoReadOf t i r)).grantView i r.slot = s.grantView i r.slot := by
  obtain ⟨_, held, _, _⟩ := region_of_readsPage reads
  rw [restartFraming_eq s t held]
  split
  · exact grantView_restarted (serves_of_readsPage reads) i
  · rfl

/-- A read that R79 lets through finds its region, after the restart, framed at its own offset (R79, R80). -/
theorem framingOf_restartFraming (reads : s.readsPage t i r j f cursor)
    (placed : placementRefusal f cursor (t.address - r.base) t.beats = none) :
    ∃ f', (s.restartFraming (videoReadOf t i r)).framingOf i = some (f', t.address - r.base) ∧
      (t.address = r.base ∨ f' = f ∧ f.lets (t.address - r.base) t.beats cursor) := by
  obtain ⟨bound, held, body, _⟩ := region_of_readsPage reads
  have stands := framingOf_of_page bound body
  rw [restartFraming_eq s t held]
  by_cases start : t.address = r.base
  · refine ⟨.atHeader, ?_, .inl start⟩
    rw [if_pos start, restarted_framingOf (serves_of_readsPage reads) stands, start, Nat.sub_self]
  · have lets := (lets_of_placementRefusal placed).resolve_left (by omega)
    have place : cursor = t.address - r.base := by
      cases f with
      | broken => exact lets.elim
      | atHeader => exact lets.1.symm
      | inPayload remaining plane => exact lets.1.symm
    exact ⟨f, by rw [if_neg start, stands, place], .inr ⟨rfl, lets⟩⟩

/-- A read answered OKAY was let through and its parse passed (R79, R81). -/
theorem parse_passes_of_okay {d : List Byte} (reads : s.readsPage t i r j f cursor) (holds : s.holdsKey r.slot key)
    (done : exec (.subordinateTransaction t) s = .next w)
    (okay : w.transaction.response = some { requester := t.requester, okay := true, data := d }) :
    placementRefusal f cursor (t.address - r.base) t.beats = none ∧
      ∃ p, (s.restartFraming (videoReadOf t i r)).parseRead (videoReadOf t i r) (s.plainBytes t r key) = (p, true) ∧
        w = p.respond t.requester true (s.plainBytes t r key) := by
  have placed : placementRefusal f cursor (t.address - r.base) t.beats = none := by
    by_contra refused
    obtain ⟨reason, refused⟩ := Option.ne_none_iff_exists'.mp refused
    obtain ⟨u, done', transaction, _⟩ := exec_misplaced reads refused
    rw [done] at done'
    cases done'
    rw [transaction] at okay
    cases okay
  have parsed := exec_parsed reads placed (holdsKey_of_grantView (grantView_restartFraming reads) holds)
  rw [done] at parsed
  cases parsed
  refine ⟨placed, ?_⟩
  generalize (s.restartFraming (videoReadOf t i r)).parseRead _ _ = p at okay
  obtain ⟨p, passes⟩ := p
  cases passes with
  | false => cases okay
  | true => exact ⟨p, rfl, rfl⟩

end Passes

end Sys2Proof.Machine
end

section
/-! The header that the first beats of a VIDEO read leave its region at (R81 to R84), and O32. -/

namespace Sys2Proof.Machine

/-! ### The rest of the read -/

/-- The parse of a read comes to the bytes after its first beats in this state, which stands at a header there, and the
read is answered by what the parse of those bytes comes to (R81). -/
def State.goesOnFrom (s p : State) (t : Transaction) (i : Nat) (r : Region) (first rest : List Byte) (c : Nat) : Prop :=
  p.grantView i r.slot = s.grantView i r.slot ∧ p.framingOf i = some (.atHeader, c) ∧
    ∃ turns, exec (.subordinateTransaction t) s =
      .next (State.answeredBy (State.parseFrom (videoReadOf t i r) (turns + 1) p c rest) t (first ++ rest))

section Continued

variable {t : Transaction} {s w : State} {i n : Nat} {r : Region} {j : JobRecord} {key : JobKey}

theorem framingOf_of_body {f : Framing} {c : Nat} (body : (w.region i).map Region.body = some (.page f c)) :
    w.framingOf i = some (f, c) := by
  obtain ⟨q, bound, framed⟩ := Option.map_eq_some_iff.mp body
  exact framingOf_of_page bound framed

/-- R79 lets a read through whose first beats pass and end at a header, unless they end a band and one beat follows. -/
theorem placed_of_part {p : State} {f : Framing} {cursor c : Nat} (reads : s.readsPage t i r j f cursor)
    (positive : 0 < n) (within : n < t.beats)
    (placed : placementRefusal f cursor (t.address - r.base) n = none)
    (passes : (s.restartFraming (videoReadOf t i r)).parseRead (videoReadOf (partOf t 0 n) i r)
      (s.plainBytes (partOf t 0 n) r key) = (p, true))
    (stands : p.framingOf i = some (.atHeader, c))
    (ends : t.beats = n + 1 → ∀ remaining plane, r.body = .page (.inPayload remaining plane) (t.address - r.base) →
      t.address = r.base ∨ remaining ≠ 16 * n) :
    placementRefusal f cursor (t.address - r.base) t.beats = none := by
  have reads' := readsPage_partOf reads positive within.le
  obtain ⟨_, held, body, _⟩ := region_of_readsPage reads
  obtain ⟨f', framed, start | ⟨rfl, lets⟩⟩ := framingOf_restartFraming reads' placed
  · exact placementRefusal_of_lets (.inl (Nat.sub_eq_zero_of_le (show t.address ≤ r.base from start.le)))
  · cases f' with
    | broken => exact lets.elim
    | atHeader => exact placementRefusal_of_lets (.inr ⟨lets.1, by omega⟩)
    | inPayload remaining plane =>
      have place : t.address - r.base = cursor := lets.1
      have length : (s.plainBytes (partOf t 0 n) r key).length = 16 * n := length_decipherBeats ..
      have reaches := parseRead_reaches (List.ne_nil_of_length_pos (by omega)) framed passes stands
      by_cases start : t.address = r.base
      · exact placementRefusal_of_lets (.inl (by omega))
      · have whole : t.beats = n + 1 → remaining ≠ 16 * n := fun last =>
          (ends last remaining plane (place ▸ body)).resolve_left start
        exact placementRefusal_of_lets (.inr ⟨place, by omega⟩)

/-- A read whose first beats pass and end at a header goes on from there as it would after them alone (R81). -/
theorem goesOn_of_passesTo (passes : s.passesTo w t i r j key n)
    (ends : t.beats = n + 1 → ∀ remaining plane, r.body = .page (.inPayload remaining plane) (t.address - r.base) →
      t.address = r.base ∨ remaining ≠ 16 * n) :
    ∃ p first, w = p.respond t.requester true first ∧
      s.goesOnFrom p t i r first (s.restBytes t r key n) (t.address - r.base + 16 * n) := by
  obtain ⟨positive, within, ⟨f, cursor, reads⟩, holds, done, ⟨d, okay⟩, body, _⟩ := passes
  have reads' := readsPage_partOf reads positive within.le
  have view := grantView_restartFraming reads
  have serves := serves_of_grantView view (serves_of_readsPage reads)
  obtain ⟨placed, p, parsed, rfl⟩ := parse_passes_of_okay reads' holds done okay
  obtain ⟨f', framed, _⟩ := framingOf_restartFraming reads' placed
  have stands : p.framingOf i = some (.atHeader, t.address - r.base + 16 * n) := framingOf_of_body (w := p) body
  have length : (s.plainBytes (partOf t 0 n) r key).length = 16 * n := length_decipherBeats ..
  have restLength := length_restBytes s t r key n
  have kept : p.grantView i r.slot = _ :=
    (congrArg (fun q : State × Bool => q.1.grantView i r.slot) parsed).symm.trans (grantView_parseFrom serves ..)
  have same : (videoReadOf (partOf t 0 n) i r).sameRegion (videoReadOf t i r) := ⟨rfl, rfl, rfl⟩
  obtain ⟨m, goesOn⟩ := parseFrom_append same (s.restBytes t r key n) (2 * (s.restBytes t r key n).length) serves framed
    parsed (by rw [length]; exact stands)
  obtain ⟨turns, enough⟩ : ∃ turns, m + 2 * (s.restBytes t r key n).length = turns + 1 :=
    ⟨m + 2 * (s.restBytes t r key n).length - 1, by omega⟩
  rw [enough, length] at goesOn
  refine ⟨p, s.plainBytes (partOf t 0 n) r key, rfl, kept.trans view, stands, turns, ?_⟩
  rw [exec_parsed reads (placed_of_part reads positive within placed parsed stands ends)
    (holdsKey_of_grantView view holds), plainBytes_partOf s r key within.le, State.parseRead, List.length_append,
    length, Nat.mul_add]
  exact congrArg (fun q => Host.Outcome.next (State.answeredBy q t _)) goesOn

/-! ### The header after the first beats -/

/-- One beat after the first ones holds no header (R84). -/
theorem exec_splitsAfterPart (passes : s.passesTo w t i r j key n) (last : t.beats = n + 1)
    (ends : ∀ remaining plane, r.body = .page (.inPayload remaining plane) (t.address - r.base) →
      t.address = r.base ∨ remaining ≠ 16 * n) :
    ∃ u, exec (.subordinateTransaction t) s = .next u ∧ w.splitsHeader u t i r (t.address - r.base + 16 * n) := by
  obtain ⟨p, first, rfl, _, stands, turns, done⟩ := goesOn_of_passesTo passes fun _ => ends
  have length := length_restBytes s t r key n
  rw [parseFrom_split (List.ne_nil_of_length_pos (by omega)) stands (by omega)] at done
  exact ⟨_, done, noticeFraming_splits (p.respond t.requester true first) t i r _⟩

/-- A header after the first beats that fails its tests (R83). -/
theorem exec_breaksAfterPart {reason : FramingReason} (passes : s.passesTo w t i r j key n) (two : n + 2 ≤ t.beats)
    (judged : judgeHeader (.ofBytes ((s.restBytes t r key n).take 32)) r.length (t.address - r.base + 16 * n)
      (w.openSideIn i) = .error reason) :
    ∃ u, exec (.subordinateTransaction t) s = .next u ∧
      w.breaksAtHeader u t i r reason (t.address - r.base + 16 * n) := by
  obtain ⟨p, first, rfl, view, stands, turns, done⟩ := goesOn_of_passesTo passes (by omega)
  obtain ⟨_, _, ⟨f, cursor, reads⟩, _⟩ := passes
  obtain ⟨bound, _⟩ := region_of_readsPage reads
  obtain ⟨q, bound', body⟩ := framingOf_eq_some_iff.mp stands
  have place := place_of_grantView view bound bound'
  have length := length_restBytes s t r key n
  have breaks := framingError_breaks (s := p.respond t.requester true first)
    (serves_of_grantView view (serves_of_readsPage reads)) bound' body place t (t.address - r.base + 16 * n) reason
  rw [framingError_respond] at breaks
  have taken : p.takeHeader (videoReadOf t i r) (t.address - r.base + 16 * n) ((s.restBytes t r key n).take 32) =
      (p.framingError (videoReadOf t i r) (t.address - r.base + 16 * n) reason, false) := takeHeader_of_error judged
  rw [parseFrom_header stands (by omega), taken] at done
  exact ⟨_, done, breaks⟩

/-- The two beats after the first ones, read alone, meet the header there. -/
theorem meetsHeader_afterPart {p : State} (reads : ∃ f cursor, s.readsPage t i r j f cursor)
    (holds : s.holdsKey r.slot key) (inside : ∃ q k, p.inRegion (partOf t n 2) i q k)
    (view : p.grantView i r.slot = s.grantView i r.slot)
    (stands : p.framingOf i = some (.atHeader, t.address - r.base + 16 * n)) (two : t.beats = n + 2) :
    ∃ q k, q.place = r.place ∧
      p.meetsHeader (partOf t n 2) i q k (t.address - r.base + 16 * n) key (s.restBytes t r key n) := by
  obtain ⟨f, cursor, reads⟩ := reads
  obtain ⟨q, _, _, region, _⟩ := inside
  obtain ⟨bound, held, _⟩ := region_of_readsPage reads
  obtain ⟨bound', _, _⟩ := regionOf_eq_some_iff.mp region
  have place := place_of_grantView view bound bound'
  obtain ⟨q', again, body⟩ := framingOf_eq_some_iff.mp stands
  rw [bound'] at again
  cases again
  obtain ⟨base, _, slot, segment⟩ := place_eq_iff.mp place
  have port : passesPort (partOf t n 2) := passesPort_partOf reads.1 reads.2.1 (by omega) (by omega)
  obtain ⟨k, reads'⟩ := readsPage_of_grantView reads view port reads.2.1 rfl region body
  have offset : (partOf t n 2).address - q.base = t.address - r.base + 16 * n := by
    rw [base]
    exact Nat.sub_add_comm held
  have memory : p.memory = s.memory := congrArg GrantView.memory view
  have rest : t.beats - n = 2 := by omega
  refine ⟨q, k, place, reads', offset, le_rfl, slot ▸ holdsKey_of_grantView view holds, ?_⟩
  rw [State.restBytes, State.stored, memory, segment, rest]
  rfl

/-- A header right after the first beats acts as it does read alone, and decides the whole read (R81). -/
theorem exec_afterPart (passes : s.passesTo w t i r j key n) (two : t.beats = n + 2)
    (judged : ∀ reason, judgeHeader (.ofBytes (s.restBytes t r key n)) r.length (t.address - r.base + 16 * n)
      (w.openSideIn i) ≠ .error reason)
    {x : State} {y : Response} (alone : exec (.subordinateTransaction (partOf t n 2)) w = .next x)
    (answer : x.transaction.response = some y) :
    exec (.subordinateTransaction t) s =
      .next
        { x with
          transaction :=
            x.transaction.responding t.requester y.okay
              (if y.okay = true then (w.transaction.response.map Response.data).getD [] ++ y.data else []) } := by
  obtain ⟨p, first, rfl, view, stands, turns, done⟩ := goesOn_of_passesTo passes (by omega)
  obtain ⟨positive, _, reads, holds, _, _, _, inside⟩ := passes
  obtain ⟨q, k, place, meets⟩ := meetsHeader_afterPart (p := p.respond t.requester true first) reads holds inside view
    stands two
  obtain ⟨_, qlength, slot, _⟩ := place_eq_iff.mp place
  have length : (s.restBytes t r key n).length = 32 := by
    rw [length_restBytes]
    omega
  have same : (videoReadOf t i r).sameRegion (videoReadOf (partOf t n 2) i q) := ⟨rfl, slot, qlength⟩
  have parsed : (p.respond t.requester true first).parseRead (videoReadOf (partOf t n 2) i q)
      (s.restBytes t r key n) =
      ((p.takeHeader (videoReadOf t i r) (t.address - r.base + 16 * n) (s.restBytes t r key n)).1.respond t.requester
        true first, (p.takeHeader (videoReadOf t i r) (t.address - r.base + 16 * n) (s.restBytes t r key n)).2) := by
    have offset : (videoReadOf (partOf t n 2) i q).offset = t.address - r.base + 16 * n := meets.2.1
    rw [State.parseRead, length, parseFrom_header_alone (framingOf_of_meetsHeader meets) length, offset,
      takeHeader_sameRegion same judged, takeHeader_respond]
  rw [exec_meetsHeader meets (fun start => absurd start (by omega)), parsed] at alone
  rw [parseFrom_header_alone stands length] at done
  rw [done]
  generalize p.takeHeader (videoReadOf t i r) (t.address - r.base + 16 * n) (s.restBytes t r key n) = taken at alone
  obtain ⟨after, passes⟩ := taken
  cases alone
  cases answer
  cases passes <;> rfl

end Continued

/-- Settles O32. -/
theorem framingIsJudgedByPlaceAndByHeader : Obligations.FramingIsJudgedByPlaceAndByHeader := by
  refine ⟨?_, judgeHeader_eq, ?_, ?_, ?_⟩
  · intro t s i r j f cursor reads away
    exact misplaced_by_state reads away
  · intro t s i r j cursor key plain reason meets closed judged
    exact exec_breaksAtHeader meets closed judged
  · intro t s i r j f cursor key reads start alone holds
    exact exec_splitsFirstHeader reads start alone holds
  · intro t s w i r j key n passes
    refine ⟨exec_splitsAfterPart passes, fun two reason => exec_breaksAfterPart passes two, ?_⟩
    intro two judged x y alone answer
    exact exec_afterPart passes two judged alone answer

end Sys2Proof.Machine
end

section
/-! SET_TARIFF at the charging unit (R109). -/

namespace Sys2Proof.Machine

/-- In LOCKDOWN a directive that is not executed there is answered LOCKED, without results and, where it is none of an
account, without a generation (R25, R27, R30). -/
theorem runDirective_refused_locked {s : State} {name : DirectiveName} {d : Directive}
    {owner : Directive → State → Verdict × State} (awaits : s.awaitsOwner name d)
    (locked : s.lockdown.mode = .lockdown) (closed : executedInLockdown name.code = false) (roles : name ≠ .setRoles)
    (noAccount : ¬(DirectiveName.accountSet.code ≤ name.code ∧ name.code ≤ DirectiveName.accountClear.code)) :
    s.refuses (s.runDirective name owner) d .locked .none 0 := by
  have answer : s.generalAnswer d .locked .none = .refuse .locked .none := by
    simp only [State.generalAnswer, awaits.2, if_neg (code_eq_setRoles_iff.not.mpr roles)]
    rfl
  rw [runDirective_locked owner awaits locked closed, answer]
  exact finish_answers (replyGeneration_eq_zero awaits noAccount s).symm

/-- Settles O31, by the tests of R109 in order. -/
theorem tariffIsSet : Obligations.TariffIsSet := by
  intro s d awaits
  refine ⟨_, rfl, ?_⟩
  intro c mono colour
  split
  · exact runDirective_refused_locked awaits ‹_› (by decide) (by decide) (by decide)
  have takes := takes_of_not_locked awaits ‹_›
  split
  · rename_i noClass
    exact runDirective_answers_only takes (if_pos noClass) (by decide)
  rename_i isClass
  split
  · rename_i below
    exact runDirective_answers_only takes ((if_neg isClass).trans (if_pos below)) (by decide)
  · rename_i ordered
    have set : ownSetTariff d s = _ := (if_neg isClass).trans (if_neg ordered)
    refine ⟨runDirective_answers takes set rfl (by simp) (by decide), ?_⟩
    rw [runDirective_takes _ takes, set]
    rfl

end Sys2Proof.Machine
end

section
/-! The drain test (R55): all it can do, by whether a job drains. -/

namespace Sys2Proof.Machine

variable {s a : State}

/-- A job drains: it is CLOSING with no side left in the queue (R55). -/
abbrev JobRecord.drains (j : JobRecord) : Prop := j.phase.state = .closing ∧ j.inQueue = 0

theorem closing_of_state {p : JobPhase} (h : p.state = .closing) : ∃ c, p = .closing c := by
  cases p with
  | closing c => exact ⟨c, rfl⟩
  | active | held | released => cases h

theorem drainTest_of_free {slot : Nat} (free : s.jobAt slot = none) : s.drainTest slot = s := by
  rw [State.drainTest, free]

theorem drainTest_of_not_drained {slot : Nat} {j : JobRecord} (held : s.jobAt slot = some j) (stays : ¬j.drains) :
    s.drainTest slot = s := by
  simp only [State.drainTest, held]
  exact if_neg stays

/-- What a drain test leaves of a job's record. -/
def JobRecord.unlessDrained (j : JobRecord) : Option JobRecord := if j.drains then none else some j

/-- All a drain test can do: nothing, where no job drains, or the completion of a close. -/
theorem drainTest_cases (s : State) (slot : Nat) :
    (s.drainTest slot = s ∧ ∀ j, s.jobAt slot = some j → ¬j.drains) ∨
      ∃ j c, s.jobAt slot = some j ∧ j.phase = .closing c ∧ j.inQueue = 0 ∧
        s.drainTest slot = s.completeClose slot .drained 0 0 := by
  cases held : s.jobAt slot with
  | none => exact .inl ⟨drainTest_of_free held, nofun⟩
  | some j =>
    by_cases drains : j.drains
    · obtain ⟨closing, empty⟩ := drains
      obtain ⟨c, phase⟩ := closing_of_state closing
      exact .inr ⟨j, c, rfl, phase, empty, (drainTest_of_closing held phase).trans (if_pos empty)⟩
    · refine .inl ⟨drainTest_of_not_drained held drains, ?_⟩
      rintro _ ⟨⟩
      exact drains

theorem drainTest_jobAt_same (s : State) (slot : Nat) :
    (s.drainTest slot).jobAt slot = (s.jobAt slot).bind JobRecord.unlessDrained := by
  obtain ⟨same, stays⟩ | ⟨j, c, held, phase, empty, closes⟩ := drainTest_cases s slot
  · rw [same]
    cases held : s.jobAt slot with
    | none => rfl
    | some j => exact (if_neg (stays j held)).symm
  · obtain ⟨free, _⟩ := completeClose_freesSlot held phase .drained 0 0
    have drains : j.drains := ⟨congrArg JobPhase.state phase, empty⟩
    rw [closes, free, held]
    exact (if_pos drains).symm

theorem drainTest_jobAt_other {slot k : Nat} (other : k ≠ slot) (s : State) :
    (s.drainTest slot).jobAt k = s.jobAt k := by
  obtain ⟨same, _⟩ | ⟨j, c, held, phase, _, closes⟩ := drainTest_cases s slot
  · rw [same]
  · obtain ⟨_, others, _⟩ := completeClose_freesSlot held phase .drained 0 0
    rw [closes, others k other]

/-- A slot that is FREE has no key (R67). -/
def State.erasedIfFree (s : State) (slot : Nat) : Prop :=
  s.jobAt slot = none → (tget s.cipher.keys slot : Option KeyEntry) = none

theorem erasedIfFree_drainTest {k : Nat} (slot : Nat) (h : s.erasedIfFree k) : (s.drainTest slot).erasedIfFree k := by
  obtain ⟨same, _⟩ | ⟨j, c, held, phase, _, closes⟩ := drainTest_cases s slot
  · rwa [same]
  · obtain ⟨_, others, _, erased, keys, _⟩ := completeClose_freesSlot held phase .drained 0 0
    rw [closes]
    intro free
    by_cases mine : k = slot
    · rw [mine, erased]
    · rw [others k mine] at free
      rw [keys k mine, h free]

/-- All that changes at the directive unit is that work has been handed to the reply writer. -/
def State.handsOnly (s t : State) : Prop := ∃ items, t.directive = s.directive.handed items

theorem handsOnly_of_eq (h : a.directive = s.directive) : s.handsOnly a :=
  ⟨[], by rw [h, DirectiveUnit.handed, List.append_nil]⟩

theorem State.handsOnly.trans {b : State} (h : s.handsOnly a) (h' : a.handsOnly b) : s.handsOnly b := by
  obtain ⟨first, handed⟩ := h
  obtain ⟨second, handed'⟩ := h'
  exact ⟨first ++ second, by simp [handed', handed, DirectiveUnit.handed]⟩

theorem handsOnly_drainTest (s : State) (slot : Nat) : s.handsOnly (s.drainTest slot) := by
  obtain ⟨same, _⟩ | ⟨j, c, held, phase, _, closes⟩ := drainTest_cases s slot
  · rw [same]
    exact handsOnly_of_eq rfl
  · rw [closes]
    exact ⟨_, completeClose_directive held phase .drained 0 0⟩

end Sys2Proof.Machine
end

section
/-! Sides committed one after another, at their account, their job and the meter unit (R100). -/

namespace Sys2Proof.Machine

/-- Of two writes to one entry of a table the later stands. -/
theorem tset_tset {α : Type} {n : Nat} (v : Vector α n) (i : Nat) (x y : α) :
    tset (tset v i x) i y = tset v i y := by
  by_cases inside : i < n
  · simp [tset, inside]
  · rw [tset_beyond v x (by omega)]

/-- Operations one after another touch what each of them touches. -/
theorem Touches.trans_of_subset {ps qs : List Part} {s a b : State} (h : Touches ps s a) (h' : Touches qs a b)
    (within : qs ⊆ ps) : Touches ps s b :=
  fun p out => Part.same_trans (h p out) (h' p fun listed => out (within listed))

/-! ### One side at its account, its job and the meter unit (R100) -/

variable {s : State}

/-- The account's share of a commit (R100 step 2). -/
theorem commitAccount_account (s : State) (i : Nat) (r : SideRecord) :
    (s.commitAccount i r.isColour r.charge r.reservation).account =
      { s.account with
        accounts := tset s.account.accounts i ((s.accountAt i).committed r)
        pristine := false } := by
  have record : Account.commitSide r.isColour r.charge r.reservation (s.accountAt i) = (s.accountAt i).committed r := by
    cases colour : r.isColour <;> simp [Account.commitSide, Account.committed, colour, satAdd]
  rw [← record]
  simp only [State.commitAccount]
  split <;> rfl

/-- A commit asks for a notice where it leaves its account overdrawn (R100 step 2). -/
theorem commitAccount_directive {i : Nat} (inside : i < 2048) (r : SideRecord) :
    (s.commitAccount i r.isColour r.charge r.reservation).directive =
      s.directive.asked (Account.overdrafts i (s.accountAt i) [r]) := by
  have balance : ((s.chargeAccount i (Account.commitSide r.isColour r.charge r.reservation)).accountAt i).balance =
      (s.accountAt i).balance - r.charge :=
    congrArg Account.balance (tget_tset_same s.account.accounts _ inside)
  simp only [State.commitAccount, balance, Account.overdrafts]
  split
  · rfl
  · simp [DirectiveUnit.asked, State.chargeAccount, State.clearPristine]

theorem commitSide_account (h : Sheet) (s : State) (r : SideRecord) :
    (State.commitSide h s r).account =
      { s.account with
        accounts := tset s.account.accounts h.account ((s.accountAt h.account).committed r)
        pristine := false } := by
  have after (b : State) : Touches [.job, .meter] b ((b.commitJob h.owner r.isColour).countSide r.isColour) := by simp
  exact (after _ .account (by simp)).trans (commitAccount_account s h.account r)

theorem commitSide_accountAt {h : Sheet} (inside : h.account < 2048) (s : State) (r : SideRecord) :
    (State.commitSide h s r).accountAt h.account = (s.accountAt h.account).committed r := by
  rw [State.accountAt, commitSide_account]
  exact tget_tset_same _ _ inside

theorem commitSide_directive {h : Sheet} (inside : h.account < 2048) (r : SideRecord) :
    (State.commitSide h s r).directive =
      s.directive.asked (Account.overdrafts h.account (s.accountAt h.account) [r]) := by
  have after (b : State) : Touches [.job, .meter] b ((b.commitJob h.owner r.isColour).countSide r.isColour) := by simp
  exact (after _ .directive (by simp)).trans (commitAccount_directive inside r)

/-- The meter's share of a commit (R100 step 4). -/
theorem commitSide_meter (h : Sheet) (s : State) (r : SideRecord) :
    (State.commitSide h s r).meter = { s.meter with working := s.meter.working.committed r } := by
  have before : Touches [.account, .directive, .job] s
      ((s.commitAccount h.account r.isColour r.charge r.reservation).commitJob h.owner r.isColour) := by simp
  rw [State.commitSide]
  generalize (s.commitAccount h.account r.isColour r.charge r.reservation).commitJob h.owner r.isColour = b at before
  rw [← show b.meter = s.meter from before .meter (by simp)]
  cases colour : r.isColour <;>
    simp [State.countSide, State.updateWorking, Totals.committed, colour, raiseTotal, satAdd]

/-- The job's share of a commit (R100 step 3). -/
theorem commitSide_slots {h : Sheet} {slot : Nat} (owner : h.owner = .job slot) (s : State) (r : SideRecord) :
    (State.commitSide h s r).job.slots =
      tset s.job.slots slot ((s.jobAt slot).map fun j => j.committed r) := by
  have before : Touches [.account, .directive] s (s.commitAccount h.account r.isColour r.charge r.reservation) := by
    simp
  have record (j : JobRecord) : j.committed r =
      { j with
        inQueue := j.inQueue - 1
        mono := if r.isColour then j.mono else satAdd top32 j.mono 1
        colour := if r.isColour then satAdd top32 j.colour 1 else j.colour } := by
    cases colour : r.isColour <;> simp [JobRecord.committed, colour, satAdd]
  simp only [State.commitSide, owner, State.commitJob, record]
  generalize s.commitAccount h.account r.isColour r.charge r.reservation = b at before
  have job : b.job = s.job := before .job (by simp)
  rw [← job, ← jobAt_of_job_eq job]
  rfl

theorem commitSide_jobAt {h : Sheet} {slot : Nat} (owner : h.owner = .job slot) (s : State) (r : SideRecord) :
    (State.commitSide h s r).jobAt slot = (s.jobAt slot).map fun j => j.committed r := by
  by_cases inside : slot < 32
  · rw [State.jobAt, commitSide_slots owner]
    exact tget_tset_same _ _ inside
  · rw [jobAt_beyond _ (by omega), jobAt_beyond _ (by omega)]
    rfl

/-- A commit changes no record of a sheet that no job owns (R100 step 3). -/
theorem commitSide_job_of_orphan {h : Sheet} (owner : h.owner = .orphan) (s : State) (r : SideRecord) :
    (State.commitSide h s r).job = s.job := by
  have steps : Touches [.account, .directive, .meter] s (State.commitSide h s r) := by
    simp [State.commitSide, owner, State.commitJob]
  exact steps .job (by simp)

/-! ### The sides of a sheet in order -/

/-- The sides of a sheet committed in order (R100). -/
def State.commitSides (s : State) (h : Sheet) (sides : List SideRecord) : State := sides.foldl (State.commitSide h) s

theorem commitSides_cons (s : State) (h : Sheet) (r : SideRecord) (sides : List SideRecord) :
    s.commitSides h (r :: sides) = (State.commitSide h s r).commitSides h sides := rfl

@[simp] theorem touches_commitSides {ps : List Part} {a : State} (h : Sheet) (sides : List SideRecord)
    (hD : .directive ∈ ps) (hJ : .job ∈ ps) (hA : .account ∈ ps) (hM : .meter ∈ ps) :
    Touches ps s (a.commitSides h sides) ↔ Touches ps s a :=
  touches_foldl fun _ r => touches_commitSide r hD hJ hA hM

theorem overdrafts_cons (i : Nat) (a : Account) (r : SideRecord) (sides : List SideRecord) :
    Account.overdrafts i a (r :: sides) = Account.overdrafts i a [r] ++ Account.overdrafts i (a.committed r) sides := by
  simp [Account.overdrafts]

section Sides

variable {h : Sheet}

/-- The account after the sides of a sheet, if there are any. -/
theorem commitSides_account (inside : h.account < 2048) (sides : List SideRecord) (s : State) :
    (s.commitSides h sides).account =
      { s.account with
        accounts := tset s.account.accounts h.account (sides.foldl Account.committed (s.accountAt h.account))
        pristine := sides.isEmpty && s.account.pristine } := by
  induction sides generalizing s with
  | nil =>
    have same : tset s.account.accounts h.account (s.accountAt h.account) = s.account.accounts := tset_of_tget rfl
    simp [State.commitSides, same]
  | cons r sides ih =>
    rw [commitSides_cons, ih, commitSide_accountAt inside, commitSide_account, tset_tset]
    simp

/-- The OVERDRAFT notices of the sides, in their order. -/
theorem commitSides_directive (inside : h.account < 2048) (sides : List SideRecord) (s : State) :
    (s.commitSides h sides).directive =
      s.directive.asked (Account.overdrafts h.account (s.accountAt h.account) sides) := by
  induction sides generalizing s with
  | nil => simp [State.commitSides, Account.overdrafts, DirectiveUnit.asked]
  | cons r sides ih =>
    rw [commitSides_cons, ih, commitSide_accountAt inside, commitSide_directive inside, overdrafts_cons _ _ r sides]
    simp [DirectiveUnit.asked]

theorem commitSides_meter (h : Sheet) (sides : List SideRecord) (s : State) :
    (s.commitSides h sides).meter =
      { s.meter with working := sides.foldl Totals.committed s.meter.working } := by
  induction sides generalizing s with
  | nil => rfl
  | cons r sides ih => rw [commitSides_cons, ih, commitSide_meter, List.foldl_cons]

/-- The record of the job that owns the sheet, if its slot holds one. -/
theorem commitSides_slots {slot : Nat} (owner : h.owner = .job slot) (sides : List SideRecord) (s : State) :
    (s.commitSides h sides).job.slots =
      tset s.job.slots slot ((s.jobAt slot).map fun j => sides.foldl JobRecord.committed j) := by
  induction sides generalizing s with
  | nil =>
    have same : tset s.job.slots slot (s.jobAt slot) = s.job.slots := tset_of_tget rfl
    simp [State.commitSides, same]
  | cons r sides ih =>
    rw [commitSides_cons, ih, commitSide_jobAt owner, commitSide_slots owner, tset_tset, Option.map_map]
    rfl

theorem commitSides_job_of_orphan (owner : h.owner = .orphan) (sides : List SideRecord) (s : State) :
    (s.commitSides h sides).job = s.job := by
  induction sides generalizing s with
  | nil => rfl
  | cons r sides ih => rw [commitSides_cons, ih, commitSide_job_of_orphan owner]

end Sides

end Sys2Proof.Machine
end

section
/-! ENG_SHEET: the oldest sheet leaves the queue with sides committed (R99 to R101). -/

namespace Sys2Proof.Machine

/-! ### The sheet at the meter unit (R101, R157) -/

theorem triggerBank_meter (s : State) (serial : Option SerialTag) :
    (s.triggerBank serial).meter = s.meter.triggered serial s.now := by
  unfold State.triggerBank MeterUnit.triggered
  cases bank : s.meter.bank with
  | none => rfl
  | some b => cases serial <;> simp [bank]

/-- A sheet counted: reaching 256 sheets since the last bank triggers one. -/
theorem countSheet_meter (s : State) :
    let m : MeterUnit :=
      { s.meter with
        working := { s.meter.working with sheets := min (2 ^ 64 - 1) (s.meter.working.sheets + 1) }
        sinceBank := min 65535 (s.meter.sinceBank + 1) }
    s.countSheet.meter = if s.meter.sinceBank + 1 = 256 then m.triggered none s.now else m := by
  simp only [State.countSheet]
  split
  · exact triggerBank_meter _ none
  · rfl

/-! ### The sheet delivered -/

section Delivered

variable {s : State} {h : Sheet} {rest : List Sheet} {sides : List SideRecord}

/-- The state after R100 and R101 on a sheet's sides, with the drain test of its job still to be made. -/
def State.sheetCounted (s : State) (h : Sheet) (sides : List SideRecord) : State :=
  ((s.commitSides h sides).setSheets (s.commitSides h sides).charging.sheets.tail).countSheet

theorem deliverSheet_eq (s : State) (h : Sheet) (sides : List SideRecord) :
    s.deliverSheet h sides = (s.sheetCounted h sides).drainOwner h.owner := rfl

theorem touches_sheetCounted (s : State) (h : Sheet) (sides : List SideRecord) :
    Touches [.charging, .account, .meter, .directive, .job] s (s.sheetCounted h sides) := by
  simp [State.sheetCounted]

/-- Of what the commits leave, the count of the sheet changes the queue and the meter unit alone. -/
theorem touches_sheetCounted_commitSides (s : State) (h : Sheet) (sides : List SideRecord) :
    Touches [.charging, .meter] (s.commitSides h sides) (s.sheetCounted h sides) := by
  simp [State.sheetCounted]

theorem sheetCounted_charging (queue : s.charging.sheets = h :: rest) :
    (s.sheetCounted h sides).charging = { s.charging with sheets := rest } := by
  have committed : Touches [.account, .directive, .job, .meter] s (s.commitSides h sides) := by simp
  have charging : (s.commitSides h sides).charging = s.charging := committed .charging (by simp)
  have counted (b : State) : Touches [.meter] b b.countSheet := by simp
  refine (counted _ .charging (by simp)).trans ?_
  rw [setSheets_charging, charging, queue]
  rfl

theorem sheetCounted_account (inside : h.account < 2048) (committed : sides ≠ []) :
    (s.sheetCounted h sides).account =
      { s.account with
        accounts := tset s.account.accounts h.account (sides.foldl Account.committed (s.accountAt h.account))
        pristine := false } := by
  rw [touches_sheetCounted_commitSides s h sides .account (by simp), commitSides_account inside,
    List.isEmpty_eq_false_iff.mpr committed, Bool.false_and]

theorem sheetCounted_directive (inside : h.account < 2048) (sides : List SideRecord) :
    (s.sheetCounted h sides).directive =
      s.directive.asked (Account.overdrafts h.account (s.accountAt h.account) sides) := by
  rw [touches_sheetCounted_commitSides s h sides .directive (by simp), commitSides_directive inside]

theorem sheetCounted_now (inside : h.account < 2048) (sides : List SideRecord) :
    (s.sheetCounted h sides).now = s.now :=
  State.asksOnly.now ⟨_, sheetCounted_directive inside sides⟩

theorem sheetCounted_meter (inside : h.account < 2048) (sides : List SideRecord) :
    let totals := sides.foldl Totals.committed s.meter.working
    let m : MeterUnit :=
      { s.meter with
        working := { totals with sheets := min (2 ^ 64 - 1) (totals.sheets + 1) }
        sinceBank := min 65535 (s.meter.sinceBank + 1) }
    (s.sheetCounted h sides).meter = if s.meter.sinceBank + 1 = 256 then m.triggered none s.now else m := by
  have now : (s.commitSides h sides).now = s.now := State.asksOnly.now ⟨_, commitSides_directive inside sides s⟩
  refine (countSheet_meter _).trans ?_
  simp only [setSheets_meter, commitSides_meter, ← now]
  rfl

theorem sheetCounted_slots {slot : Nat} (owner : h.owner = .job slot) (sides : List SideRecord) :
    (s.sheetCounted h sides).job.slots =
      tset s.job.slots slot ((s.jobAt slot).map fun j => sides.foldl JobRecord.committed j) := by
  rw [touches_sheetCounted_commitSides s h sides .job (by simp), commitSides_slots owner]

theorem sheetCounted_jobAt_same {slot : Nat} {j : JobRecord} (owner : h.owner = .job slot)
    (held : s.jobAt slot = some j) (sides : List SideRecord) :
    (s.sheetCounted h sides).jobAt slot = some (sides.foldl JobRecord.committed j) := by
  rw [State.jobAt, sheetCounted_slots owner, held]
  exact tget_tset_same _ _ (slot_lt_of_jobAt held)

theorem sheetCounted_jobAt_other {slot k : Nat} (owner : h.owner = .job slot) (sides : List SideRecord)
    (other : k ≠ slot) : (s.sheetCounted h sides).jobAt k = s.jobAt k := by
  rw [State.jobAt, sheetCounted_slots owner]
  exact tget_tset_other _ _ other

/-- Where no job owns the sheet, or the owner's slot is FREE, no job's record changes. -/
theorem sheetCounted_job_of_no_job (free : ∀ slot, h.owner = .job slot → s.jobAt slot = none)
    (sides : List SideRecord) : (s.sheetCounted h sides).job = s.job := by
  cases owner : h.owner with
  | orphan => rw [touches_sheetCounted_commitSides s h sides .job (by simp), commitSides_job_of_orphan owner]
  | job slot =>
    have slots := sheetCounted_slots (s := s) owner sides
    rw [free slot owner, Option.map_none, tset_of_tget (free slot owner)] at slots
    exact congrArg JobUnit.mk slots

/-- With no job to drain, the sheet's count is all there is. -/
theorem deliverSheet_of_no_job (free : ∀ slot, h.owner = .job slot → s.jobAt slot = none)
    (sides : List SideRecord) : s.deliverSheet h sides = s.sheetCounted h sides := by
  rw [deliverSheet_eq]
  cases owner : h.owner with
  | orphan => rfl
  | job slot =>
    refine drainTest_of_free ?_
    rw [jobAt_of_job_eq (sheetCounted_job_of_no_job free sides), free slot owner]

theorem touches_sheetCounted_of_no_job (free : ∀ slot, h.owner = .job slot → s.jobAt slot = none)
    (sides : List SideRecord) : Touches [.charging, .account, .meter, .directive] s (s.sheetCounted h sides) := by
  intro p out
  by_cases job : p = .job
  · subst job
    exact sheetCounted_job_of_no_job free sides
  · exact touches_sheetCounted s h sides p (by simp_all)

/-- The job that owns the sheet does not drain: the sheet's count is all there is. -/
theorem deliverSheet_of_not_drained {slot : Nat} {j : JobRecord} (owner : h.owner = .job slot)
    (held : s.jobAt slot = some j) (stays : ¬(sides.foldl JobRecord.committed j).drains) :
    s.deliverSheet h sides = s.sheetCounted h sides := by
  rw [deliverSheet_eq, owner]
  exact drainTest_of_not_drained (sheetCounted_jobAt_same owner held sides) stays

/-- The job that owns the sheet drains: its close completes (R55, R101). -/
theorem deliverSheet_of_drained {slot : Nat} {j : JobRecord} {c : Closing} (inside : h.account < 2048)
    (owner : h.owner = .job slot) (held : s.jobAt slot = some j)
    (phase : (sides.foldl JobRecord.committed j).phase = .closing c)
    (empty : (sides.foldl JobRecord.committed j).inQueue = 0) :
    (s.deliverSheet h sides).directive =
        (s.sheetCounted h sides).directive.handed
          ((sides.foldl JobRecord.committed j).closed slot c.summary c.parked .drained 0 0 s.now) ∧
      s.freesSlot (s.deliverSheet h sides) slot := by
  have left := sheetCounted_jobAt_same owner held sides
  have closes : s.deliverSheet h sides = (s.sheetCounted h sides).completeClose slot .drained 0 0 := by
    rw [deliverSheet_eq, owner]
    exact (drainTest_of_closing left phase).trans (if_pos empty)
  rw [closes]
  refine ⟨?unit, ?freed⟩
  case unit => rw [completeClose_directive left phase, sheetCounted_now inside]
  case freed =>
    exact freesSlot_congr (completeClose_freesSlot left phase .drained 0 0) (touches_sheetCounted s h sides) (by simp)
      (by simp) (fun _ => sheetCounted_jobAt_other owner sides) (touches_refl _ _)

/-- R99 to R101 at every part: the count of the sheet, the drain test of its owner, and the notices after. -/
theorem delivers_of_deliverSheet {u : State} {notices : List NoticeRequest} (queue : s.charging.sheets = h :: rest)
    (inside : h.account < 2048) (committed : sides ≠ []) (after : Touches [.directive] (s.deliverSheet h sides) u)
    (told : u.directive = (s.deliverSheet h sides).directive.asked notices) : s.delivers u h rest sides notices := by
  have unit := sheetCounted_directive (s := s) inside sides
  have drained : Touches [.directive, .job, .cipher, .transaction] (s.sheetCounted h sides) u :=
    Touches.trans_of_subset (by simp [deliverSheet_eq]) after (by simp)
  have stays : s.deliverSheet h sides = s.sheetCounted h sides →
      u.directive = s.directive.asked (Account.overdrafts h.account (s.accountAt h.account) sides ++ notices) := by
    intro same
    rw [told, same, unit]
    simp [DirectiveUnit.asked]
  have noJob (free : ∀ slot, h.owner = .job slot → s.jobAt slot = none) :
      u.directive = s.directive.asked (Account.overdrafts h.account (s.accountAt h.account) sides ++ notices) ∧
        s.changesOnly u [.charging, .account, .meter, .directive] := by
    have same := deliverSheet_of_no_job free sides
    rw [same] at after
    exact ⟨stays same, ((touches_sheetCounted_of_no_job free sides).trans_of_subset after (by simp)).changesOnly⟩
  refine ⟨?charging, ?account, ?meter, ?frame, ?owner⟩
  case charging => exact (drained .charging (by simp)).trans (sheetCounted_charging queue)
  case account => exact (drained .account (by simp)).trans (sheetCounted_account inside committed)
  case meter => exact (drained .meter (by simp)).trans (sheetCounted_meter inside sides)
  case frame =>
    exact (Touches.trans_of_subset (by simp) after (by simp)).changesOnly
  case owner =>
    intro asked
    split
    case h_1 orphan => exact noJob fun slot owner => by rw [orphan] at owner; cases owner
    case h_2 slot owner =>
      split
      case h_1 free => exact noJob fun slot' owner' => by rw [owner] at owner'; cases owner'; exact free
      case h_2 j held =>
        intro k
        split
        case h_1 c phase empty =>
          obtain ⟨handed, freed⟩ := deliverSheet_of_drained inside owner held phase empty
          refine ⟨?_, freesSlot_congr freed (touches_refl [] s) (by simp) (by simp) (fun _ _ => rfl) after⟩
          rw [told, handed, unit]
          simp [asked, DirectiveUnit.asked, DirectiveUnit.handed, k]
        case h_2 other =>
          have same : s.deliverSheet h sides = s.sheetCounted h sides :=
            deliverSheet_of_not_drained owner held fun ⟨closing, empty⟩ =>
              (closing_of_state closing).elim fun c phase => other c phase empty
          rw [same] at after
          refine ⟨stays same, ?_, ((touches_sheetCounted s h sides).trans_of_subset after (by simp)).changesOnly⟩
          rw [after .job (by simp), sheetCounted_slots owner, held]
          rfl

end Delivered

/-- A sheet is delivered by its owner and its account. -/
theorem deliverSheet_congr {g h : Sheet} (owner : g.owner = h.owner) (account : g.account = h.account) (s : State)
    (sides : List SideRecord) : s.deliverSheet g sides = s.deliverSheet h sides := by
  have commits : State.commitSide g = State.commitSide h := by
    funext b r
    rw [State.commitSide, State.commitSide, owner, account]
  rw [State.deliverSheet, State.deliverSheet, commits, owner]

/-! ### The pulse (R99) -/

theorem engSheet_of_queue {s : State} {h : Sheet} {rest : List Sheet} (queue : s.charging.sheets = h :: rest) :
    s.engSheet = s.sheetDelivered h := by
  rw [State.engSheet, queue]

/-- Settles O38, by the state of the oldest sheet. -/
theorem engineSheetCommitsTheOldestSheet : Obligations.EngineSheetCommitsTheOldestSheet := by
  refine ⟨?complete, ?awaitingBack, ?fillingBack, ?fillingFront, ?unexpected⟩
  case complete =>
    intro s h rest queue inside state
    have pulse : s.engSheet = s.deliverSheet h h.sides := by
      rw [engSheet_of_queue queue, State.sheetDelivered, state]
    refine ⟨_, rfl, delivers_of_deliverSheet queue inside (by simp) (pulse ▸ touches_refl _ _) ?_⟩
    rw [pulse, DirectiveUnit.asked, List.append_nil]
    rfl
  case awaitingBack =>
    intro s h rest queue inside state
    have pulse : s.engSheet =
        (s.deliverSheet h [h.front]).askNotice .sheetEarly
          (earlyValues h (s.ownerNumber h.owner) 1 h.front.charge) := by
      rw [engSheet_of_queue queue, State.sheetDelivered, state]
    exact ⟨_, rfl, delivers_of_deliverSheet queue inside (by simp) (by simp [pulse]) (by rw [pulse]; rfl)⟩
  case fillingBack =>
    intro s h g rest queue inside state left _ owner account
    have pulse : s.engSheet =
        ((s.abandon .earlySheet).deliverSheet g [h.front]).askNotice .sheetEarly
          (earlyValues h (s.ownerNumber h.owner) 1 h.front.charge) := by
      rw [engSheet_of_queue queue, State.sheetDelivered, state, deliverSheet_congr owner account]
    exact ⟨_, rfl, delivers_of_deliverSheet left (account ▸ inside) (by simp) (by simp [pulse])
      (by rw [pulse]; rfl)⟩
  case fillingFront =>
    intro s h rest queue state
    have pulse : s.engSheet =
        (s.abandon .earlySheet).askNotice .sheetEarly (earlyValues h (s.ownerNumber h.owner) 0 0) := by
      rw [engSheet_of_queue queue, State.sheetDelivered, state]
    refine ⟨_, rfl, by rw [pulse]; rfl, Touches.changesOnly ?_⟩
    simp [pulse]
  case unexpected =>
    intro s empty
    have pulse : s.engSheet = s.askNotice .sheetUnexpected [] := by rw [State.engSheet, empty]
    refine ⟨_, rfl, by rw [pulse]; rfl, Touches.changesOnly ?_⟩
    simp [pulse]

end Sys2Proof.Machine
end

section
/-! ENG_JAM: every sheet is dropped (R103, R104). -/

namespace Sys2Proof.Machine

variable {s : State}

/-! ### One sheet dropped (R103, R104) -/

/-- An account after a sheet of its queue has been dropped (R103). -/
def Account.dropped (a : Account) (h : Sheet) : Account :=
  { a with reserved := a.reserved - h.reserved, lifeJammed := satAdd top32 a.lifeJammed 1 }

/-- A job's record after one of its sheets has been dropped, its drain test apart (R49, R103). -/
def JobRecord.dropped (j : JobRecord) (h : Sheet) : JobRecord :=
  { j with inQueue := j.inQueue - h.sides.length, jammed := satAdd top32 j.jammed 1 }

/-- What a job slot holds after one of its sheets has been dropped and the drain test made (R103, R104). -/
def slotAfterDrop (slot : Option JobRecord) (h : Sheet) : Option JobRecord :=
  slot.bind fun j => (j.dropped h).unlessDrained

/-- The dropped sheet at its account and its job, with the drain test still to be made (R103). -/
def State.dropCounts (s : State) (h : Sheet) : State :=
  (s.dropAccount h.account h.reserved).dropJob h.owner h.sides.length

theorem dropSheet_eq (s : State) (h : Sheet) : s.dropSheet h = (s.dropCounts h).drainOwner h.owner := rfl

theorem touches_dropCounts (s : State) (h : Sheet) : Touches [.account, .job] s (s.dropCounts h) := by
  simp [State.dropCounts, State.dropAccount]

theorem jobAt_updateJob (s : State) (slot : Nat) (f : JobRecord → JobRecord) :
    (s.updateJob slot f).jobAt slot = (s.jobAt slot).map f := by
  cases held : s.jobAt slot with
  | some j => exact jobAt_updateJob_same f held
  | none =>
    rw [State.updateJob, held, State.jobAt, Option.map_none, setJob_job, tset_of_tget held]
    exact held

theorem dropCounts_jobAt (s : State) (h : Sheet) (slot : Nat) :
    (s.dropCounts h).jobAt slot =
      if h.owner = .job slot then (s.jobAt slot).map fun j => j.dropped h else s.jobAt slot := by
  cases owner : h.owner with
  | orphan =>
    simp only [State.dropCounts, owner, State.dropJob, reduceCtorEq, if_false]
    rfl
  | job k =>
    simp only [State.dropCounts, owner, State.dropJob, Owner.job.injEq]
    split
    · rename_i mine
      subst mine
      exact jobAt_updateJob _ _ _
    · rename_i other
      exact jobAt_updateJob_other _ _ (Ne.symm other)

theorem dropSheet_jobAt (s : State) (h : Sheet) (slot : Nat) :
    (s.dropSheet h).jobAt slot = if h.owner = .job slot then slotAfterDrop (s.jobAt slot) h else s.jobAt slot := by
  have counts := dropCounts_jobAt s h slot
  rw [dropSheet_eq]
  cases owner : h.owner with
  | orphan => exact counts.trans (by simp [owner])
  | job k =>
    rw [owner] at counts
    by_cases mine : k = slot
    · subst mine
      rw [if_pos rfl] at counts ⊢
      rw [State.drainOwner, drainTest_jobAt_same, counts, slotAfterDrop, Option.bind_map]
      rfl
    · have other : ¬Owner.job k = .job slot := by simpa using mine
      rw [if_neg other] at counts ⊢
      rw [State.drainOwner, drainTest_jobAt_other (Ne.symm mine), counts]

theorem dropSheet_accountAt {i : Nat} (inside : i < 2048) (s : State) (h : Sheet) :
    (s.dropSheet h).accountAt i = if h.account = i then (s.accountAt i).dropped h else s.accountAt i := by
  have after : Touches [.job, .transaction, .cipher, .directive] (s.dropAccount h.account h.reserved)
      (s.dropSheet h) := by simp [State.dropSheet]
  rw [State.accountAt, after .account (by simp)]
  split
  · rename_i mine
    subst mine
    exact tget_tset_same _ _ inside
  · rename_i other
    exact tget_tset_other _ _ (Ne.symm other)

theorem erasedIfFree_dropSheet {k : Nat} (h : Sheet) (erased : s.erasedIfFree k) : (s.dropSheet h).erasedIfFree k := by
  have counts : (s.dropCounts h).erasedIfFree k := by
    intro free
    rw [touches_dropCounts s h .cipher (by simp)]
    refine erased ?_
    rw [dropCounts_jobAt] at free
    split at free
    · exact Option.map_eq_none_iff.mp free
    · exact free
  rw [dropSheet_eq]
  cases h.owner with
  | orphan => exact counts
  | job slot => exact erasedIfFree_drainTest slot counts

theorem handsOnly_dropSheet (s : State) (h : Sheet) : s.handsOnly (s.dropSheet h) := by
  have counts : s.handsOnly (s.dropCounts h) := handsOnly_of_eq (touches_dropCounts s h .directive (by simp))
  rw [dropSheet_eq]
  cases h.owner with
  | orphan => exact counts
  | job slot => exact counts.trans (handsOnly_drainTest _ slot)

/-! ### Every sheet dropped -/

theorem dropSheets_jobAt (sheets : List Sheet) (s : State) (slot : Nat) :
    (sheets.foldl State.dropSheet s).jobAt slot =
      (sheets.filter fun h => decide (h.owner = .job slot)).foldl slotAfterDrop (s.jobAt slot) := by
  induction sheets generalizing s with
  | nil => rfl
  | cons h sheets ih =>
    rw [List.foldl_cons, ih, dropSheet_jobAt]
    by_cases mine : h.owner = .job slot <;> simp [mine]

theorem dropSheets_accountAt {i : Nat} (inside : i < 2048) (sheets : List Sheet) (s : State) :
    (sheets.foldl State.dropSheet s).accountAt i =
      (sheets.filter fun h => h.account == i).foldl Account.dropped (s.accountAt i) := by
  induction sheets generalizing s with
  | nil => rfl
  | cons h sheets ih =>
    rw [List.foldl_cons, ih, dropSheet_accountAt inside]
    by_cases mine : h.account = i <;> simp [mine]

theorem erasedIfFree_dropSheets {k : Nat} (sheets : List Sheet) (erased : s.erasedIfFree k) :
    (sheets.foldl State.dropSheet s).erasedIfFree k := by
  induction sheets generalizing s with
  | nil => exact erased
  | cons h sheets ih => exact ih (erasedIfFree_dropSheet h erased)

theorem handsOnly_dropSheets (sheets : List Sheet) (s : State) : s.handsOnly (sheets.foldl State.dropSheet s) := by
  induction sheets generalizing s with
  | nil => exact handsOnly_of_eq rfl
  | cons h sheets ih => exact (handsOnly_dropSheet s h).trans (ih _)

/-! ### What the drops come to -/

/-- Reservations fall by their sum, and each sheet is counted up to the top. -/
theorem foldl_dropped (h : Sheet) (sheets : List Sheet) (a : Account) :
    (h :: sheets).foldl Account.dropped a =
      { a with
        reserved := a.reserved - ((h :: sheets).map Sheet.reserved).sum
        lifeJammed := min top32 (a.lifeJammed + (h :: sheets).length) } := by
  induction sheets generalizing h a with
  | nil => simp [Account.dropped, satAdd]
  | cons g sheets ih =>
    have jammed : min top32 (min top32 (a.lifeJammed + 1) + (sheets.length + 1)) =
        min top32 (a.lifeJammed + (sheets.length + 1 + 1)) := by omega
    rw [List.foldl_cons, ih]
    simp [Account.dropped, satAdd, jammed, Nat.sub_sub]

theorem foldl_slotAfterDrop_none (sheets : List Sheet) : sheets.foldl slotAfterDrop none = none := by
  induction sheets with
  | nil => rfl
  | cons h sheets ih => exact ih

theorem slotAfterDrop_of_drains {j : JobRecord} {h : Sheet} (drains : (j.dropped h).drains) :
    slotAfterDrop (some j) h = none :=
  if_pos drains

theorem slotAfterDrop_of_stays {j : JobRecord} {h : Sheet} (stays : ¬(j.dropped h).drains) :
    slotAfterDrop (some j) h = some (j.dropped h) :=
  if_neg stays

/-- A CLOSING job drains at the first drop that leaves it no side, which is so exactly where all of them leave none. -/
theorem foldl_slotAfterDrop (h : Sheet) (sheets : List Sheet) (j : JobRecord) :
    let left := j.inQueue - ((h :: sheets).map fun h => h.sides.length).sum
    (h :: sheets).foldl slotAfterDrop (some j) =
      if j.phase.state = .closing ∧ left = 0 then none
      else some { j with inQueue := left, jammed := min top32 (j.jammed + (h :: sheets).length) } := by
  induction sheets generalizing h j with
  | nil =>
    have one : j.dropped h =
        { j with
          inQueue := j.inQueue - ([h].map fun h => h.sides.length).sum
          jammed := min top32 (j.jammed + [h].length) } := by simp [JobRecord.dropped, satAdd]
    intro left
    show (j.dropped h).unlessDrained = _
    rw [one]
    rfl
  | cons g sheets ih =>
    intro left
    have rest : (j.dropped h).inQueue - ((g :: sheets).map fun h => h.sides.length).sum = left := by
      simp [left, JobRecord.dropped, Nat.sub_sub]
    rw [List.foldl_cons]
    by_cases drains : (j.dropped h).drains
    · have emptied : left = 0 := by rw [← rest, drains.2, Nat.zero_sub]
      rw [slotAfterDrop_of_drains drains, foldl_slotAfterDrop_none, if_pos ⟨drains.1, emptied⟩]
    · have jammed : min top32 (min top32 (j.jammed + 1) + (sheets.length + 1)) =
          min top32 (j.jammed + (sheets.length + 1 + 1)) := by omega
      rw [slotAfterDrop_of_stays drains, ih, rest]
      simp [JobRecord.dropped, satAdd, jammed]

/-- Each account after the drops: only sheets that name it change it (R103). -/
theorem dropSheets_account {i : Nat} (inside : i < 2048) (sheets : List Sheet) (s : State) :
    let mine := sheets.filter fun h => h.account == i
    (sheets.foldl State.dropSheet s).accountAt i =
      if mine = [] then s.accountAt i
      else
        { s.accountAt i with
          reserved := (s.accountAt i).reserved - (mine.map Sheet.reserved).sum
          lifeJammed := min top32 ((s.accountAt i).lifeJammed + mine.length) } := by
  intro mine
  refine (dropSheets_accountAt inside sheets s).trans ?_
  show mine.foldl Account.dropped (s.accountAt i) = _
  cases mine with
  | nil => rfl
  | cons h rest => rw [foldl_dropped, if_neg (by simp)]

/-- Each job after the drops: only sheets that it owns change it, and one that drains is gone with its key (R103,
R104). -/
theorem dropSheets_job {slot : Nat} {j : JobRecord} (sheets : List Sheet) (held : s.jobAt slot = some j) :
    let mine := sheets.filter fun h => decide (h.owner = .job slot)
    let left := j.inQueue - (mine.map fun h => h.sides.length).sum
    let t := sheets.foldl State.dropSheet s
    if mine = [] then t.jobAt slot = some j
    else if j.phase.state = .closing ∧ left = 0 then
      t.jobAt slot = none ∧ (tget t.cipher.keys slot : Option KeyEntry) = none
    else t.jobAt slot = some { j with inQueue := left, jammed := min top32 (j.jammed + mine.length) } := by
  intro mine left t
  have slots : t.jobAt slot = mine.foldl slotAfterDrop (some j) := by
    rw [← held]
    exact dropSheets_jobAt sheets s slot
  have erased : t.erasedIfFree slot := erasedIfFree_dropSheets sheets fun free => by cases free.symm.trans held
  split
  · rename_i untouched
    rw [slots, untouched]
    rfl
  · rename_i touched
    obtain ⟨h, rest, listed⟩ := List.exists_cons_of_ne_nil touched
    rw [listed, foldl_slotAfterDrop, ← listed] at slots
    split
    · rename_i drains
      have free := slots.trans (if_pos drains)
      exact ⟨free, erased free⟩
    · rename_i stays
      exact slots.trans (if_neg stays)

/-- Settles O39, by what the drops come to at each account and at each job slot. -/
theorem engineJamDropsEverySheet : Obligations.EngineJamDropsEverySheet := by
  constructor
  · intro s closed
    have pulse : s.engJam =
        (s.charging.sheets.foldl State.dropSheet (s.setSheets [])).askNotice .jam (jamValues s.charging.sheets) := by
      rw [State.engJam, abandon_of_closed _ closed]
    refine ⟨_, rfl, ?_⟩
    rw [pulse]
    intro sheets
    have length : (fun h : Sheet => 1 + h.back.toList.length) = fun h => h.sides.length :=
      funext fun h => Nat.add_comm _ _
    rw [length]
    have dropped : Touches [.transaction, .cipher, .directive, .job, .account] (s.setSheets [])
        (sheets.foldl State.dropSheet (s.setSheets [])) :=
      (touches_foldl fun a h => touches_dropSheet h (by simp) (by simp) (by simp) (by simp) (by simp)).mpr
        (touches_refl _ _)
    refine ⟨dropped .charging (by simp), fun i inside => ?accounts, fun slot _ j held => ?jobs, ?unit, ?frame⟩
    case accounts => exact dropSheets_account inside sheets (s.setSheets [])
    case jobs => exact dropSheets_job (s := s.setSheets []) sheets held
    case unit =>
      obtain ⟨items, handed⟩ := handsOnly_dropSheets sheets (s.setSheets [])
      rw [askNotice_directive, handed]
      rfl
    case frame =>
      exact ((touches_askNotice _ _ (by simp)).mpr
        (Touches.trans_of_subset (by simp) dropped (by simp))).changesOnly
  · intro s o _
    show Host.Outcome.next s.engJam = .next (s.abandon .jam).engJam
    rw [State.engJam, State.engJam, abandon_of_closed _ (abandon_openSide s .jam)]

end Sys2Proof.Machine
end

section
/-! The ledger (R41, R85, R94, R112 to R115): what the account law speaks of, apart from the rest of the state, and the
law as it is said there. -/

namespace Sys2Proof.Machine

/-! ### Sums over the sheet queue -/

/-- What the sheets of a queue reserve at an account (R115). -/
def reservedOn (sheets : List Sheet) (i : Nat) : Nat :=
  ((sheets.filter fun h => h.account == i).map Sheet.reserved).sum

/-- How many sides the sheets of a queue hold for a job slot (R49). -/
def sidesOf (sheets : List Sheet) (slot : Nat) : Nat :=
  ((sheets.filter fun h => h.owner == .job slot).map fun h => h.sides.length).sum

@[simp] theorem reservedOn_nil (i : Nat) : reservedOn [] i = 0 := rfl

@[simp] theorem sidesOf_nil (slot : Nat) : sidesOf [] slot = 0 := rfl

@[simp] theorem reservedOn_cons (h : Sheet) (sheets : List Sheet) (i : Nat) :
    reservedOn (h :: sheets) i = (if h.account = i then h.reserved else 0) + reservedOn sheets i := by
  by_cases mine : h.account = i <;> simp [reservedOn, mine]

@[simp] theorem sidesOf_cons (h : Sheet) (sheets : List Sheet) (slot : Nat) :
    sidesOf (h :: sheets) slot = (if h.owner = .job slot then h.sides.length else 0) + sidesOf sheets slot := by
  by_cases mine : h.owner = .job slot <;> simp [sidesOf, mine]

@[simp] theorem reservedOn_append (l m : List Sheet) (i : Nat) :
    reservedOn (l ++ m) i = reservedOn l i + reservedOn m i := by
  simp [reservedOn]

@[simp] theorem sidesOf_append (l m : List Sheet) (slot : Nat) :
    sidesOf (l ++ m) slot = sidesOf l slot + sidesOf m slot := by
  simp [sidesOf]

/-- An account that no sheet names has nothing reserved. -/
theorem reservedOn_eq_zero {sheets : List Sheet} {i : Nat} (h : ∀ g ∈ sheets, g.account ≠ i) :
    reservedOn sheets i = 0 := by
  have none : sheets.filter (fun g => g.account == i) = [] := by simpa using h
  simp [reservedOn, none]

/-- A slot without sides in the queue owns no sheet: every sheet has a front side (R94). -/
theorem owner_ne_of_sidesOf {sheets : List Sheet} {slot : Nat} (h : sidesOf sheets slot = 0) {g : Sheet}
    (listed : g ∈ sheets) : g.owner ≠ .job slot := by
  intro mine
  obtain ⟨pre, post, rfl⟩ := List.append_of_mem listed
  simp [mine, Sheet.sides] at h

theorem sidesOf_eq_zero {sheets : List Sheet} {slot : Nat} (h : ∀ g ∈ sheets, g.owner ≠ .job slot) :
    sidesOf sheets slot = 0 := by
  have none : sheets.filter (fun g => g.owner == .job slot) = [] := by simpa using h
  simp [sidesOf, none]

/-- The owner of a sheet is no part of what it reserves. -/
theorem reservedOn_map (f : Sheet → Sheet) (account : ∀ h, (f h).account = h.account)
    (reserved : ∀ h, (f h).reserved = h.reserved) (sheets : List Sheet) (i : Nat) :
    reservedOn (sheets.map f) i = reservedOn sheets i := by
  induction sheets with
  | nil => rfl
  | cons h sheets ih => simp [ih, account, reserved]

/-! ### The ledger -/

/-- What the account law reads of a job: its account and its sides in queue (R41). -/
structure JobLine where
  account : Nat
  inQueue : Nat

/-- What the account law speaks of: the accounts and the pristine flag, the sheet queue with the next sheet's name, the
tariff classes, the jobs and the open side. -/
@[ext] structure Ledger where
  account   : Nat → Account
  pristine  : Bool
  sheets    : List Sheet
  nextSheet : Nat
  tariff    : Nat → Tariff
  job       : Nat → Option JobLine
  side      : Option OpenSide

/-- A job in the ledger. -/
def JobRecord.line (j : JobRecord) : JobLine := { account := j.account, inQueue := j.inQueue }

/-- The ledger of a state. -/
def State.ledger (s : State) : Ledger :=
  { account := s.accountAt
    pristine := s.account.pristine
    sheets := s.charging.sheets
    nextSheet := s.charging.nextSheet
    tariff := s.tariff
    job := fun slot => (s.jobAt slot).map JobRecord.line
    side := s.parser.openSide }

/-- R112 and R114 at one account, by what the account itself holds. -/
structure Account.Sound (a : Account) : Prop where
  prepaid   : a.mode = .prepaid → 0 ≤ a.balance - a.reserved
  credit    : a.mode = .credit → -(a.creditLimit : Int) ≤ a.balance - a.reserved
  unmetered : a.mode = .unmetered → a.reserved = 0
  low       : -1000000 ≤ a.balance
  high      : a.balance ≤ 2000000000
  limit     : a.creditLimit ≤ 1000000
  unused    : a.state = .unused → a = .unused a.generation

/-- A sheet in order: its sides are covered, a back side stands only in FILLING_BACK and COMPLETE, its account is in
use, and its owner is a job that names that account (R94). -/
structure Ledger.Holds (L : Ledger) (h : Sheet) : Prop where
  covered  : ∀ r ∈ h.sides, r.covered
  unbacked : h.state = .fillingFront ∨ h.state = .awaitingBack → h.back = none
  backed   : h.state = .fillingBack → h.back ≠ none
  named    : h.name < L.nextSheet
  inside   : h.account < 2048
  inUse    : (L.account h.account).state ≠ .unused
  job      : ∀ slot, h.owner = .job slot → (L.job slot).map JobLine.account = some h.account
  orphan   : h.owner = .orphan → h.state = .awaitingBack ∨ h.state = .complete

/-- The books of a ledger: all of the account law but the agreement of the sheet queue with the open side. -/
structure Ledger.Books (L : Ledger) : Prop where
  reserved : ∀ i < 2048, (L.account i).reserved = reservedOn L.sheets i
  sound    : ∀ i < 2048, (L.account i).Sound
  names    : (L.sheets.map Sheet.name).Nodup
  holds    : ∀ h ∈ L.sheets, L.Holds h
  jobs     : ∀ slot j, L.job slot = some j →
    j.account < 2048 ∧ (L.account j.account).state ≠ .unused ∧ j.inQueue = sidesOf L.sheets slot
  tariff   : ∀ c, (L.tariff c).mono ≤ (L.tariff c).colour
  pristine : L.pristine = true → ∀ i < 2048, L.account i = .unused 0

/-- A sheet is the one that an open side fills (R85, R94). -/
structure Sheet.FilledBy (h : Sheet) (o : OpenSide) : Prop where
  name  : h.name = o.sheet
  owner : h.owner = .job o.slot
  state : h.state = if o.kind = .back then .fillingBack else .fillingFront
  side  : ∃ r, h.filling = some r ∧ r.mask = o.mask ∧ r.reservation = o.reservation

/-- The sheet queue and the open side agree (R85, R94). -/
structure Ledger.SideAgrees (L : Ledger) : Prop where
  colours : ∀ o, L.side = some o → hasColour o.mask = false → o.dots.colour = 0
  filled  : ∀ o, L.side = some o → ∃ h ∈ L.sheets, h.FilledBy o
  only    : ∀ h ∈ L.sheets, h.filling ≠ none → ∃ o, L.side = some o ∧ h.name = o.sheet

/-- A region takes a side of a mask: it is a PAGE region, and a payload that stands there is of a plane of the mask
(R82). -/
def Region.admits (r : Region) (mask : PlaneMask) : Prop :=
  match r.body with
  | .page (.inPayload _ plane) _ => hasPlane mask plane = true
  | .page _ _ => True
  | .scan _ => False

/-- The region of the open side is its job's, and takes it (R82, R85). -/
def State.sideFramed (s : State) : Prop :=
  ∀ o, s.parser.openSide = some o → ∃ r, s.region o.region = some r ∧ r.slot = o.slot ∧ r.admits o.mask

/-! ### The law of the part by its ledger -/

theorem accountLawful_iff (s : State) (i : Nat) :
    s.accountLawful i ↔ (s.ledger.account i).reserved = reservedOn s.ledger.sheets i ∧ (s.ledger.account i).Sound := by
  constructor
  · rintro ⟨reserved, prepaid, credit, unmetered, low, high, limit, unused⟩
    exact ⟨reserved, prepaid, credit, unmetered, low, high, limit, unused⟩
  · rintro ⟨reserved, prepaid, credit, unmetered, low, high, limit, unused⟩
    exact ⟨reserved, prepaid, credit, unmetered, low, high, limit, unused⟩

theorem ledger_job_account (s : State) (slot : Nat) :
    (s.ledger.job slot).map JobLine.account = (s.jobAt slot).map JobRecord.account :=
  Option.map_map ..

theorem slot_lt_of_ledger_job {s : State} {slot : Nat} {j : JobLine} (h : s.ledger.job slot = some j) : slot < 32 := by
  obtain ⟨_, held, _⟩ := Option.map_eq_some_iff.mp h
  exact slot_lt_of_jobAt held

theorem holdsSheet_iff (s : State) (h : Sheet) : s.holdsSheet h ↔ s.ledger.Holds h := by
  constructor
  · rintro ⟨covered, unbacked, backed, named, inside, inUse, owner⟩
    refine ⟨covered, unbacked, backed, named, inside, inUse, fun slot mine => ?_, fun free => ?_⟩
    · rw [mine] at owner
      exact (ledger_job_account s slot).trans owner.2
    · rw [free] at owner
      exact owner
  · rintro ⟨covered, unbacked, backed, named, inside, inUse, job, orphan⟩
    refine ⟨covered, unbacked, backed, named, inside, inUse, ?_⟩
    split
    · rename_i slot mine
      have account := (ledger_job_account s slot).symm.trans (job slot mine)
      obtain ⟨_, held, _⟩ := Option.map_eq_some_iff.mp account
      exact ⟨slot_lt_of_jobAt held, account⟩
    · exact orphan ‹_›

theorem sheetsAgree_iff (s : State) :
    s.sheetsAgree ↔
      (s.ledger.sheets.map Sheet.name).Nodup ∧ (∀ h ∈ s.ledger.sheets, s.ledger.Holds h) ∧ s.ledger.SideAgrees ∧
        s.sideFramed := by
  unfold State.sheetsAgree
  simp only [holdsSheet_iff]
  refine and_congr_right' (and_congr_right' ?_)
  cases side : s.parser.openSide with
  | none =>
    constructor
    · intro none
      refine ⟨⟨fun o mine => ?_, fun o mine => ?_, fun h listed fills => absurd (none h listed) fills⟩,
        fun o mine => ?_⟩ <;> cases side.symm.trans mine
    · rintro ⟨agrees, -⟩ h listed
      by_contra fills
      obtain ⟨o, mine, _⟩ := agrees.only h listed fills
      cases side.symm.trans mine
  | some o =>
    constructor
    · rintro ⟨⟨colours, ⟨h, listed, name, owner, state, fills⟩, framed⟩, only⟩
      refine ⟨⟨fun p mine => ?_, fun p mine => ?_, fun g there gFills => ⟨o, side, only g there gFills⟩⟩,
        fun p mine => ?_⟩ <;> cases side.symm.trans mine
      · exact colours
      · exact ⟨h, listed, name, owner, state, fills⟩
      · exact framed
    · rintro ⟨agrees, framed⟩
      obtain ⟨h, listed, name, owner, state, fills⟩ := agrees.filled o side
      refine ⟨⟨agrees.colours o side, ⟨h, listed, name, owner, state, fills⟩, framed o side⟩, fun g there gFills => ?_⟩
      obtain ⟨p, mine, named⟩ := agrees.only g there gFills
      cases side.symm.trans mine
      exact named

/-- The account law of the part is that of its ledger, with the framing of the open side's region. -/
theorem ledgerBalanced_iff (s : State) :
    s.ledgerBalanced ↔ s.ledger.Books ∧ s.ledger.SideAgrees ∧ s.sideFramed := by
  unfold State.ledgerBalanced
  simp only [accountLawful_iff, sheetsAgree_iff]
  constructor
  · rintro ⟨accounts, ⟨names, holds, side, framed⟩, jobs, tariff, pristine⟩
    refine ⟨⟨fun i inside => (accounts i inside).1, fun i inside => (accounts i inside).2, names, holds,
      fun slot line job => ?_, fun c => ?_, pristine⟩, side, framed⟩
    · obtain ⟨j, held, rfl⟩ := Option.map_eq_some_iff.mp job
      exact jobs slot (slot_lt_of_jobAt held) j held
    · by_cases inside : c < 8
      · exact tariff c inside
      · have beyond : s.tariff c = default := dif_neg inside
        exact le_of_eq_of_le (congrArg Tariff.mono beyond) (Nat.zero_le _)
  · rintro ⟨books, side, framed⟩
    refine ⟨fun i inside => ⟨books.reserved i inside, books.sound i inside⟩, ⟨books.names, books.holds, side, framed⟩,
      fun slot _ j held => ?_, fun c _ => books.tariff c, books.pristine⟩
    exact books.jobs slot j.line (congrArg (Option.map JobRecord.line) held)

end Sys2Proof.Machine
end

section
/-! The ledger under a change of some sheets together with what their accounts reserve and their jobs count (R113 to
R115). -/

namespace Sys2Proof.Machine

variable {L M : Ledger}

/-! ### What the law keeps of a change -/

/-- A sheet or a job of the ledger names an account. -/
def Ledger.Names (L : Ledger) (i : Nat) : Prop :=
  (∃ h ∈ L.sheets, h.account = i) ∨ ∃ slot j, L.job slot = some j ∧ j.account = i

/-- What a ledger changed keeps for its sheets and jobs: their accounts stay in use, no job changes its account, and
names given stay given. -/
structure Ledger.Carries (L M : Ledger) : Prop where
  counter  : L.nextSheet ≤ M.nextSheet
  inUse    : ∀ i, L.Names i → (M.account i).state ≠ .unused
  account  : ∀ slot, (M.job slot).map JobLine.account = (L.job slot).map JobLine.account
  tariff   : M.tariff = L.tariff
  pristine : M.pristine = true → L.pristine = true ∧ M.account = L.account

/-- Some sheets of the queue are replaced by others: an account reserves the more and the less by what these reserve,
and a job counts the more and the less of their sides. -/
structure Ledger.Rebooks (L M : Ledger) (old new : List Sheet) : Prop extends L.Carries M where
  queue    : ∃ pre post, L.sheets = pre ++ old ++ post ∧ M.sheets = pre ++ new ++ post
  names    : (M.sheets.map Sheet.name).Nodup
  held     : ∀ h ∈ new, M.Holds h
  sound    : ∀ i < 2048, (M.account i).Sound
  reserved : ∀ i < 2048, (M.account i).reserved + reservedOn old i = (L.account i).reserved + reservedOn new i
  inQueue  : ∀ slot j' j, M.job slot = some j' → L.job slot = some j →
    j'.inQueue + sidesOf old slot = j.inQueue + sidesOf new slot

/-- What is named stands in use. -/
theorem Ledger.Books.inUse (books : L.Books) {i : Nat} (named : L.Names i) : (L.account i).state ≠ .unused := by
  obtain ⟨h, listed, rfl⟩ | ⟨slot, j, job, rfl⟩ := named
  · exact (books.holds h listed).inUse
  · exact (books.jobs slot j job).2.1

theorem Ledger.Carries.holds {h : Sheet} (c : L.Carries M) (holds : L.Holds h) (listed : h ∈ L.sheets) : M.Holds h where
  covered := holds.covered
  unbacked := holds.unbacked
  backed := holds.backed
  named := lt_of_lt_of_le holds.named c.counter
  inside := holds.inside
  inUse := c.inUse _ (.inl ⟨h, listed, rfl⟩)
  job slot mine := (c.account slot).trans (holds.job slot mine)
  orphan := holds.orphan

/-- A job that stands was there before, with its account. -/
theorem Ledger.Carries.job {slot : Nat} {j : JobLine} (c : L.Carries M) (job : M.job slot = some j) :
    ∃ j₀, L.job slot = some j₀ ∧ j₀.account = j.account := by
  have account := c.account slot
  rw [job] at account
  exact Option.map_eq_some_iff.mp account.symm

/-- The books stay in order where sheets are replaced with what is reserved and counted for them. -/
theorem Ledger.Books.rebook {old new : List Sheet} (books : L.Books) (r : L.Rebooks M old new) : M.Books := by
  obtain ⟨pre, post, before, after⟩ := r.queue
  refine ⟨fun i inside => ?reserved, r.sound, r.names, fun h listed => ?holds, fun slot j job => ?jobs, ?tariff,
    fun pristine => ?pristine⟩
  case reserved =>
    have was := books.reserved i inside
    have moved := r.reserved i inside
    rw [before] at was
    rw [after]
    simp only [reservedOn_append] at was ⊢
    omega
  case holds =>
    rw [after, List.append_assoc, List.mem_append, List.mem_append] at listed
    by_cases fresh : h ∈ new
    · exact r.held h fresh
    · have stayed : h ∈ L.sheets := by
        rw [before]
        simp only [List.mem_append]
        tauto
      exact r.toCarries.holds (books.holds h stayed) stayed
  case jobs =>
    obtain ⟨j₀, job₀, same⟩ := r.toCarries.job job
    obtain ⟨inside, -, counted⟩ := books.jobs slot j₀ job₀
    have moved := r.inQueue slot j j₀ job job₀
    refine ⟨same ▸ inside, r.inUse _ (.inr ⟨slot, j₀, job₀, same⟩), ?_⟩
    rw [before] at counted
    rw [after]
    simp only [sidesOf_append] at counted ⊢
    omega
  case tariff => exact r.tariff ▸ books.tariff
  case pristine =>
    obtain ⟨was, same⟩ := r.pristine pristine
    exact same ▸ books.pristine was

/-- Account records change, with their reservations kept: the sheets and the jobs stay in order. -/
theorem Ledger.Books.accounts (books : L.Books) {account : Nat → Account} {pristine : Bool}
    (inUse : ∀ i, L.Names i → (account i).state ≠ .unused) (sound : ∀ i < 2048, (account i).Sound)
    (reserved : ∀ i < 2048, (account i).reserved = (L.account i).reserved)
    (same : pristine = true → L.pristine = true ∧ account = L.account) :
    ({ L with account := account, pristine := pristine } : Ledger).Books :=
  books.rebook (old := []) (new := [])
    { counter := le_rfl
      inUse := inUse
      account := fun _ => rfl
      tariff := rfl
      pristine := same
      queue := ⟨L.sheets, [], by simp, by simp⟩
      names := books.names
      held := nofun
      sound := sound
      reserved := fun i inside => by rw [reserved i inside]
      inQueue := fun slot j' j job' job => by rw [Option.some.inj (job'.symm.trans job)] }

/-- One account record changes to a lawful one that reserves as much. -/
theorem Ledger.Books.setAccount (books : L.Books) {i : Nat} {a : Account} (sound : i < 2048 → a.Sound)
    (reserved : a.reserved = (L.account i).reserved) (inUse : L.Names i → a.state ≠ .unused) :
    ({ L with account := Function.update L.account i a, pristine := false } : Ledger).Books := by
  refine books.accounts (fun k named => ?_) (fun k inside => ?_) (fun k inside => ?_) nofun <;>
    rcases eq_or_ne k i with rfl | other
  · simpa using inUse named
  · simpa [other] using books.inUse named
  · simpa using sound inside
  · simpa [other] using books.sound k inside
  · simpa using reserved
  · simp [other]

/-! ### Slots freed and taken -/

/-- A slot that owns no sheet becomes FREE. -/
theorem Ledger.Books.freeSlot (books : L.Books) {slot : Nat} (unowned : ∀ h ∈ L.sheets, h.owner ≠ .job slot) :
    ({ L with job := Function.update L.job slot none } : Ledger).Books where
  reserved := books.reserved
  sound := books.sound
  names := books.names
  holds h listed :=
    { books.holds h listed with
      job := fun k mine => by
        have other : k ≠ slot := by
          rintro rfl
          exact unowned h listed mine
        simpa [other] using (books.holds h listed).job k mine }
  jobs k j job := by
    rcases eq_or_ne k slot with rfl | other
    · simp at job
    · exact books.jobs k j (by simpa [other] using job)
  tariff := books.tariff
  pristine := books.pristine

/-- A job without sides takes a FREE slot, for an account in use (R45). -/
theorem Ledger.Books.takeSlot (books : L.Books) {slot account : Nat} (free : L.job slot = none)
    (inside : account < 2048) (inUse : (L.account account).state ≠ .unused) :
    ({ L with job := Function.update L.job slot (some ⟨account, 0⟩) } : Ledger).Books := by
  have unowned (h : Sheet) (listed : h ∈ L.sheets) : h.owner ≠ .job slot := by
    intro mine
    have job := (books.holds h listed).job slot mine
    rw [free] at job
    cases job
  refine { books with holds := fun h listed => { books.holds h listed with job := fun k mine => ?_ }, jobs := ?_ }
  · have other : k ≠ slot := by
      rintro rfl
      exact unowned h listed mine
    simpa [other] using (books.holds h listed).job k mine
  · intro k j job
    rcases eq_or_ne k slot with rfl | other
    · have taken : j = ⟨account, 0⟩ := by simpa using job.symm
      subst taken
      exact ⟨inside, inUse, (sidesOf_eq_zero unowned).symm⟩
    · exact books.jobs k j (by simpa [other] using job)

/-- A sheet as it stands when the slots of a set lose their jobs: it is ORPHAN where one of them owned it (R105). -/
def Sheet.orphaned (freed : Nat → Bool) (h : Sheet) : Sheet :=
  match h.owner with
  | .job slot => if freed slot then { h with owner := .orphan } else h
  | .orphan => h

theorem orphaned_eq (freed : Nat → Bool) (h : Sheet) :
    (h.orphaned freed = h ∧ ∀ slot, h.owner = .job slot → freed slot = false) ∨
      h.orphaned freed = { h with owner := .orphan } ∧ ∃ slot, h.owner = .job slot ∧ freed slot = true := by
  unfold Sheet.orphaned
  cases owner : h.owner with
  | orphan => exact .inl ⟨rfl, nofun⟩
  | job slot =>
    cases mine : freed slot with
    | true => exact .inr ⟨by simp [mine], slot, rfl, mine⟩
    | false => exact .inl ⟨by simp [mine], fun k same => by cases same; exact mine⟩

/-- Of a sheet that becomes ORPHAN the owner alone changes. -/
theorem orphaned_kept (freed : Nat → Bool) (h : Sheet) :
    (h.orphaned freed).name = h.name ∧ (h.orphaned freed).account = h.account ∧
      (h.orphaned freed).state = h.state ∧ (h.orphaned freed).front = h.front ∧ (h.orphaned freed).back = h.back := by
  rcases orphaned_eq freed h with ⟨e, -⟩ | ⟨e, -⟩ <;> simp [e]

theorem orphaned_sides (freed : Nat → Bool) (h : Sheet) : (h.orphaned freed).sides = h.sides := by
  obtain ⟨-, -, -, front, back⟩ := orphaned_kept freed h
  rw [Sheet.sides, front, back, Sheet.sides]

theorem orphaned_filling (freed : Nat → Bool) (h : Sheet) : (h.orphaned freed).filling = h.filling := by
  obtain ⟨-, -, state, front, back⟩ := orphaned_kept freed h
  rw [Sheet.filling, state, front, back, Sheet.filling]

theorem sidesOf_orphaned {freed : Nat → Bool} {slot : Nat} (stays : freed slot = false) (sheets : List Sheet) :
    sidesOf (sheets.map (Sheet.orphaned freed)) slot = sidesOf sheets slot := by
  induction sheets with
  | nil => rfl
  | cons h sheets ih =>
    rw [List.map_cons, sidesOf_cons, sidesOf_cons, ih, orphaned_sides]
    rcases orphaned_eq freed h with ⟨e, -⟩ | ⟨e, k, owner, gone⟩
    · rw [e]
    · have other : k ≠ slot := by
        rintro rfl
        exact absurd gone (by simp [stays])
      simp [e, owner, other]

/-- A sheet that no open side fills stands in AWAITING_BACK or COMPLETE (R94). -/
theorem Ledger.Holds.rests {h : Sheet} (holds : L.Holds h) (unfilled : h.filling = none) :
    h.state = .awaitingBack ∨ h.state = .complete := by
  cases state : h.state with
  | fillingFront => simp [Sheet.filling, state] at unfilled
  | fillingBack =>
    refine absurd ?_ (holds.backed state)
    simpa [Sheet.filling, state] using unfilled
  | awaitingBack => exact .inl rfl
  | complete => exact .inr rfl

/-- The jobs of a set of slots without an open side end, and their sheets become ORPHAN (R57, R105, R168). -/
theorem Ledger.Books.orphan (books : L.Books) (freed : Nat → Bool)
    (closed : ∀ h ∈ L.sheets, ∀ slot, h.owner = .job slot → freed slot = true → h.filling = none) :
    ({ L with
        sheets := L.sheets.map (Sheet.orphaned freed)
        job := fun slot => if freed slot then none else L.job slot } : Ledger).Books := by
  refine { books with
    reserved := fun i inside => ?reserved, names := ?names, holds := ?holds, jobs := fun slot j held => ?jobs }
  case reserved =>
    refine (books.reserved i inside).trans (reservedOn_map _ (fun h => (orphaned_kept freed h).2.1) (fun h => ?_) _ _).symm
    rw [Sheet.reserved, orphaned_sides, Sheet.reserved]
  case names =>
    have names : (L.sheets.map (Sheet.orphaned freed)).map Sheet.name = L.sheets.map Sheet.name := by
      simp [Function.comp_def, orphaned_kept]
    exact names ▸ books.names
  case holds =>
    intro g listed
    obtain ⟨h, was, rfl⟩ := List.mem_map.mp listed
    have holds := books.holds h was
    rcases orphaned_eq freed h with ⟨e, stays⟩ | ⟨e, slot, owner, gone⟩ <;> rw [e]
    · exact { holds with job := fun slot mine => by simpa [stays slot mine] using holds.job slot mine }
    · exact { holds with job := nofun, orphan := fun _ => holds.rests (closed h was slot owner gone) }
  case jobs =>
    cases stays : freed slot with
    | true => simp [stays] at held
    | false =>
      obtain ⟨inside, inUse, counted⟩ := books.jobs slot j (by simpa [stays] using held)
      exact ⟨inside, inUse, counted.trans (sidesOf_orphaned stays _).symm⟩

/-! ### The tariff and the load of a snapshot -/

theorem Ledger.Books.setTariff (books : L.Books) {tariff : Nat → Tariff} (ordered : ∀ c, (tariff c).mono ≤ (tariff c).colour) :
    ({ L with tariff := tariff } : Ledger).Books where
  reserved := books.reserved
  sound := books.sound
  names := books.names
  holds h listed := { books.holds h listed with }
  jobs := books.jobs
  tariff := ordered
  pristine := books.pristine

/-- In a pristine account table no account is in use, so that no sheet stands in the queue and no job in a slot. -/
theorem Ledger.Books.empty_of_pristine (books : L.Books) (pristine : L.pristine = true) :
    L.sheets = [] ∧ ∀ slot, L.job slot = none := by
  have unused (i : Nat) (inside : i < 2048) : (L.account i).state = .unused :=
    congrArg Account.state (books.pristine pristine i inside)
  constructor
  · refine List.eq_nil_iff_forall_not_mem.mpr fun h listed => ?_
    exact (books.holds h listed).inUse (unused _ (books.holds h listed).inside)
  · intro slot
    refine Option.eq_none_iff_forall_ne_some.mpr fun j job => ?_
    obtain ⟨inside, inUse, -⟩ := books.jobs slot j job
    exact inUse (unused _ inside)

/-- Accounts without reservations are loaded into a pristine table (R164). -/
theorem Ledger.Books.load (books : L.Books) (pristine : L.pristine = true) {account : Nat → Account}
    {tariff : Nat → Tariff} (sound : ∀ i < 2048, (account i).Sound) (unreserved : ∀ i < 2048, (account i).reserved = 0)
    (ordered : ∀ c, (tariff c).mono ≤ (tariff c).colour) :
    ({ L with account := account, tariff := tariff, pristine := false } : Ledger).Books := by
  obtain ⟨empty, free⟩ := books.empty_of_pristine pristine
  refine ⟨fun i inside => ?_, sound, books.names, fun h listed => ?_, fun slot j job => ?_, ordered, nofun⟩
  · simp [empty, unreserved i inside]
  · simp [empty] at listed
  · simp [free] at job

/-! ### The open side -/

/-- With no side open no sheet fills. -/
theorem Ledger.SideAgrees.closed (agrees : L.SideAgrees) (side : L.side = none) {h : Sheet} (listed : h ∈ L.sheets) :
    h.filling = none := by
  by_contra fills
  obtain ⟨o, mine, _⟩ := agrees.only h listed fills
  cases side.symm.trans mine

/-- Where no sheet fills and no side is open, they agree. -/
theorem sideAgrees_of_closed (side : L.side = none) (unfilled : ∀ h ∈ L.sheets, h.filling = none) : L.SideAgrees where
  colours o mine := by cases side.symm.trans mine
  filled o mine := by cases side.symm.trans mine
  only h listed fills := absurd (unfilled h listed) fills

/-- In a queue whose names differ a sheet is the only one of its name. -/
theorem name_ne_of_nodup {pre post : List Sheet} {h : Sheet} (names : ((pre ++ h :: post).map Sheet.name).Nodup)
    {g : Sheet} (there : g ∈ pre ∨ g ∈ post) : g.name ≠ h.name := by
  rw [List.map_append, List.map_cons, List.nodup_middle, List.nodup_cons] at names
  intro same
  refine names.1 ?_
  rw [← same, ← List.map_append]
  exact List.mem_map_of_mem (List.mem_append.mpr there)

/-- A change of the sheet of a name is one in its place. -/
theorem map_at_name {pre post : List Sheet} {h : Sheet} {name : Nat} (mine : h.name = name)
    (others : ∀ g, g ∈ pre ∨ g ∈ post → g.name ≠ name) (f : Sheet → Sheet) :
    ((pre ++ h :: post).map fun g => if g.name = name then f g else g) = pre ++ f h :: post := by
  have kept (l : List Sheet) (other : ∀ g ∈ l, g.name ≠ name) : (l.map fun g => if g.name = name then f g else g) = l :=
    (List.map_congr_left fun g there => if_neg (other g there)).trans l.map_id
  rw [List.map_append, List.map_cons, if_pos mine, kept pre fun g there => others g (.inl there),
    kept post fun g there => others g (.inr there)]

/-- An open side and its sheet: the only sheet of its name, and the only one that fills. -/
structure Ledger.Opens (L : Ledger) (o : OpenSide) (pre : List Sheet) (h : Sheet) (post : List Sheet) : Prop where
  side    : L.side = some o
  queue   : L.sheets = pre ++ h :: post
  filled  : h.FilledBy o
  others  : ∀ g, g ∈ pre ∨ g ∈ post → g.name ≠ o.sheet ∧ g.filling = none
  colours : hasColour o.mask = false → o.dots.colour = 0

theorem Ledger.SideAgrees.opens (agrees : L.SideAgrees) (books : L.Books) {o : OpenSide} (side : L.side = some o) :
    ∃ pre h post, L.Opens o pre h post := by
  obtain ⟨h, listed, filled⟩ := agrees.filled o side
  obtain ⟨pre, post, queue⟩ := List.append_of_mem listed
  refine ⟨pre, h, post, side, queue, filled, fun g there => ?_, agrees.colours o side⟩
  have other : g.name ≠ o.sheet := filled.name ▸ name_ne_of_nodup (queue ▸ books.names) there
  refine ⟨other, ?_⟩
  by_contra fills
  have inQueue : g ∈ L.sheets := by
    rw [queue, List.mem_append, List.mem_cons]
    tauto
  obtain ⟨p, mine, named⟩ := agrees.only g inQueue fills
  cases side.symm.trans mine
  exact other named

section Opens

variable {o : OpenSide} {pre post : List Sheet} {h : Sheet}

theorem Ledger.Opens.listed (opens : L.Opens o pre h post) : h ∈ L.sheets := by simp [opens.queue]

/-- The sheet of the open side is found by its name. -/
theorem Ledger.Opens.find (opens : L.Opens o pre h post) : L.sheets.find? (fun g => g.name == o.sheet) = some h := by
  rw [opens.queue, List.find?_append, List.find?_eq_none.mpr fun g there => by simpa using (opens.others g (.inl there)).1]
  simp [opens.filled.name]

/-- The sheet of the open side taken out of the queue. -/
theorem Ledger.Opens.filter (opens : L.Opens o pre h post) :
    L.sheets.filter (fun g => g.name != o.sheet) = pre ++ post := by
  have kept (l : List Sheet) (others : ∀ g ∈ l, g.name ≠ o.sheet) : l.filter (fun g => g.name != o.sheet) = l :=
    List.filter_eq_self.mpr fun g there => by simpa using others g there
  rw [opens.queue, List.filter_append, List.filter_cons_of_neg (by simp [opens.filled.name]),
    kept pre fun g there => (opens.others g (.inl there)).1, kept post fun g there => (opens.others g (.inr there)).1]

/-- The sheet of the open side changed in its place. -/
theorem Ledger.Opens.map (opens : L.Opens o pre h post) (f : Sheet → Sheet) :
    (L.sheets.map fun g => if g.name = o.sheet then f g else g) = pre ++ f h :: post := by
  rw [opens.queue, map_at_name opens.filled.name fun g there => (opens.others g there).1]

end Opens

end Sys2Proof.Machine
end

section
/-! One account under the events and the directives that change it: what R112 and R114 ask of it stays (R107, R115,
R118 to R124). -/

namespace Sys2Proof.Machine

variable {a b : Account}

/-! ### Floors (R114, R116) -/

/-- An amount is at or above the floor of a mode: the two floors there are (R114). -/
theorem atOrAbove_floorOf_iff {mode : AccountMode} {limit : Nat} {x : Int} :
    atOrAbove (floorOf mode limit) x = true ↔ (mode = .prepaid → 0 ≤ x) ∧ (mode = .credit → -(limit : Int) ≤ x) := by
  cases mode <;> simp [floorOf, atOrAbove]

/-- What an account can take leaves it at or above its floor (R116). -/
theorem canTake_iff {amount : Nat} :
    a.canTake amount = true ↔
      amount = 0 ∨ (a.mode = .prepaid → 0 ≤ a.balance - a.reserved - amount) ∧
        (a.mode = .credit → -(a.creditLimit : Int) ≤ a.balance - a.reserved - amount) := by
  simp [Account.canTake, Account.floor, Account.free, atOrAbove_floorOf_iff]

/-! ### Events (R107, R115) -/

/-- A reservation given back, a side charged within its reservation or a page counted: the balance and the reserved
amount fall, and what is left beside them does not. -/
theorem Account.Sound.settled (sound : a.Sound) (state : b.state ≠ .unused) (mode : b.mode = a.mode)
    (limit : b.creditLimit = a.creditLimit) (balance : b.balance ≤ a.balance) (reserved : b.reserved ≤ a.reserved)
    (free : a.balance - a.reserved ≤ b.balance - b.reserved) : b.Sound := by
  obtain ⟨prepaid, credit, unmetered, low, high, below, -⟩ := sound
  refine ⟨fun h => ?_, fun h => ?_, fun h => ?_, ?_, by omega, limit ▸ below, fun h => absurd h state⟩
  · have := prepaid (mode ▸ h)
    omega
  · have := credit (mode ▸ h)
    rw [limit]
    omega
  · have := unmetered (mode ▸ h)
    omega
  · cases kind : a.mode with
    | prepaid => have := prepaid kind; omega
    | credit => have := credit kind; omega
    | unmetered => have := unmetered kind; omega

/-- A reservation that an account can take; an UNMETERED account takes none above 0 (R96, R116). -/
theorem Account.Sound.reserve (sound : a.Sound) (inUse : a.state ≠ .unused) {amount : Nat}
    (takes : a.canTake amount = true) (free : a.mode = .unmetered → amount = 0) :
    ({ a with reserved := a.reserved + amount } : Account).Sound := by
  obtain ⟨prepaid, credit, unmetered, low, high, below, -⟩ := sound
  refine ⟨fun h => ?_, fun h => ?_, fun h => ?_, low, high, below, fun h => absurd h inUse⟩
  · have := prepaid h
    rcases canTake_iff.mp takes with none | ⟨left, -⟩
    · simpa [none] using this
    · have := left h
      push_cast
      omega
  · have := credit h
    rcases canTake_iff.mp takes with none | ⟨-, left⟩
    · simpa [none] using this
    · have := left h
      push_cast
      omega
  · simp [unmetered h, free h]

/-- A scan cost that an account can take is paid (R107). -/
theorem Account.Sound.pay (sound : a.Sound) (inUse : a.state ≠ .unused) {cost : Nat} (takes : a.canTake cost = true)
    (metered : a.mode ≠ .unmetered) : ({ a.countScan with balance := a.balance - cost } : Account).Sound := by
  have countScan : a.countScan.Sound := sound.settled inUse rfl rfl le_rfl le_rfl le_rfl
  rcases canTake_iff.mp takes with none | ⟨prepaid, credit⟩
  · simpa [none, Account.countScan] using countScan
  obtain ⟨_, _, unmetered, low, high, below, -⟩ := sound
  refine ⟨fun h => ?_, fun h => ?_, unmetered, ?_, ?_, below, fun h => absurd h inUse⟩
  · have := prepaid h
    show 0 ≤ a.balance - cost - a.reserved
    omega
  · have := credit h
    show -(a.creditLimit : Int) ≤ a.balance - cost - a.reserved
    omega
  · show -1000000 ≤ a.balance - cost
    cases kind : a.mode with
    | prepaid => have := prepaid kind; omega
    | credit => have := credit kind; omega
    | unmetered => exact absurd kind metered
  · show a.balance - cost ≤ 2000000000
    omega

/-- The charge of a side whose reservation covers it is at most that reservation (R96, R100). -/
theorem SideRecord.covered.charge_le {r : SideRecord} (covered : r.covered) : r.charge ≤ r.reservation := by
  obtain ⟨order, reservation, monochrome⟩ := covered
  rw [reservation, SideRecord.charge, SideRecord.isColour]
  by_cases colour : hasColour r.mask = true
  · rw [if_pos colour]
    split <;> omega
  · simp [colour, monochrome (by simpa using colour)]

theorem committed_terms (a : Account) (r : SideRecord) :
    (a.committed r).state = a.state ∧ (a.committed r).mode = a.mode ∧ (a.committed r).creditLimit = a.creditLimit ∧
      (a.committed r).balance = a.balance - r.charge ∧ (a.committed r).reserved = a.reserved - r.reservation := by
  unfold Account.committed
  split <;> exact ⟨rfl, rfl, rfl, rfl, rfl⟩

/-- Covered sides that are all reserved can be committed one after another (R100). -/
theorem Account.Sound.commit {sides : List SideRecord} (sound : a.Sound) (inUse : a.state ≠ .unused)
    (covered : ∀ r ∈ sides, r.covered) (held : (sides.map SideRecord.reservation).sum ≤ a.reserved) :
    (sides.foldl Account.committed a).Sound ∧ (sides.foldl Account.committed a).state = a.state ∧
      (sides.foldl Account.committed a).reserved = a.reserved - (sides.map SideRecord.reservation).sum := by
  induction sides generalizing a with
  | nil => exact ⟨sound, rfl, rfl⟩
  | cons r sides ih =>
    obtain ⟨state, mode, limit, balance, reserved⟩ := committed_terms a r
    have charge := (covered r List.mem_cons_self).charge_le
    rw [List.map_cons, List.sum_cons] at held
    have next : (a.committed r).Sound := by
      refine sound.settled (state ▸ inUse) mode limit ?_ ?_ ?_ <;> omega
    obtain ⟨last, same, left⟩ := ih next (state ▸ inUse) (fun q listed => covered q (List.mem_cons_of_mem r listed))
      (by omega)
    refine ⟨last, same.trans state, left.trans ?_⟩
    rw [List.map_cons, List.sum_cons]
    omega

/-! ### Directives (R118 to R124) -/

/-- New terms whose floor the account keeps, and that reserve nothing where they are UNMETERED (R118). -/
theorem Account.Sound.setTerms (sound : a.Sound) {mode : AccountMode} {colour : Bool} {limit : Nat}
    (small : limit ≤ 1000000) (unreserved : mode = .unmetered → a.reserved = 0)
    (above : atOrAbove (floorOf mode limit) a.free = true) (generation : BitVec 32) :
    ({ a.setTerms mode colour limit with generation := generation } : Account).Sound := by
  obtain ⟨prepaid, credit⟩ := atOrAbove_floorOf_iff.mp above
  cases state : a.state with
  | unused =>
    have unused := sound.unused state
    rw [unused] at prepaid credit
    simp only [Account.setTerms, state]
    exact ⟨prepaid, credit, fun _ => rfl, by simp [Account.unused], by simp [Account.unused], small, nofun⟩
  | active | suspended =>
    simp only [Account.setTerms, state]
    exact ⟨prepaid, credit, unreserved, sound.low, sound.high, small, nofun⟩

/-- What ACCOUNT_ADJUST does not refuse (R119). -/
theorem adjustRefusal_eq_none_iff {amount : Int} :
    a.adjustRefusal amount = none ↔
      a.state ≠ .unused ∧ (-1000000 ≤ a.balance + amount ∧ a.balance + amount ≤ 2000000000) ∧
        atOrAbove a.floor (a.balance + amount - a.reserved) = true := by
  rw [← not_lt, ← not_lt, ← not_or, ← Bool.not_eq_false']
  unfold Account.adjustRefusal
  split_ifs <;> simp_all

theorem Account.Sound.adjust (sound : a.Sound) {amount : Int} (passes : a.adjustRefusal amount = none)
    (generation : BitVec 32) :
    ({ a with balance := a.balance + amount, generation := generation } : Account).Sound := by
  obtain ⟨inUse, ⟨low, high⟩, above⟩ := adjustRefusal_eq_none_iff.mp passes
  obtain ⟨prepaid, credit⟩ := atOrAbove_floorOf_iff.mp above
  exact ⟨prepaid, credit, sound.unmetered, low, high, sound.limit, fun unused => absurd unused inUse⟩

/-- An account in use that becomes SUSPENDED or ACTIVE (R121). -/
theorem Account.Sound.setState (sound : a.Sound) {state : AccountState} (inUse : state ≠ .unused)
    (generation : BitVec 32) : ({ a with state := state, generation := generation } : Account).Sound :=
  { sound with unused := fun unused => absurd unused inUse }

/-- An account cleared (R123). -/
theorem sound_unused (generation : BitVec 32) : (Account.unused generation).Sound := by
  refine ⟨?_, ?_, ?_, ?_, ?_, ?_, ?_⟩ <;> simp [Account.unused]

theorem closePeriod_terms (a : Account) : a.closePeriod.state = a.state ∧ a.closePeriod.reserved = a.reserved := by
  unfold Account.closePeriod
  split <;> exact ⟨rfl, rfl⟩

theorem Account.Sound.closePeriod (sound : a.Sound) : a.closePeriod.Sound := by
  unfold Account.closePeriod
  split
  · exact sound
  · rename_i inUse
    exact { sound with unused := fun unused => absurd unused inUse }

end Sys2Proof.Machine
end

section
/-! The ledger when a side starts, is abandoned or completes, and when sheets leave the queue (R89, R91, R92, R100,
R103). -/

namespace Sys2Proof.Machine

variable {L : Ledger} {o : OpenSide} {pre post : List Sheet} {h : Sheet}

/-- A queue whose names are among those of one whose names differ. -/
theorem names_nodup_of_sublist {old new : List Sheet} (names : ((pre ++ old ++ post).map Sheet.name).Nodup)
    (among : (new.map Sheet.name).Sublist (old.map Sheet.name)) : ((pre ++ new ++ post).map Sheet.name).Nodup := by
  simp only [List.map_append] at names ⊢
  exact names.sublist ((List.Sublist.refl _).append among |>.append (List.Sublist.refl _))

/-- What a sheet of the queue reserves is reserved at its account. -/
theorem Ledger.Books.reserved_le (books : L.Books) (listed : h ∈ L.sheets) :
    h.reserved ≤ (L.account h.account).reserved := by
  obtain ⟨pre, post, queue⟩ := List.append_of_mem listed
  rw [books.reserved _ (books.holds h listed).inside, queue]
  simp only [reservedOn_append, reservedOn_cons, if_true]
  omega

/-- The sides of a sheet of the queue are counted at the job that owns it. -/
theorem Ledger.Books.sides_le (books : L.Books) {slot : Nat} {j : JobLine} (listed : h ∈ L.sheets)
    (owner : h.owner = .job slot) (job : L.job slot = some j) : h.sides.length ≤ j.inQueue := by
  obtain ⟨pre, post, queue⟩ := List.append_of_mem listed
  rw [(books.jobs slot j job).2.2, queue]
  simp only [sidesOf_append, sidesOf_cons, owner, if_true]
  omega

/-! ### The abandonment of the open side (R92) -/

/-- A job line with some sides in queue less (R49). -/
def JobLine.less (n : Nat) (j : JobLine) : JobLine := { j with inQueue := j.inQueue - n }

/-- What an abandoned side leaves of its sheet in the queue: nothing of a SIMPLEX or FRONT side's (R92 step 3). -/
def Sheet.leftover (kind : SideKind) (h : Sheet) : List Sheet :=
  if kind = .back then [{ h with state := .awaitingBack, back := none }] else []

/-- The ledger after the steps of R92 on an open side. -/
def Ledger.abandoned (L : Ledger) (o : OpenSide) (pre : List Sheet) (h : Sheet) (post : List Sheet) : Ledger :=
  { L with
    account := Function.update L.account h.account
      { L.account h.account with reserved := (L.account h.account).reserved - o.reservation }
    pristine := false
    sheets := pre ++ h.leftover o.kind ++ post
    job := Function.update L.job o.slot ((L.job o.slot).map (JobLine.less 1))
    side := none }

/-- The side that a sheet fills is all that sets it apart from what an abandonment leaves. -/
theorem Ledger.Opens.leftover (opens : L.Opens o pre h post) (books : L.Books) :
    (∀ i, (if h.account = i then h.reserved else 0) = (if h.account = i then o.reservation else 0) +
        reservedOn (h.leftover o.kind) i) ∧
      (∀ slot, (if o.slot = slot then h.sides.length else 0) = (if o.slot = slot then 1 else 0) +
        sidesOf (h.leftover o.kind) slot) := by
  have holds := books.holds h opens.listed
  obtain ⟨r, fills, -, reservation⟩ := opens.filled.side
  have owner := opens.filled.owner
  have state := opens.filled.state
  by_cases back : o.kind = .back
  · rw [if_pos back] at state
    have second : h.back = some r := by simpa [Sheet.filling, state] using fills
    constructor <;> intro k
    · by_cases mine : h.account = k <;>
        simp [Sheet.leftover, back, mine, Sheet.reserved, Sheet.sides, second, ← reservation, Nat.add_comm]
    · by_cases mine : o.slot = k <;> simp [Sheet.leftover, back, owner, mine, Sheet.sides, second]
  · rw [if_neg back] at state
    have front : h.front = r := by simpa [Sheet.filling, state] using fills
    have alone := holds.unbacked (.inl state)
    constructor <;> intro k
    · simp [Sheet.leftover, back, Sheet.reserved, Sheet.sides, front, alone, ← reservation]
    · simp [Sheet.leftover, back, Sheet.sides, alone]

theorem Ledger.Opens.abandon (opens : L.Opens o pre h post) (books : L.Books) :
    (L.abandoned o pre h post).Books ∧ (L.abandoned o pre h post).SideAgrees := by
  have listed := opens.listed
  have holds := books.holds h listed
  have owner := opens.filled.owner
  obtain ⟨reserves, sides⟩ := opens.leftover books
  have enough : o.reservation ≤ (L.account h.account).reserved := by
    have mine := reserves h.account
    have held := books.reserved_le listed
    simp only [if_true] at mine
    omega
  have stays (g : Sheet) (there : g ∈ h.leftover o.kind) : g = { h with state := .awaitingBack, back := none } := by
    unfold Sheet.leftover at there
    split at there
    · simpa using there
    · simp at there
  have carries : L.Carries (L.abandoned o pre h post) := by
    refine ⟨le_rfl, fun i named => ?_, fun slot => ?_, rfl, nofun⟩
    · rcases eq_or_ne i h.account with rfl | other
      · simpa [Ledger.abandoned] using holds.inUse
      · simpa [Ledger.abandoned, other] using books.inUse named
    · rcases eq_or_ne slot o.slot with rfl | other
      · simp only [Ledger.abandoned, Function.update_self, Option.map_map]
        rfl
      · simp [Ledger.abandoned, other]
  constructor
  · refine books.rebook (old := [h]) (new := h.leftover o.kind)
      { carries with
        queue := ⟨pre, post, by simp [opens.queue], rfl⟩
        names := names_nodup_of_sublist (old := [h]) (by simpa [opens.queue] using books.names) ?names
        held := fun g there => ?held
        sound := fun i inside => ?sound
        reserved := fun i inside => ?reserved
        inQueue := fun slot j' j held' held => ?inQueue }
    case names => unfold Sheet.leftover; split <;> simp
    case held =>
      rw [stays g there]
      exact { carries.holds holds listed with
        covered := fun r side => holds.covered r (by simp_all [Sheet.sides])
        unbacked := fun _ => rfl
        backed := nofun
        orphan := fun _ => .inl rfl }
    case sound =>
      rcases eq_or_ne i h.account with rfl | other
      · simp only [Ledger.abandoned, Function.update_self]
        exact (books.sound _ inside).settled holds.inUse rfl rfl le_rfl (Nat.sub_le ..) (by push_cast; omega)
      · simpa [Ledger.abandoned, other] using books.sound i inside
    case reserved =>
      have moved := reserves i
      rcases eq_or_ne i h.account with rfl | other
      · simp only [Ledger.abandoned, Function.update_self, reservedOn_cons, if_true, reservedOn_nil] at moved ⊢
        omega
      · simp only [Ledger.abandoned, Function.update_of_ne other, reservedOn_cons, reservedOn_nil] at moved ⊢
        simp only [if_neg other.symm] at moved ⊢
        omega
    case inQueue =>
      have moved := sides slot
      rcases eq_or_ne slot o.slot with rfl | other
      · have counted := books.sides_le listed owner held
        have same : j.less 1 = j' := by simpa [Ledger.abandoned, held] using held'
        subst same
        simp only [sidesOf_cons, owner, if_true, sidesOf_nil, JobLine.less] at moved ⊢
        omega
      · have same : j = j' := Option.some.inj (held.symm.trans (by simpa [Ledger.abandoned, other] using held'))
        subst same
        simp only [sidesOf_cons, owner, sidesOf_nil, Owner.job.injEq, if_neg other.symm] at moved ⊢
        omega
  · refine sideAgrees_of_closed rfl fun g there => ?_
    simp only [Ledger.abandoned, List.mem_append] at there
    rcases there with (before | left) | after
    · exact (opens.others g (.inl before)).2
    · rw [stays g left]
      rfl
    · exact (opens.others g (.inr after)).2

/-! ### The start of a side (R89) -/

/-- A job line with a side in queue more (R49). -/
def JobLine.more (j : JobLine) : JobLine := { j with inQueue := j.inQueue + 1 }

/-- The ledger after R89: an amount is reserved, the open side fills a sheet, and its job has a side more. -/
def Ledger.started (L : Ledger) (o : OpenSide) (account : Nat) (sheets : List Sheet) (nextSheet : Nat) : Ledger :=
  { L with
    account := Function.update L.account account
      { L.account account with reserved := (L.account account).reserved + o.reservation }
    pristine := false
    sheets := sheets
    nextSheet := nextSheet
    job := Function.update L.job o.slot ((L.job o.slot).map JobLine.more)
    side := some o }

/-- A side that starts with its sheet: the account can take the reservation, and the sheet that it fills stands for
some of the queue, which it adds that reservation and one side to. -/
structure Ledger.Starts (L : Ledger) (o : OpenSide) (j : JobLine) (old : List Sheet) (g : Sheet) (nextSheet : Nat) :
    Prop where
  closed    : L.side = none
  job       : L.job o.slot = some j
  takes     : (L.account j.account).canTake o.reservation = true
  unmetered : (L.account j.account).mode = .unmetered → o.reservation = 0
  blank     : o.dots.colour = 0
  fills     : g.FilledBy o
  account   : g.account = j.account
  covered   : ∀ r ∈ g.sides, r.covered
  unbacked  : g.state = .fillingFront → g.back = none
  named     : g.name < nextSheet
  counter   : L.nextSheet ≤ nextSheet
  reserved  : ∀ i, reservedOn [g] i = (if j.account = i then o.reservation else 0) + reservedOn old i
  inQueue   : ∀ slot, sidesOf [g] slot = (if o.slot = slot then 1 else 0) + sidesOf old slot

/-- The sheet that an open side fills does so in the state for its kind. -/
theorem Sheet.FilledBy.state_cases (filled : h.FilledBy o) :
    h.state = .fillingFront ∨ h.state = .fillingBack ∧ h.back ≠ none := by
  obtain ⟨r, fills, -, -⟩ := filled.side
  have state := filled.state
  split at state
  · refine .inr ⟨state, fun none => ?_⟩
    simp [Sheet.filling, state, none] at fills
  · exact .inl state

theorem Ledger.Books.start (books : L.Books) (agrees : L.SideAgrees) {j : JobLine} {old : List Sheet} {g : Sheet}
    {nextSheet : Nat} (starts : L.Starts o j old g nextSheet) (queue : L.sheets = pre ++ old ++ post)
    (names : ((pre ++ [g] ++ post).map Sheet.name).Nodup) :
    (L.started o j.account (pre ++ [g] ++ post) nextSheet).Books ∧
      (L.started o j.account (pre ++ [g] ++ post) nextSheet).SideAgrees := by
  obtain ⟨inside, inUse, -⟩ := books.jobs o.slot j starts.job
  have carries : L.Carries (L.started o j.account (pre ++ [g] ++ post) nextSheet) := by
    refine ⟨starts.counter, fun i named => ?_, fun slot => ?_, rfl, nofun⟩
    · rcases eq_or_ne i j.account with rfl | other
      · simpa [Ledger.started] using inUse
      · simpa [Ledger.started, other] using books.inUse named
    · rcases eq_or_ne slot o.slot with rfl | other
      · simp only [Ledger.started, Function.update_self, Option.map_map]
        rfl
      · simp [Ledger.started, other]
  constructor
  · refine books.rebook (old := old) (new := [g])
      { carries with
        queue := ⟨pre, post, queue, rfl⟩
        names := names
        held := fun h there => ?held
        sound := fun i inside => ?sound
        reserved := fun i inside => ?reserved
        inQueue := fun slot j' j₀ held' held => ?inQueue }
    case held =>
      obtain rfl := List.mem_singleton.mp there
      have filling := starts.fills.state_cases
      refine ⟨starts.covered, fun state => ?_, fun state => ?_, starts.named, starts.account ▸ inside, ?_,
        fun slot mine => ?_, fun free => ?_⟩
      · rcases state with front | awaits
        · exact starts.unbacked front
        · simp [awaits] at filling
      · simpa [state] using filling
      · rw [starts.account]
        simpa [Ledger.started] using inUse
      · obtain rfl : o.slot = slot := by simpa [mine] using starts.fills.owner.symm
        simp [Ledger.started, starts.job, starts.account, JobLine.more]
      · cases free.symm.trans starts.fills.owner
    case sound =>
      rcases eq_or_ne i j.account with rfl | other
      · simp only [Ledger.started, Function.update_self]
        exact (books.sound _ inside).reserve inUse starts.takes starts.unmetered
      · simpa [Ledger.started, other] using books.sound i inside
    case reserved =>
      rw [starts.reserved]
      rcases eq_or_ne i j.account with rfl | other
      · simp only [Ledger.started, Function.update_self, if_true]
        omega
      · simp only [Ledger.started, Function.update_of_ne other, if_neg other.symm]
        omega
    case inQueue =>
      rw [starts.inQueue]
      rcases eq_or_ne slot o.slot with rfl | other
      · have same : j₀.more = j' := by simpa [Ledger.started, held] using held'
        subst same
        simp only [JobLine.more, if_true]
        omega
      · have same : j₀ = j' := Option.some.inj (held.symm.trans (by simpa [Ledger.started, other] using held'))
        subst same
        simp only [if_neg other.symm]
        omega
  · refine ⟨fun p side _ => ?_, fun p side => ?_, fun h there fills => ⟨o, rfl, ?_⟩⟩
    · cases side
      exact starts.blank
    · cases side
      exact ⟨g, by simp [Ledger.started], starts.fills⟩
    · by_cases mine : h = g
      · exact mine ▸ starts.fills.name
      · have was : h ∈ L.sheets := by
          rw [queue]
          simp only [Ledger.started, List.mem_append, List.mem_singleton] at there ⊢
          tauto
        exact absurd (agrees.closed starts.closed was) fills

/-! ### The completion of a side (R91) -/

/-- A side record with the dot-levels counted of a side of its mask. -/
theorem SideRecord.covered.completed {r : SideRecord} (covered : r.covered) {dots : Dots}
    (colours : hasColour r.mask = false → dots.colour = 0) :
    ({ r with dots := dots, complete := true } : SideRecord).covered := by
  obtain ⟨order, reservation, -⟩ := covered
  exact ⟨order, reservation, colours⟩

/-- A completed side leaves its sheet with as many sides and the same reservations, in a state in which none is open. -/
theorem Ledger.Opens.completeSide (opens : L.Opens o pre h post) (holds : L.Holds h) :
    let g := h.completeSide o.kind o.dots
    L.Holds g ∧ g.name = h.name ∧ g.account = h.account ∧ g.owner = h.owner ∧ g.reserved = h.reserved ∧
      g.sides.length = h.sides.length ∧ g.filling = none := by
  obtain ⟨r, fills, mask, -⟩ := opens.filled.side
  have state := opens.filled.state
  have counted := fun covered : r.covered =>
    covered.completed (dots := o.dots) fun plain => opens.colours (mask ▸ plain)
  intro g
  cases kind : o.kind with
  | simplex | front =>
    simp only [kind, reduceCtorEq, if_false] at state
    have front : h.front = r := by simpa [Sheet.filling, state] using fills
    have alone := holds.unbacked (.inl state)
    have shape : g = h.completeSide o.kind o.dots := rfl
    simp only [Sheet.completeSide, kind] at shape
    rw [shape]
    refine ⟨{ holds with
      covered := fun q side => ?_, unbacked := fun _ => alone, backed := nofun, orphan := ?_ }, rfl, rfl, rfl, ?_, rfl,
      rfl⟩
    · obtain rfl : q = { h.front with dots := o.dots, complete := true } := by simpa [Sheet.sides, alone] using side
      exact front ▸ counted (front ▸ holds.covered h.front (by simp [Sheet.sides]))
    · intro free
      simp
    · rfl
  | back =>
    simp only [kind, if_true] at state
    have second : h.back = some r := by simpa [Sheet.filling, state] using fills
    have shape : g = h.completeSide o.kind o.dots := rfl
    simp only [Sheet.completeSide, kind, second, Option.map_some] at shape
    rw [shape]
    refine ⟨{ holds with
      covered := fun q side => ?_, unbacked := nofun, backed := nofun, orphan := fun _ => .inr rfl }, rfl, rfl, rfl, ?_,
      ?_, rfl⟩
    · have sides : q = h.front ∨ q = { r with dots := o.dots, complete := true } := by
        simpa [Sheet.sides] using side
      rcases sides with rfl | rfl
      · exact holds.covered _ (by simp [Sheet.sides])
      · exact counted (holds.covered r (by simp [Sheet.sides, second]))
    · simp [Sheet.reserved, Sheet.sides, second]
    · simp [Sheet.sides, second]

/-- The sheet of the open side completes it, with the side's dot-levels. -/
theorem Ledger.Opens.complete (opens : L.Opens o pre h post) (books : L.Books) :
    ({ L with sheets := pre ++ [h.completeSide o.kind o.dots] ++ post, side := none } : Ledger).Books ∧
      ({ L with sheets := pre ++ [h.completeSide o.kind o.dots] ++ post, side := none } : Ledger).SideAgrees := by
  obtain ⟨holds, name, account, owner, reserved, sides, rests⟩ := opens.completeSide (books.holds h opens.listed)
  constructor
  · refine books.rebook (old := [h]) (new := [h.completeSide o.kind o.dots])
      { counter := le_rfl
        inUse := fun i named => books.inUse named
        account := fun slot => rfl
        tariff := rfl
        pristine := fun pristine => ⟨pristine, rfl⟩
        queue := ⟨pre, post, by simp [opens.queue], rfl⟩
        names := names_nodup_of_sublist (old := [h]) (by simpa [opens.queue] using books.names) (by simp [name])
        held := fun g there => ?held
        sound := books.sound
        reserved := fun i inside => by simp [account, reserved]
        inQueue := fun slot j' j held' held => ?inQueue }
    case held =>
      obtain rfl := List.mem_singleton.mp there
      exact { holds with }
    case inQueue =>
      obtain rfl : j = j' := Option.some.inj (held.symm.trans held')
      simp [owner, sides]
  · refine sideAgrees_of_closed rfl fun g there => ?_
    simp only [List.mem_append, List.mem_singleton] at there
    rcases there with (before | rfl) | after
    · exact (opens.others g (.inl before)).2
    · exact rests
    · exact (opens.others g (.inr after)).2

/-! ### The oldest sheet delivered (R99 to R101) -/

/-- The ledger after the sides of the oldest sheet have been committed. -/
def Ledger.delivered (L : Ledger) (h : Sheet) (rest : List Sheet) : Ledger :=
  { L with
    account := Function.update L.account h.account (h.sides.foldl Account.committed (L.account h.account))
    pristine := false
    sheets := rest
    job := fun slot => if h.owner = .job slot then (L.job slot).map (JobLine.less h.sides.length) else L.job slot }

theorem Ledger.Books.deliver (books : L.Books) {rest : List Sheet} (queue : L.sheets = h :: rest) :
    (L.delivered h rest).Books := by
  have listed : h ∈ L.sheets := by simp [queue]
  have holds := books.holds h listed
  have inside := holds.inside
  obtain ⟨sound, state, reserved⟩ := (books.sound _ inside).commit holds.inUse holds.covered (books.reserved_le listed)
  refine books.rebook (old := [h]) (new := [])
    { counter := le_rfl
      inUse := fun i named => ?inUse
      account := fun slot => ?account
      tariff := rfl
      pristine := nofun
      queue := ⟨[], rest, by simp [queue], rfl⟩
      names := names_nodup_of_sublist (pre := []) (old := [h]) (new := []) (by simpa [queue] using books.names)
        (by simp)
      held := nofun
      sound := fun i inside => ?sound
      reserved := fun i inside => ?reserved
      inQueue := fun slot j' j held' held => ?inQueue }
  case inUse =>
    rcases eq_or_ne i h.account with rfl | other
    · simpa [Ledger.delivered, state] using holds.inUse
    · simpa [Ledger.delivered, other] using books.inUse named
  case account =>
    by_cases mine : h.owner = .job slot
    · simp only [Ledger.delivered, if_pos mine, Option.map_map]
      rfl
    · simp [Ledger.delivered, mine]
  case sound =>
    rcases eq_or_ne i h.account with rfl | other
    · simpa [Ledger.delivered] using sound
    · simpa [Ledger.delivered, other] using books.sound i inside
  case reserved =>
    rcases eq_or_ne i h.account with rfl | other
    · have held := books.reserved_le listed
      simp only [Ledger.delivered, Function.update_self, reserved, reservedOn_cons, if_true, reservedOn_nil]
      rw [Sheet.reserved] at held ⊢
      omega
    · simp [Ledger.delivered, other, other.symm]
  case inQueue =>
    by_cases mine : h.owner = .job slot
    · have counted := books.sides_le listed mine held
      have same : j.less h.sides.length = j' := by simpa [Ledger.delivered, mine, held] using held'
      subst same
      simp only [sidesOf_cons, if_pos mine, sidesOf_nil, JobLine.less]
      omega
    · have same : j = j' := Option.some.inj (held.symm.trans (by simpa [Ledger.delivered, mine] using held'))
      subst same
      simp [mine]

/-- A sheet that no open side fills leaves the open side its own. -/
theorem Ledger.SideAgrees.deliver (agrees : L.SideAgrees) {rest : List Sheet} (queue : L.sheets = h :: rest)
    (unfilled : h.filling = none) : (L.delivered h rest).SideAgrees := by
  refine ⟨agrees.colours, fun o side => ?_, fun g there => ?_⟩
  · obtain ⟨g, there, filled⟩ := agrees.filled o side
    rw [queue, List.mem_cons] at there
    rcases there with rfl | there
    · obtain ⟨r, fills, -⟩ := filled.side
      cases unfilled.symm.trans fills
    · exact ⟨g, there, filled⟩
  · exact agrees.only g (queue ▸ List.mem_cons_of_mem h there)

end Sys2Proof.Machine
end

section
/-! The ledger of the part under its operations: what each changes of it, and that it stays balanced. -/

namespace Sys2Proof.Machine

variable {s t : State}

/-! ### Operations that leave the ledger -/

theorem ledger_of_units (job : t.job = s.job) (parser : t.parser = s.parser) (charging : t.charging = s.charging)
    (account : t.account = s.account) : t.ledger = s.ledger := by
  cases s
  cases t
  subst job parser charging account
  rfl

/-- What touches none of the units that the ledger is about leaves it. -/
theorem ledger_of_touches {ps : List Part} (h : Touches ps s t)
    (apart : ∀ p ∈ [Part.job, .parser, .charging, .account], p ∉ ps) : t.ledger = s.ledger :=
  ledger_of_units (h .job (apart _ (by simp))) (h .parser (apart _ (by simp))) (h .charging (apart _ (by simp)))
    (h .account (apart _ (by simp)))

theorem sideFramed_of_closed (closed : s.parser.openSide = none) : s.sideFramed := fun o side => by
  cases closed.symm.trans side

/-- The region of the open side stands as it did. -/
theorem sideFramed_congr (framed : s.sideFramed) (side : t.parser.openSide = s.parser.openSide)
    (regions : ∀ o, s.parser.openSide = some o → t.region o.region = s.region o.region) : t.sideFramed := by
  intro o mine
  rw [side] at mine
  rw [regions o mine]
  exact framed o mine

/-- What leaves the ledger and the regions leaves it balanced. -/
theorem ledgerBalanced_congr (balanced : s.ledgerBalanced) (ledger : t.ledger = s.ledger)
    (regions : ∀ i, t.region i = s.region i) : t.ledgerBalanced := by
  obtain ⟨books, agrees, framed⟩ := (ledgerBalanced_iff s).mp balanced
  refine (ledgerBalanced_iff t).mpr ⟨ledger ▸ books, ledger ▸ agrees, ?_⟩
  exact sideFramed_congr framed (congrArg Ledger.side ledger) fun o _ => regions o.region

theorem ledgerBalanced_of_touches {ps : List Part} (balanced : s.ledgerBalanced) (h : Touches ps s t)
    (apart : ∀ p ∈ [Part.transaction, .job, .parser, .charging, .account], p ∉ ps) : t.ledgerBalanced := by
  have transaction : t.transaction = s.transaction := h .transaction (apart _ (by simp))
  refine ledgerBalanced_congr balanced (ledger_of_touches h fun p listed => apart p (by simp_all)) fun i => ?_
  rw [State.region, transaction, State.region]

/-- With no side open the ledger is all there is to the law. -/
theorem ledgerBalanced_of_closed (books : t.ledger.Books) (agrees : t.ledger.SideAgrees)
    (closed : t.parser.openSide = none) : t.ledgerBalanced :=
  (ledgerBalanced_iff t).mpr ⟨books, agrees, sideFramed_of_closed closed⟩

theorem State.ledgerBalanced.opens {o : OpenSide} (balanced : s.ledgerBalanced) (side : s.parser.openSide = some o) :
    ∃ pre h post, s.ledger.Opens o pre h post := by
  obtain ⟨books, agrees, -⟩ := (ledgerBalanced_iff s).mp balanced
  exact agrees.opens books side

/-! ### Accounts and jobs -/

/-- An event at an account of the table (R125). -/
theorem ledger_chargeAccount {i : Nat} (inside : i < 2048) (s : State) (f : Account → Account) :
    (s.chargeAccount i f).ledger =
      { s.ledger with account := Function.update s.ledger.account i (f (s.accountAt i)), pristine := false } := by
  have account : (s.chargeAccount i f).accountAt = Function.update s.accountAt i (f (s.accountAt i)) := by
    funext k
    rcases eq_or_ne k i with rfl | other
    · rw [Function.update_self]
      exact tget_tset_same _ _ inside
    · rw [Function.update_of_ne other]
      exact tget_tset_other _ _ other
  rw [State.ledger, account]
  rfl

/-- A record changed in its slot. -/
theorem ledger_updateJob (s : State) (slot : Nat) (f : JobRecord → JobRecord) :
    (s.updateJob slot f).ledger =
      { s.ledger with
        job := Function.update s.ledger.job slot ((s.jobAt slot).map fun j => (f j).line) } := by
  have job : (fun k => ((s.updateJob slot f).jobAt k).map JobRecord.line) =
      Function.update s.ledger.job slot ((s.jobAt slot).map fun j => (f j).line) := by
    funext k
    rcases eq_or_ne k slot with rfl | other
    · rw [Function.update_self, jobAt_updateJob, Option.map_map]
      rfl
    · rw [Function.update_of_ne other, jobAt_updateJob_other s f other]
      rfl
  rw [State.ledger, job]
  rfl

/-- A record whose account and sides in queue stay is as it was in the ledger. -/
theorem ledger_updateJob_of_line {f : JobRecord → JobRecord} (line : ∀ j, (f j).line = j.line) (s : State)
    (slot : Nat) : (s.updateJob slot f).ledger = s.ledger := by
  simp only [ledger_updateJob, line]
  exact congrArg (fun job => { s.ledger with job := job }) (Function.update_eq_self slot s.ledger.job)

theorem ledgerBalanced_updateJob {f : JobRecord → JobRecord} (line : ∀ j, (f j).line = j.line) (slot : Nat)
    (balanced : s.ledgerBalanced) : (s.updateJob slot f).ledgerBalanced :=
  ledgerBalanced_congr balanced (ledger_updateJob_of_line line s slot) fun _ => rfl

/-! ### The completion of a close (R55, R56) -/

theorem ledger_completeClose {slot : Nat} {j : JobRecord} {c : Closing} (job : s.jobAt slot = some j)
    (phase : j.phase = .closing c) (reason : CloseReason) (sheets sides : Nat) :
    (s.completeClose slot reason sheets sides).ledger =
      { s.ledger with job := Function.update s.ledger.job slot none } := by
  have kept : Touches [.directive, .job, .cipher, .transaction] s (s.completeClose slot reason sheets sides) := by simp
  obtain ⟨free, others, -⟩ := completeClose_freesSlot job phase reason sheets sides
  generalize s.completeClose slot reason sheets sides = t at kept free others
  have slots : t.ledger.job = Function.update s.ledger.job slot none := by
    funext k
    rcases eq_or_ne k slot with rfl | other
    · rw [Function.update_self]
      exact congrArg (Option.map JobRecord.line) free
    · rw [Function.update_of_ne other]
      exact congrArg (Option.map JobRecord.line) (others k other)
  have rest : ({ t with job := s.job } : State).ledger = s.ledger :=
    ledger_of_units rfl (kept .parser (by simp)) (kept .charging (by simp)) (kept .account (by simp))
  rw [← slots, ← rest]
  rfl

/-- A slot freed that the open side is not of leaves its region (R10). -/
theorem sideFramed_of_freesSlot {slot : Nat} (framed : s.sideFramed) (freed : s.freesSlot t slot)
    (side : t.parser = s.parser) (other : ∀ o, s.parser.openSide = some o → o.slot ≠ slot) : t.sideFramed := by
  obtain ⟨-, -, -, -, -, regions, -⟩ := freed
  intro o mine
  rw [side] at mine
  obtain ⟨r, bound, owner, admits⟩ := framed o mine
  exact ⟨r, (regions o.region r).mpr ⟨bound, owner ▸ other o mine⟩, owner, admits⟩

/-- A close that completes is of a job that owns no sheet, and so not of the open side's. -/
theorem ledgerBalanced_completeClose {slot : Nat} (reason : CloseReason) (sheets sides : Nat)
    (balanced : s.ledgerBalanced) (unowned : ∀ h ∈ s.ledger.sheets, h.owner ≠ .job slot) :
    (s.completeClose slot reason sheets sides).ledgerBalanced := by
  cases job : s.jobAt slot with
  | none => rwa [State.completeClose, job]
  | some j =>
    cases phase : j.phase with
    | active | held | released => simpa only [State.completeClose, job, phase]
    | closing c =>
      obtain ⟨books, agrees, framed⟩ := (ledgerBalanced_iff s).mp balanced
      have kept : Touches [.directive, .job, .cipher, .transaction] s (s.completeClose slot reason sheets sides) := by
        simp
      have ledger := ledger_completeClose job phase reason sheets sides
      refine (ledgerBalanced_iff _).mpr ⟨ledger ▸ books.freeSlot unowned, ?_, ?_⟩
      · rw [ledger]
        exact ⟨agrees.colours, agrees.filled, agrees.only⟩
      · refine sideFramed_of_freesSlot framed (completeClose_freesSlot job phase reason sheets sides)
          (kept .parser (by simp)) fun o side same => ?_
        obtain ⟨h, listed, filled⟩ := agrees.filled o side
        exact unowned h listed (filled.owner.trans (congrArg Owner.job same))

theorem ledgerBalanced_drainTest (slot : Nat) (balanced : s.ledgerBalanced) : (s.drainTest slot).ledgerBalanced := by
  obtain ⟨same, -⟩ | ⟨j, c, held, -, empty, closes⟩ := drainTest_cases s slot
  · rwa [same]
  · obtain ⟨books, -⟩ := (ledgerBalanced_iff s).mp balanced
    obtain ⟨-, -, counted⟩ := books.jobs slot j.line (congrArg (Option.map JobRecord.line) held)
    rw [closes]
    exact ledgerBalanced_completeClose _ _ _ balanced fun h => owner_ne_of_sidesOf (counted.symm.trans empty)

theorem ledgerBalanced_drainOwner (owner : Owner) (balanced : s.ledgerBalanced) :
    (s.drainOwner owner).ledgerBalanced := by
  cases owner with
  | orphan => exact balanced
  | job slot => exact ledgerBalanced_drainTest slot balanced

/-! ### The abandonment of the open side (R92) -/

theorem ledger_setSheets (s : State) (q : List Sheet) : (s.setSheets q).ledger = { s.ledger with sheets := q } := rfl

theorem ledger_setOpenSide (s : State) (o : Option OpenSide) : (s.setOpenSide o).ledger = { s.ledger with side := o } :=
  rfl

section Abandoned

variable {o : OpenSide} {pre post : List Sheet} {h : Sheet}

theorem abandonSheet_sheets (opens : s.ledger.Opens o pre h post) :
    (s.abandonSheet o.sheet o.kind).charging = { s.charging with sheets := pre ++ h.leftover o.kind ++ post } := by
  have filter : s.charging.sheets.filter (fun g => g.name != o.sheet) = _ := opens.filter
  have map : s.charging.sheets.map (fun g => if g.name = o.sheet then _ else g) = _ :=
    opens.map fun h => { h with state := .awaitingBack, back := none }
  cases kind : o.kind <;> simp [State.abandonSheet, State.updateSheet, Sheet.leftover, filter, map]

/-- The six steps of R92 in the ledger. -/
theorem ledger_abandonSide (books : s.ledger.Books) (opens : s.ledger.Opens o pre h post) (cause : AbandonCause) :
    (s.abandonSide o cause).ledger = s.ledger.abandoned o pre h post := by
  have holds := books.holds h opens.listed
  obtain ⟨line, job, -⟩ := Option.map_eq_some_iff.mp (holds.job _ opens.filled.owner)
  obtain ⟨j, held, rfl⟩ := Option.map_eq_some_iff.mp job
  let settled := (((s.release h.account o.reservation).setSheets (pre ++ h.leftover o.kind ++ post)).updateJob o.slot
    JobRecord.abandonSide).setOpenSide none
  have slots : (s.abandonSide o cause).job = settled.job := by
    refine congrArg JobUnit.mk ((abandonSide_job held cause).trans ?_)
    rw [← Option.map_some (f := JobRecord.abandonSide), ← held]
    rfl
  have units : (s.abandonSide o cause).ledger = settled.ledger :=
    ledger_of_units slots (congrArg BandParser.mk (abandonSide_openSide s o cause))
      ((abandonSide_charging s o cause).trans (abandonSheet_sheets opens)) (abandonSide_account opens.find cause)
  rw [units, ledger_setOpenSide, ledger_updateJob, ledger_setSheets, State.release, ledger_chargeAccount holds.inside]
  have line : ((s.jobAt o.slot).map fun j => j.abandonSide.line) = (s.ledger.job o.slot).map (JobLine.less 1) := by
    rw [State.ledger, Option.map_map]
    rfl
  exact congrArg (fun x => { s.ledger.abandoned o pre h post with job := Function.update s.ledger.job o.slot x }) line

theorem ledgerBalanced_abandonSide (balanced : s.ledgerBalanced) (side : s.parser.openSide = some o)
    (cause : AbandonCause) : (s.abandonSide o cause).ledgerBalanced := by
  obtain ⟨pre, h, post, opens⟩ := balanced.opens side
  obtain ⟨books, -⟩ := (ledgerBalanced_iff s).mp balanced
  have ledger := ledger_abandonSide books opens cause
  obtain ⟨books', agrees'⟩ := opens.abandon books
  exact ledgerBalanced_of_closed (ledger ▸ books') (ledger ▸ agrees') (abandonSide_openSide s o cause)

end Abandoned

theorem ledgerBalanced_abandon (cause : AbandonCause) (balanced : s.ledgerBalanced) :
    (s.abandon cause).ledgerBalanced := by
  unfold State.abandon
  split
  · rename_i o side
    have abandoned := ledgerBalanced_abandonSide balanced side cause
    split
    · exact ledgerBalanced_drainTest o.slot abandoned
    · exact abandoned
  · exact balanced

end Sys2Proof.Machine
end

section
/-! The ledger under the engine lines, a close deadline, lockdown and reset (R57, R99, R103, R111, R168). -/

namespace Sys2Proof.Machine

variable {s t : State} {h : Sheet} {rest : List Sheet}

/-! ### The oldest sheet delivered (R100, R101) -/

theorem mem_ledger_of_queue (queue : s.charging.sheets = h :: rest) : h ∈ s.ledger.sheets := by
  show h ∈ s.charging.sheets
  simp [queue]

theorem committed_line (sides : List SideRecord) (j : JobRecord) :
    (sides.foldl JobRecord.committed j).line = j.line.less sides.length := by
  induction sides generalizing j with
  | nil => rfl
  | cons r sides ih =>
    have one : (j.committed r).line = j.line.less 1 := by
      unfold JobRecord.committed
      split <;> rfl
    rw [List.foldl_cons, ih, one]
    simp [JobLine.less, Nat.sub_sub, Nat.add_comm]

/-- The commits and the count of the oldest sheet, in the ledger. -/
theorem ledger_sheetCounted (queue : s.charging.sheets = h :: rest) (inside : h.account < 2048) :
    (s.sheetCounted h h.sides).ledger = s.ledger.delivered h rest := by
  have kept := touches_sheetCounted s h h.sides
  have account := sheetCounted_account (s := s) inside (sides := h.sides) (by simp [Sheet.sides])
  have charging := sheetCounted_charging (sides := h.sides) queue
  refine Ledger.ext (funext fun i => ?account) ?pristine ?sheets ?next (funext fun c => ?tariff) (funext fun slot => ?job)
    ?side
  case account =>
    show tget (s.sheetCounted h h.sides).account.accounts i = Function.update s.accountAt h.account _ i
    rw [account]
    rcases eq_or_ne i h.account with rfl | other
    · rw [Function.update_self]
      exact tget_tset_same _ _ inside
    · rw [Function.update_of_ne other]
      exact tget_tset_other _ _ other
  case pristine => exact congrArg AccountUnit.pristine account
  case sheets => exact congrArg ChargingUnit.sheets charging
  case next => exact (congrArg ChargingUnit.nextSheet charging :)
  case tariff =>
    show tget (s.sheetCounted h h.sides).charging.tariffs c = _
    rw [charging]
    rfl
  case job =>
    show ((s.sheetCounted h h.sides).jobAt slot).map JobRecord.line =
      if h.owner = .job slot then ((s.jobAt slot).map JobRecord.line).map (JobLine.less h.sides.length)
      else (s.jobAt slot).map JobRecord.line
    cases owner : h.owner with
    | orphan =>
      rw [jobAt_of_job_eq (sheetCounted_job_of_no_job (fun k mine => by cases owner.symm.trans mine) h.sides)]
      simp
    | job k =>
      rcases eq_or_ne slot k with rfl | other
      · rw [if_pos rfl]
        cases held : s.jobAt slot with
        | none =>
          rw [jobAt_of_job_eq (sheetCounted_job_of_no_job (fun k mine => by cases owner.symm.trans mine; exact held)
            h.sides), held]
          rfl
        | some j =>
          rw [sheetCounted_jobAt_same owner held]
          exact congrArg some (committed_line h.sides j)
      · rw [if_neg (by simpa using other.symm), sheetCounted_jobAt_other owner _ other]
  case side => exact congrArg BandParser.openSide (kept .parser (by simp))

theorem ledgerBalanced_deliverSheet (balanced : s.ledgerBalanced) (queue : s.charging.sheets = h :: rest)
    (unfilled : h.filling = none) : (s.deliverSheet h h.sides).ledgerBalanced := by
  obtain ⟨books, agrees, framed⟩ := (ledgerBalanced_iff s).mp balanced
  have kept := touches_sheetCounted s h h.sides
  have listed := mem_ledger_of_queue queue
  have ledger := ledger_sheetCounted queue (books.holds h listed).inside
  rw [deliverSheet_eq]
  refine ledgerBalanced_drainOwner _ ((ledgerBalanced_iff _).mpr ⟨?_, ?_, ?_⟩)
  · exact ledger ▸ books.deliver queue
  · exact ledger ▸ agrees.deliver queue unfilled
  · refine sideFramed_congr framed (congrArg BandParser.openSide (kept .parser (by simp))) fun o _ => ?_
    rw [State.region, kept .transaction (by simp), State.region]

/-- A side that the oldest sheet fills is the open side, and leaves its sheet the oldest when it is abandoned. -/
theorem abandon_oldest (balanced : s.ledgerBalanced) (queue : s.charging.sheets = h :: rest)
    (state : h.state = .fillingBack) (cause : AbandonCause) :
    (s.abandon cause).charging.sheets = { h with state := .awaitingBack, back := none } :: rest := by
  obtain ⟨books, agrees, -⟩ := (ledgerBalanced_iff s).mp balanced
  have listed := mem_ledger_of_queue queue
  have fills : h.filling ≠ none := by simpa [Sheet.filling, state] using (books.holds h listed).backed state
  obtain ⟨o, side, -⟩ := agrees.only h listed fills
  obtain ⟨pre, g, post, opens⟩ := agrees.opens books side
  have first : pre = [] := by
    cases pre with
    | nil => rfl
    | cons x pre =>
      obtain ⟨rfl, -⟩ := List.cons.inj (queue.symm.trans opens.queue)
      exact absurd (opens.others h (.inl List.mem_cons_self)).2 fills
  subst first
  obtain ⟨rfl, rfl⟩ := List.cons.inj (queue.symm.trans opens.queue)
  have back : o.kind = .back := by
    by_contra other
    cases state.symm.trans (opens.filled.state.trans (if_neg other))
  have drained := touches_abandon_afterSteps side cause
  rw [drained .charging (by simp)]
  have ledger := congrArg Ledger.sheets (ledger_abandonSide books opens cause)
  simp only [Ledger.abandoned, Sheet.leftover, back] at ledger
  exact ledger

theorem ledgerBalanced_askNotice {k : NoticeKind} {vs : List Val} (balanced : s.ledgerBalanced) :
    (s.askNotice k vs).ledgerBalanced := ledgerBalanced_congr balanced rfl fun _ => rfl

theorem ledgerBalanced_engSheet (balanced : s.ledgerBalanced) : s.engSheet.ledgerBalanced := by
  unfold State.engSheet
  split
  · rename_i h rest queue
    obtain ⟨books, -⟩ := (ledgerBalanced_iff s).mp balanced
    have holds := books.holds h (mem_ledger_of_queue queue)
    cases state : h.state with
    | complete =>
      simp only [State.sheetDelivered, state]
      exact ledgerBalanced_deliverSheet balanced queue (by simp [Sheet.filling, state])
    | awaitingBack =>
      have sides : [h.front] = h.sides := by simp [Sheet.sides, holds.unbacked (.inr state)]
      simp only [State.sheetDelivered, state, sides]
      exact ledgerBalanced_askNotice (ledgerBalanced_deliverSheet balanced queue (by simp [Sheet.filling, state]))
    | fillingBack =>
      simp only [State.sheetDelivered, state]
      refine ledgerBalanced_askNotice ?_
      let left : Sheet := { h with state := .awaitingBack, back := none }
      have delivered : ((s.abandon .earlySheet).deliverSheet left left.sides).ledgerBalanced :=
        ledgerBalanced_deliverSheet (ledgerBalanced_abandon .earlySheet balanced)
          (abandon_oldest balanced queue state .earlySheet) rfl
      rwa [deliverSheet_congr (g := left) (h := h) rfl rfl] at delivered
    | fillingFront =>
      simp only [State.sheetDelivered, state]
      exact ledgerBalanced_askNotice (ledgerBalanced_abandon .earlySheet balanced)
  · exact ledgerBalanced_askNotice balanced

/-! ### Every sheet dropped (R103) -/

theorem dropSheets_pristine (sheets : List Sheet) (s : State) :
    (sheets.foldl State.dropSheet s).account.pristine = (sheets.isEmpty && s.account.pristine) := by
  induction sheets generalizing s with
  | nil => rfl
  | cons h sheets ih =>
    have after : Touches [.job, .transaction, .cipher, .directive] (s.dropAccount h.account h.reserved)
        (s.dropSheet h) := by simp [State.dropSheet]
    rw [List.foldl_cons, ih, after .account (by simp)]
    simp [State.dropAccount, State.chargeAccount, State.clearPristine]

/-- What a job slot holds after drops was there before, with the sides of its sheets less. -/
theorem foldl_slotAfterDrop_line (sheets : List Sheet) {x : Option JobRecord} {j : JobRecord}
    (left : sheets.foldl slotAfterDrop x = some j) :
    ∃ j₀, x = some j₀ ∧ j.line = j₀.line.less (sheets.map fun h => h.sides.length).sum := by
  induction sheets generalizing x with
  | nil => exact ⟨j, left, by simp [JobLine.less]⟩
  | cons h sheets ih =>
    obtain ⟨j₁, drop, line⟩ := ih left
    obtain ⟨j₀, was, stays⟩ := Option.bind_eq_some_iff.mp drop
    have same : j₀.dropped h = j₁ := by
      unfold JobRecord.unlessDrained at stays
      split at stays
      · cases stays
      · exact Option.some.inj stays
    refine ⟨j₀, was, ?_⟩
    rw [line, ← same]
    simp [JobLine.less, JobRecord.line, JobRecord.dropped, Nat.sub_sub]

/-- Every sheet leaves the queue, and nothing stays reserved or counted for one. -/
theorem Ledger.Books.dropAll {L M : Ledger} (books : L.Books) (sheets : M.sheets = []) (tariff : M.tariff = L.tariff)
    (unused : M.pristine = false)
    (accounts : ∀ i < 2048, (M.account i).Sound ∧ (M.account i).state = (L.account i).state ∧ (M.account i).reserved = 0)
    (jobs : ∀ slot j, M.job slot = some j → j.inQueue = 0 ∧ ∃ j₀, L.job slot = some j₀ ∧ j₀.account = j.account) :
    M.Books where
  reserved i inside := by rw [(accounts i inside).2.2, sheets, reservedOn_nil]
  sound i inside := (accounts i inside).1
  names := by simp [sheets]
  holds h listed := by simp [sheets] at listed
  jobs slot j job := by
    obtain ⟨empty, j₀, job₀, same⟩ := jobs slot j job
    obtain ⟨inside, inUse, -⟩ := books.jobs slot j₀ job₀
    rw [same] at inside inUse
    obtain ⟨-, state, -⟩ := accounts j.account inside
    exact ⟨inside, state ▸ inUse, by simp [empty, sheets]⟩
  tariff := tariff ▸ books.tariff
  pristine := by simp [unused]

/-- An account of which every sheet is dropped reserves nothing more (R103, R115). -/
theorem Ledger.Books.dropAccount {L : Ledger} (books : L.Books) {i : Nat} (inside : i < 2048) {a : Account}
    (dropped : a = (L.sheets.filter fun h => h.account == i).foldl Account.dropped (L.account i)) :
    a.Sound ∧ a.state = (L.account i).state ∧ a.reserved = 0 := by
  have reserved := books.reserved i inside
  rw [reservedOn] at reserved
  cases mine : L.sheets.filter fun h => h.account == i with
  | nil =>
    rw [mine] at reserved dropped
    subst dropped
    exact ⟨books.sound i inside, rfl, reserved⟩
  | cons h others =>
    have named : h ∈ L.sheets ∧ h.account = i := by
      simpa using List.mem_filter.mp (mine ▸ List.mem_cons_self : h ∈ L.sheets.filter fun h => h.account == i)
    have inUse := (books.holds h named.1).inUse
    rw [named.2] at inUse
    rw [mine] at reserved
    rw [mine, foldl_dropped] at dropped
    subst dropped
    exact ⟨(books.sound i inside).settled inUse rfl rfl le_rfl (Nat.sub_le ..) (by push_cast; omega), rfl,
      by simp [reserved]⟩

/-- With no side open, the drop of every sheet of a queue leaves nothing reserved and no side counted (R103). -/
theorem ledgerBalanced_dropSheets (balanced : s.ledgerBalanced) (closed : s.parser.openSide = none)
    (queue : s.charging.sheets ≠ []) :
    (s.charging.sheets.foldl State.dropSheet (s.setSheets [])).ledgerBalanced := by
  obtain ⟨books, -⟩ := (ledgerBalanced_iff s).mp balanced
  have dropped : Touches [.transaction, .cipher, .directive, .job, .account] (s.setSheets [])
      (s.charging.sheets.foldl State.dropSheet (s.setSheets [])) :=
    (touches_foldl fun a h => touches_dropSheet h (by simp) (by simp) (by simp) (by simp) (by simp)).mpr
      (touches_refl _ _)
  have accounts (i : Nat) (inside : i < 2048) := dropSheets_accountAt inside s.charging.sheets (s.setSheets [])
  have slots := dropSheets_jobAt s.charging.sheets (s.setSheets [])
  have pristine := dropSheets_pristine s.charging.sheets (s.setSheets [])
  rw [List.isEmpty_eq_false_iff.mpr queue, Bool.false_and] at pristine
  generalize s.charging.sheets.foldl State.dropSheet (s.setSheets []) = t at dropped accounts slots pristine
  have charging : t.charging = (s.setSheets []).charging := dropped .charging (by simp)
  have parser : t.parser = s.parser := dropped .parser (by simp)
  have empty : t.ledger.sheets = [] := congrArg ChargingUnit.sheets charging
  have side : t.parser.openSide = none := parser ▸ closed
  have tariff : t.ledger.tariff = s.ledger.tariff := funext fun c => by
    show tget t.charging.tariffs c = _
    rw [charging]
    rfl
  refine ledgerBalanced_of_closed (books.dropAll empty tariff pristine (fun i inside => ?_) fun slot line job => ?_)
    (sideAgrees_of_closed side fun g listed => ?_) side
  · exact books.dropAccount inside (accounts i inside)
  · obtain ⟨j, held, rfl⟩ := Option.map_eq_some_iff.mp job
    obtain ⟨j₀, was, line⟩ := foldl_slotAfterDrop_line _ ((slots slot).symm.trans held)
    have job₀ : s.ledger.job slot = some j₀.line := congrArg (Option.map JobRecord.line) was
    obtain ⟨-, -, counted⟩ := books.jobs slot _ job₀
    have sides : sidesOf s.ledger.sheets slot =
        ((s.charging.sheets.filter fun h => decide (h.owner = .job slot)).map fun h => h.sides.length).sum := rfl
    refine ⟨?_, _, job₀, by rw [line]; rfl⟩
    simp only [line, JobLine.less, counted, sides, Nat.sub_self]
  · rw [empty] at listed
    cases listed

theorem ledgerBalanced_engJam (balanced : s.ledgerBalanced) : s.engJam.ledgerBalanced := by
  have left := ledgerBalanced_abandon .jam balanced
  have closed := abandon_openSide s .jam
  unfold State.engJam
  generalize s.abandon .jam = a at left closed
  refine ledgerBalanced_askNotice ?_
  rcases eq_or_ne a.charging.sheets [] with queue | queue
  · rw [queue]
    exact ledgerBalanced_congr left (congrArg (fun q => { a.ledger with sheets := q }) queue.symm) fun _ => rfl
  · exact ledgerBalanced_dropSheets left closed queue

/-! ### The close deadline (R57) -/

theorem orphanSheetsOf_eq (s : State) (slot : Nat) :
    s.orphanSheetsOf slot = s.setSheets (s.charging.sheets.map (Sheet.orphaned (· == slot))) := by
  refine congrArg s.setSheets (List.map_congr_left fun h _ => ?_)
  cases owner : h.owner <;> simp [Sheet.orphaned, owner]

theorem orphanAllSheets_eq (s : State) :
    s.orphanAllSheets = s.setSheets (s.charging.sheets.map (Sheet.orphaned fun _ => true)) := by
  refine congrArg s.setSheets (List.map_congr_left fun h _ => ?_)
  obtain ⟨name, owner, account, state, front, back⟩ := h
  cases owner <;> rfl

/-- A ledger in which the sheet queue and the jobs alone have changed. -/
theorem ledger_of_queue_and_jobs {q : List Sheet} {job : Nat → Option JobLine} (account : t.account = s.account)
    (parser : t.parser = s.parser) (charging : t.charging = (s.setSheets q).charging)
    (jobs : ∀ slot, (t.jobAt slot).map JobRecord.line = job slot) :
    t.ledger = { s.ledger with sheets := q, job := job } := by
  have rest : ({ t with job := s.job } : State).ledger = (s.setSheets q).ledger :=
    ledger_of_units rfl parser charging account
  have both : t.ledger = { ({ t with job := s.job } : State).ledger with job := t.ledger.job } := rfl
  rw [both, rest, show t.ledger.job = job from funext jobs]
  rfl

/-- The sheet that fills is the open side's (R94). -/
theorem Ledger.SideAgrees.filledBy {L : Ledger} (agrees : L.SideAgrees) (books : L.Books) (listed : h ∈ L.sheets)
    (fills : h.filling ≠ none) : ∃ o, L.side = some o ∧ h.FilledBy o := by
  obtain ⟨o, side, named⟩ := agrees.only h listed fills
  obtain ⟨pre, g, post, opens⟩ := agrees.opens books side
  have among : h ∈ pre ∨ h = g ∨ h ∈ post := by simpa [opens.queue] using listed
  rcases among with before | rfl | after
  · exact absurd named (opens.others h (.inl before)).1
  · exact ⟨o, side, opens.filled⟩
  · exact absurd named (opens.others h (.inr after)).1

/-- The jobs of a set of slots that the open side is not of end, and their sheets become ORPHAN. -/
theorem Ledger.Books.orphan_agrees {L : Ledger} (books : L.Books) (agrees : L.SideAgrees) (freed : Nat → Bool)
    (other : ∀ o, L.side = some o → freed o.slot = false) :
    let M : Ledger :=
      { L with
        sheets := L.sheets.map (Sheet.orphaned freed)
        job := fun slot => if freed slot then none else L.job slot }
    M.Books ∧ M.SideAgrees := by
  refine ⟨books.orphan freed fun h listed slot owner gone => ?_, agrees.colours, fun o side => ?_, fun g listed fills => ?_⟩
  · by_contra fills
    obtain ⟨o, side, filled⟩ := agrees.filledBy books listed fills
    obtain rfl : slot = o.slot := by simpa [owner] using filled.owner
    exact absurd gone (by simp [other o side])
  · obtain ⟨h, listed, filled⟩ := agrees.filled o side
    have same : h.orphaned freed = h := by simp [Sheet.orphaned, filled.owner, other o side]
    exact ⟨h, same ▸ List.mem_map_of_mem listed, filled⟩
  · obtain ⟨h, was, rfl⟩ := List.mem_map.mp listed
    rw [orphaned_filling] at fills
    rw [(orphaned_kept freed h).1]
    exact agrees.only h was fills

/-- A close that times out with no side of its job open leaves its sheets ORPHAN and its slot FREE (R57, R58). -/
theorem ledgerBalanced_closeTimedOut_of_closed {slot : Nat} {j : JobRecord} {c : Closing} (balanced : s.ledgerBalanced)
    (held : s.jobAt slot = some j) (phase : j.phase = .closing c) (closed : s.openSideOf slot = false) :
    (s.closeTimedOut slot j).ledgerBalanced := by
  obtain ⟨books, agrees, framed⟩ := (ledgerBalanced_iff s).mp balanced
  obtain ⟨-, freed, charging, frame⟩ := closeTimedOut_of_closed held phase closed
  have parser : (s.closeTimedOut slot j).parser = s.parser := frame .parser (by simp)
  have account : (s.closeTimedOut slot j).account = s.account := frame .account (by simp)
  have other (o : OpenSide) (side : s.parser.openSide = some o) : o.slot ≠ slot := by
    simpa [State.openSideOf, side] using closed
  generalize s.closeTimedOut slot j = t at freed charging parser account
  have framed' := sideFramed_of_freesSlot framed freed parser other
  obtain ⟨free, others, -⟩ := freed
  have ledger : t.ledger =
      { s.ledger with
        sheets := s.ledger.sheets.map (Sheet.orphaned (· == slot))
        job := fun k => if (k == slot) = true then none else s.ledger.job k } := by
    refine ledger_of_queue_and_jobs account parser (charging.trans (congrArg _ (orphanSheetsOf_eq s slot))) fun k => ?_
    rcases eq_or_ne k slot with rfl | other
    · simp [free]
    · simpa [State.ledger, other] using congrArg (Option.map JobRecord.line) (others k other)
  obtain ⟨books', agrees'⟩ := books.orphan_agrees agrees (· == slot) fun o side => beq_false_of_ne (other o side)
  exact (ledgerBalanced_iff t).mpr ⟨ledger ▸ books', ledger ▸ agrees', framed'⟩

theorem ledgerBalanced_closeDeadline (slot : Nat) (balanced : s.ledgerBalanced) :
    (s.closeDeadline slot).ledgerBalanced := by
  unfold State.closeDeadline
  split
  · rename_i j held
    split
    · rename_i due
      have closing : ∃ c, j.phase = .closing c := by
        cases phase : j.phase <;> simp [State.deadlineDue, State.deadlineOf, held, phase] at due ⊢
      obtain ⟨c, phase⟩ := closing
      cases opened : s.openSideOf slot with
      | false => exact ledgerBalanced_closeTimedOut_of_closed balanced held phase opened
      | true =>
        obtain ⟨o, side, rfl⟩ := Option.map_eq_some_iff.mp (openSideOf_iff.mp opened)
        have abandoned := ledgerBalanced_abandonSide balanced side .closeTimeout
        have closed : (s.abandonSide o .closeTimeout).openSideOf o.slot = false := by
          rw [State.openSideOf, abandonSide_openSide]
        -- the notice shows the record's number and account alone, which an abandonment leaves
        have timedOut : s.closeTimedOut o.slot j =
            (s.abandonSide o .closeTimeout).closeTimedOut o.slot j.abandonSide := closeTimedOut_of_open side rfl j
        rw [timedOut]
        exact ledgerBalanced_closeTimedOut_of_closed abandoned (abandonSide_jobAt o .closeTimeout held) phase closed
    · exact balanced
  · exact balanced

/-! ### Lockdown and reset (R111, R168) -/

/-- The entry at every block leaves every sheet ORPHAN and every slot FREE (R168). -/
theorem ledgerBalanced_enterBlocks (e : CauseEvent) (balanced : s.ledgerBalanced) :
    (s.enterBlocks e).ledgerBalanced := by
  have told : (s.enterMode e).ledgerBalanced :=
    ledgerBalanced_of_touches (ps := [.directive, .lockdown]) balanced (by simp) (by simp)
  have left := ledgerBalanced_abandon .lockdown told
  have closed := abandon_openSide (s.enterMode e) .lockdown
  unfold State.enterBlocks
  generalize (s.enterMode e).abandon .lockdown = a at left closed
  obtain ⟨books, agrees, -⟩ := (ledgerBalanced_iff a).mp left
  obtain ⟨jobs, -⟩ := (slotTables_eq_free_iff _).mp (freeAll_slotTables a.orphanAllSheets)
  have freed : Touches [.cipher, .transaction, .directive, .job] a.orphanAllSheets
      a.orphanAllSheets.eraseKeys.freeAllRegions.freeAllSlots := by simp
  refine ledgerBalanced_of_touches (ps := [.directive, .meter])
    (s := a.orphanAllSheets.eraseKeys.freeAllRegions.freeAllSlots) ?_ (by simp) (by simp)
  generalize a.orphanAllSheets.eraseKeys.freeAllRegions.freeAllSlots = b at jobs freed
  have parser : b.parser = a.parser := freed .parser (by simp)
  have ledger : b.ledger =
      { a.ledger with
        sheets := a.ledger.sheets.map (Sheet.orphaned fun _ => true)
        job := fun slot => if true = true then none else a.ledger.job slot } :=
    ledger_of_queue_and_jobs (freed .account (by simp)) parser
      ((freed .charging (by simp)).trans (congrArg _ (orphanAllSheets_eq a))) fun slot => by simp [jobs slot]
  obtain ⟨books', agrees'⟩ := books.orphan_agrees agrees (fun _ => true) fun o side => by cases closed.symm.trans side
  exact ledgerBalanced_of_closed (ledger ▸ books') (ledger ▸ agrees') (parser ▸ closed)

theorem ledgerBalanced_takeCause (e : CauseEvent) (balanced : s.ledgerBalanced) : (s.takeCause e).ledgerBalanced := by
  unfold State.takeCause
  split
  · exact ledgerBalanced_askNotice balanced
  · exact ledgerBalanced_of_touches (ps := [.directive]) (ledgerBalanced_enterBlocks e balanced) (by simp) (by simp)

theorem ledgerBalanced_keyFaultReport (balanced : s.ledgerBalanced) : s.keyFaultReport.ledgerBalanced := by
  unfold State.keyFaultReport
  split
  · exact ledgerBalanced_takeCause _ (ledgerBalanced_congr balanced rfl fun _ => rfl)
  · exact balanced

/-- Reset gives the ledger, and the regions, their reset values (R21, R94, R111, R112). -/
theorem ledgerBalanced_resetTo (s : State) (cause : ResetCause) : (s.resetTo cause).ledgerBalanced :=
  ledgerBalanced_congr reset_ledgerBalanced rfl fun _ => rfl

end Sys2Proof.Machine
end

section
/-! The ledger under the band parser (R80 to R92). -/

namespace Sys2Proof.Machine

variable {s : State} {o : OpenSide} {i : Nat}

/-! ### Framing -/

theorem admits_of_page {r : Region} {f : Framing} {cursor : Nat} {mask : PlaneMask} (body : r.body = .page f cursor)
    (fits : ∀ remaining plane, f = .inPayload remaining plane → hasPlane mask plane = true) : r.admits mask := by
  unfold Region.admits
  rw [body]
  cases f with
  | inPayload remaining plane => exact fits remaining plane rfl
  | atHeader | broken => trivial

/-- The framing of a region replaced by one that the open side's mask admits. -/
theorem sideFramed_setFraming {f : Framing} {cursor : Nat} (framed : s.sideFramed)
    (fits : ∀ remaining plane, f = .inPayload remaining plane →
      ∀ o, s.parser.openSide = some o → o.region = i → hasPlane o.mask plane = true) :
    (s.setFraming i f cursor).sideFramed := by
  have kept : Touches [.transaction] s (s.setFraming i f cursor) := by simp
  intro o side
  rw [kept .parser (by simp)] at side
  obtain ⟨r, bound, mine, admits⟩ := framed o side
  by_cases here : o.region = i
  · subst here
    cases body : r.body with
    | scan n =>
      rw [Region.admits, body] at admits
      exact admits.elim
    | page f' cursor' =>
      refine ⟨{ r with body := .page f cursor }, ?_, mine, admits_of_page rfl fun n plane payload => ?_⟩
      · rw [setFraming_of_page bound body]
        exact tget_tset_same _ _ (lt_of_region s bound)
      · exact fits n plane payload o side rfl
  · exact ⟨r, (region_setFraming_other here ..).trans bound, mine, admits⟩

theorem ledgerBalanced_setFraming {f : Framing} {cursor : Nat} (balanced : s.ledgerBalanced)
    (fits : ∀ remaining plane, f = .inPayload remaining plane →
      ∀ o, s.parser.openSide = some o → o.region = i → hasPlane o.mask plane = true) :
    (s.setFraming i f cursor).ledgerBalanced := by
  obtain ⟨books, agrees, framed⟩ := (ledgerBalanced_iff s).mp balanced
  have ledger : (s.setFraming i f cursor).ledger = s.ledger :=
    ledger_of_touches (ps := [.transaction]) (by simp) (by simp)
  exact (ledgerBalanced_iff _).mpr ⟨ledger ▸ books, ledger ▸ agrees, sideFramed_setFraming framed fits⟩

theorem openSideIn_eq_some_iff : s.openSideIn i = some o ↔ s.parser.openSide = some o ∧ o.region = i := by
  unfold State.openSideIn
  cases s.parser.openSide with
  | none => simp
  | some p =>
    by_cases here : p.region = i
    · simp only [here, if_true, Option.some.injEq]
      exact ⟨fun same => ⟨same, same ▸ here⟩, And.left⟩
    · simp only [here, if_false, Option.some.injEq, reduceCtorEq, false_iff, not_and]
      rintro rfl
      exact here

/-- The payload of a region is of a plane of the open side's mask (R82). -/
theorem hasPlane_of_payload (balanced : s.ledgerBalanced) (side : s.openSideIn i = some o) {n cursor : Nat}
    {plane : Plane} (stands : s.framingOf i = some (.inPayload n plane, cursor)) : hasPlane o.mask plane = true := by
  obtain ⟨-, -, framed⟩ := (ledgerBalanced_iff s).mp balanced
  obtain ⟨opened, rfl⟩ := openSideIn_eq_some_iff.mp side
  obtain ⟨r, bound, -, admits⟩ := framed o opened
  obtain ⟨q, bound', body⟩ := framingOf_eq_some_iff.mp stands
  obtain rfl : r = q := Option.some.inj (bound.symm.trans bound')
  rw [Region.admits, body] at admits
  exact admits

/-! ### Payload and the end of a band (R90, R91) -/

/-- The ledger and the framing of its region take the same of two open sides. -/
structure OpenSide.SameSide (o o' : OpenSide) : Prop where
  region      : o'.region = o.region
  slot        : o'.slot = o.slot
  sheet       : o'.sheet = o.sheet
  kind        : o'.kind = o.kind
  mask        : o'.mask = o.mask
  reservation : o'.reservation = o.reservation

theorem ledgerBalanced_setOpenSide {o' : OpenSide} (balanced : s.ledgerBalanced) (side : s.parser.openSide = some o)
    (same : o.SameSide o') (colours : hasColour o.mask = false → o'.dots.colour = 0) :
    (s.setOpenSide (some o')).ledgerBalanced := by
  obtain ⟨books, agrees, framed⟩ := (ledgerBalanced_iff s).mp balanced
  obtain ⟨region, slot, sheet, kind, mask, reservation⟩ := same
  refine (ledgerBalanced_iff _).mpr ⟨{ books with holds := fun h listed => { books.holds h listed with } },
    ⟨fun p mine => ?_, fun p mine => ?_, fun h listed fills => ?_⟩, fun p mine => ?_⟩
  · cases mine
    exact mask ▸ colours
  · cases mine
    obtain ⟨h, listed, filled⟩ := agrees.filled o side
    obtain ⟨name, owner, state, fills⟩ := filled
    exact ⟨h, listed, sheet ▸ name, slot ▸ owner, kind ▸ state, by rw [mask, reservation]; exact fills⟩
  · obtain ⟨p, mine, named⟩ := agrees.only h listed fills
    obtain rfl : o = p := Option.some.inj (side.symm.trans mine)
    exact ⟨o', rfl, named.trans sheet.symm⟩
  · cases mine
    obtain ⟨r, bound, mine, admits⟩ := framed o side
    exact ⟨r, region ▸ bound, mine.trans slot.symm, mask ▸ admits⟩

/-- The dot-levels of a plane that is not C, M or Y are no colour dot-levels. -/
theorem colour_add_of_plane {mask : PlaneMask} {plane : Plane} (plain : hasColour mask = false)
    (inside : hasPlane mask plane = true) (d : Dots) (n : Nat) : (d.add plane n).colour = d.colour := by
  cases plane with
  | k => rfl
  | c | m | y => simp [hasColour, inside] at plain

theorem ledgerBalanced_countPayload (balanced : s.ledgerBalanced) {n cursor : Nat} {plane : Plane}
    (stands : s.framingOf i = some (.inPayload n plane, cursor)) (bytes : List Byte) :
    (s.countPayload i plane bytes).ledgerBalanced := by
  cases side : s.openSideIn i with
  | none => rwa [State.countPayload, side]
  | some o =>
    obtain ⟨opened, -⟩ := openSideIn_eq_some_iff.mp side
    obtain ⟨-, agrees, -⟩ := (ledgerBalanced_iff s).mp balanced
    rw [countPayload_of_open side]
    refine ledgerBalanced_setOpenSide balanced opened ⟨rfl, rfl, rfl, rfl, rfl, rfl⟩ fun plain => ?_
    exact (colour_add_of_plane plain (hasPlane_of_payload balanced side stands) ..).trans (agrees.colours o opened plain)

/-- The sheet of a completed side advances, and no side is open (R91). -/
theorem ledgerBalanced_completeSide (balanced : s.ledgerBalanced) (side : s.parser.openSide = some o) :
    (s.completeSide o).ledgerBalanced := by
  obtain ⟨pre, h, post, opens⟩ := balanced.opens side
  obtain ⟨books, -⟩ := (ledgerBalanced_iff s).mp balanced
  obtain ⟨books', agrees'⟩ := opens.complete books
  have queue : s.updateSheet o.sheet (Sheet.completeSide o.kind o.dots) =
      s.setSheets (pre ++ [h.completeSide o.kind o.dots] ++ post) := by
    refine congrArg s.setSheets ((opens.map (Sheet.completeSide o.kind o.dots)).trans ?_)
    simp
  have drawn : (s.setSheets (pre ++ [h.completeSide o.kind o.dots] ++ post)).drawImaging.ledger =
      (s.setSheets (pre ++ [h.completeSide o.kind o.dots] ++ post)).ledger :=
    ledger_of_touches (ps := [.directive, .consumable, .link]) (by simp) (by simp)
  have ledger : (s.completeSide o).ledger =
      { s.ledger with sheets := pre ++ [h.completeSide o.kind o.dots] ++ post, side := none } := by
    rw [State.completeSide, queue, ledger_setOpenSide, drawn]
    rfl
  exact ledgerBalanced_of_closed (ledger ▸ books') (ledger ▸ agrees') rfl

theorem ledgerBalanced_endBand (balanced : s.ledgerBalanced) (plane : Plane) (cursor : Nat) :
    (s.endBand i plane cursor).ledgerBalanced := by
  simp only [State.endBand]
  split
  · rename_i o side
    obtain ⟨opened, -⟩ := openSideIn_eq_some_iff.mp side
    have handed : Touches [.directive, .consumable, .link] s (s.handBand (some plane) o.bandDots) := by simp
    have drawn := ledgerBalanced_of_touches balanced handed (by simp)
    have still : (s.handBand (some plane) o.bandDots).parser.openSide = some o :=
      (congrArg BandParser.openSide (handed .parser (by simp))).trans opened
    obtain ⟨-, agrees, -⟩ := (ledgerBalanced_iff _).mp drawn
    have ended : (((s.handBand (some plane) o.bandDots).setOpenSide (some o.bandEnded)).setFraming i .atHeader
        cursor).ledgerBalanced :=
      ledgerBalanced_setFraming
        (ledgerBalanced_setOpenSide drawn still ⟨rfl, rfl, rfl, rfl, rfl, rfl⟩ (agrees.colours o still)) nofun
    split
    · have framed (b : State) : Touches [.transaction] b (b.setFraming i .atHeader cursor) := by simp
      exact ledgerBalanced_completeSide ended (congrArg BandParser.openSide (framed _ .parser (by simp)))
    · exact ended
  · exact ledgerBalanced_setFraming balanced nofun

/-! ### Restarts and headers (R80 to R83) -/

theorem ledgerBalanced_restartFraming (v : VideoRead) (balanced : s.ledgerBalanced) :
    (s.restartFraming v).ledgerBalanced := by
  unfold State.restartFraming
  split
  · refine ledgerBalanced_setFraming ?_ nofun
    split
    · exact ledgerBalanced_abandon .restart balanced
    · exact balanced
  · exact balanced

theorem ledgerBalanced_framingError (v : VideoRead) (offset : Nat) (reason : FramingReason)
    (balanced : s.ledgerBalanced) : (s.framingError v offset reason).ledgerBalanced := by
  refine ledgerBalanced_askNotice (ledgerBalanced_setFraming ?_ nofun)
  split
  · exact ledgerBalanced_abandon .framing balanced
  · exact balanced

/-- A header of a plane of the open side's mask is consumed (R81, R82). -/
theorem ledgerBalanced_consumeHeader {offset : Nat} {h : BandHeader} {plane : Plane} (balanced : s.ledgerBalanced)
    (fits : ∀ o, s.openSideIn i = some o → hasPlane o.mask plane = true) :
    (s.consumeHeader i offset h plane).ledgerBalanced := by
  cases side : s.parser.openSide with
  | none =>
    refine ledgerBalanced_setFraming (ledgerBalanced_congr balanced ?_ fun _ => rfl) fun _ _ _ o mine => ?_
    · rw [ledger_setOpenSide, side]
      exact congrArg (fun x => { s.ledger with side := x }) side.symm
    · rw [setOpenSide_parser, side] at mine
      cases mine
  | some o =>
    obtain ⟨-, agrees, -⟩ := (ledgerBalanced_iff s).mp balanced
    refine ledgerBalanced_setFraming ?_ fun _ q payload p mine here => ?_
    · rw [side]
      exact ledgerBalanced_setOpenSide balanced side ⟨rfl, rfl, rfl, rfl, rfl, rfl⟩ (agrees.colours o side)
    · rw [setOpenSide_parser, side] at mine
      cases mine
      cases payload
      exact fits o (openSideIn_eq_some_iff.mpr ⟨side, here⟩)

/-- A header that goes on with the open side is of a plane of its mask (R82). -/
theorem hasPlane_of_continues {h : BandHeader} {length offset : Nat} {open? : Option OpenSide} {plane : Plane}
    (judged : judgeHeader h length offset open? = .continues plane) (mine : open? = some o) :
    hasPlane o.mask plane = true := by
  subst mine
  simp only [judgeHeader, judgeStart, judgeLater] at judged
  (repeat' split at judged) <;> cases judged
  simp_all

/-- A header that starts a side is of a plane of its own mask (R82). -/
theorem hasPlane_of_starts {h : BandHeader} {length offset : Nat} {open? : Option OpenSide} {kind : SideKind}
    {plane : Plane} (judged : judgeHeader h length offset open? = .starts kind plane) : hasPlane h.mask plane = true := by
  simp only [judgeHeader, judgeStart, judgeLater] at judged
  (repeat' split at judged) <;> cases judged
  simp_all

end Sys2Proof.Machine
end

section
/-! The ledger when a header starts a side, and over a whole read (R81, R86 to R89). -/

namespace Sys2Proof.Machine

variable {s : State} {v : VideoRead} {j : JobRecord} {kind : SideKind} {mask : PlaneMask}

/-! ### The side made (R89) -/

/-- The side as it opens (R89 step 3). -/
def State.sideMade (s : State) (v : VideoRead) (j : JobRecord) (kind : SideKind) (mask : PlaneMask) : OpenSide :=
  { region := v.index, slot := v.slot, sheet := s.sheetForSide v.slot kind, kind := kind, mask := mask, nextBand := 1,
    dots := .zero, bandDots := 0, reservation := s.reservationOf j mask, lastBand := false }

/-- The sheet a SIMPLEX or FRONT side opens (R94). -/
def State.sheetMade (s : State) (slot : Nat) (j : JobRecord) (kind : SideKind) (mask : PlaneMask) : Sheet :=
  { name := s.charging.nextSheet, owner := .job slot, account := j.account, state := .fillingFront,
    front := s.newSide j kind mask, back := none }

/-- A sheet with the BACK side that attaches to it (R97). -/
def Sheet.withBack (h : Sheet) (side : SideRecord) : Sheet := { h with state := .fillingBack, back := some side }

/-- The steps of R89 in the ledger, with the queue and the next name that they leave. -/
theorem ledger_makeSide (inside : j.account < 2048) :
    (s.makeSide v j kind mask).ledger =
      s.ledger.started (s.sideMade v j kind mask) j.account (s.makeSide v j kind mask).charging.sheets
        (s.makeSide v j kind mask).charging.nextSheet := by
  let side := s.newSide j kind mask
  let opened := ((s.reserve j.account side.reservation).placeSide v.slot j.account kind side).setOpenSide
    (some (s.sideMade v j kind mask))
  have made : s.makeSide v j kind mask = opened.updateJob v.slot fun j => { j with inQueue := j.inQueue + 1 } := rfl
  have placed : Touches [.charging] (s.reserve j.account side.reservation)
      ((s.reserve j.account side.reservation).placeSide v.slot j.account kind side) := by simp
  have job : opened.job = s.job := placed .job (by simp)
  have reserved : (s.reserve j.account side.reservation).ledger = _ := ledger_chargeAccount inside s _
  have account : opened.ledger.account = (s.reserve j.account side.reservation).ledger.account := by
    funext i
    exact congrArg (fun u : AccountUnit => tget u.accounts i) (placed .account (by simp))
  have tariff : opened.ledger.tariff = s.ledger.tariff := by
    funext c
    cases kind <;> rfl
  have line : ((opened.jobAt v.slot).map fun j => ({ j with inQueue := j.inQueue + 1 } : JobRecord).line) =
      (s.ledger.job v.slot).map JobLine.more := by
    rw [jobAt_of_job_eq job]
    show _ = ((s.jobAt v.slot).map JobRecord.line).map JobLine.more
    rw [Option.map_map]
    rfl
  have jobs : opened.ledger.job = s.ledger.job := funext fun slot => by
    show (opened.jobAt slot).map JobRecord.line = _
    rw [jobAt_of_job_eq job]
    rfl
  rw [made, ledger_updateJob, line, jobs]
  refine Ledger.ext ?_ ?_ rfl rfl tariff rfl rfl
  · refine account.trans ?_
    rw [reserved]
    rfl
  · exact congrArg AccountUnit.pristine (placed .account (by simp))

theorem makeSide_nextSheet :
    (s.makeSide v j kind mask).charging.nextSheet =
      if kind = .back then s.charging.nextSheet else s.charging.nextSheet + 1 := by
  cases kind <;> rfl

theorem sheetForSide_of_front (front : kind ≠ .back) (slot : Nat) : s.sheetForSide slot kind = s.charging.nextSheet := by
  cases kind with
  | simplex | front => rfl
  | back => exact absurd rfl front

theorem capturedCosts_le (books : s.ledger.Books) (j : JobRecord) : (s.capturedCosts j).1 ≤ (s.capturedCosts j).2 := by
  unfold State.capturedCosts
  split
  · exact le_rfl
  · exact books.tariff j.tariff

theorem newSide_covered (books : s.ledger.Books) (j : JobRecord) (kind : SideKind) (mask : PlaneMask) :
    (s.newSide j kind mask).covered :=
  ⟨capturedCosts_le books j, rfl, fun _ => rfl⟩

/-- An UNMETERED account reserves nothing (R96). -/
theorem reservationOf_unmetered (unmetered : (s.accountAt j.account).mode = .unmetered) (mask : PlaneMask) :
    s.reservationOf j mask = 0 := by
  simp [State.reservationOf, State.capturedCosts, unmetered]

/-- What every side that passes the checks of R87 starts with. -/
theorem starts_of_passes (closed : s.parser.openSide = none) (held : s.jobAt v.slot = some j)
    (passes : s.sideRefusal v.slot j kind mask = none) :
    s.ledger.side = none ∧ s.ledger.job v.slot = some j.line ∧
      (s.accountAt j.account).canTake (s.reservationOf j mask) = true ∧ s.queueTakes v.slot kind = true := by
  refine ⟨closed, congrArg (Option.map JobRecord.line) held, ?_, ?_⟩
  all_goals
    simp only [State.sideRefusal] at passes
    (repeat' split at passes) <;> simp_all

/-- A SIMPLEX or FRONT side starts with a sheet of its own. -/
theorem startsFront (books : s.ledger.Books) (closed : s.parser.openSide = none) (held : s.jobAt v.slot = some j)
    (passes : s.sideRefusal v.slot j kind mask = none) (front : kind ≠ .back) :
    s.ledger.Starts (s.sideMade v j kind mask) j.line [] (s.sheetMade v.slot j kind mask) (s.charging.nextSheet + 1) := by
  obtain ⟨side, job, takes, -⟩ := starts_of_passes closed held passes
  have name := sheetForSide_of_front (s := s) front v.slot
  constructor
  case closed => exact side
  case job => exact job
  case takes => exact takes
  case unmetered => exact fun unmetered => reservationOf_unmetered unmetered mask
  case blank => rfl
  case fills => exact ⟨name.symm, rfl, (if_neg front).symm, _, rfl, rfl, rfl⟩
  case account => rfl
  case covered => simpa [Sheet.sides, State.sheetMade] using newSide_covered books j kind mask
  case unbacked => exact fun _ => rfl
  case named => exact Nat.lt_succ_self _
  case counter => exact Nat.le_succ _
  case reserved =>
    intro i
    by_cases mine : j.account = i <;>
      simp [State.sheetMade, JobRecord.line, mine, Sheet.reserved, Sheet.sides, State.newSide, State.sideMade]
  case inQueue =>
    intro slot
    by_cases mine : v.slot = slot <;> simp [State.sheetMade, mine, Sheet.sides, State.sideMade]

/-- A BACK side starts on a sheet of its job that awaits it (R97). -/
theorem startsBack {h : Sheet} (books : s.ledger.Books) (closed : s.parser.openSide = none)
    (held : s.jobAt v.slot = some j) (passes : s.sideRefusal v.slot j .back mask = none)
    (listed : h ∈ s.ledger.sheets) (awaits : h.awaits v.slot = true) (name : s.sheetForSide v.slot .back = h.name) :
    s.ledger.Starts (s.sideMade v j .back mask) j.line [h] (h.withBack (s.newSide j .back mask)) s.charging.nextSheet := by
  obtain ⟨side, job, takes, -⟩ := starts_of_passes closed held passes
  have holds := books.holds h listed
  obtain ⟨state, owner⟩ : h.state = .awaitingBack ∧ h.owner = .job v.slot := by simpa [Sheet.awaits] using awaits
  have alone := holds.unbacked (.inr state)
  have account : h.account = j.account := by
    simpa [job, JobRecord.line] using (holds.job v.slot owner).symm
  constructor
  case closed => exact side
  case job => exact job
  case takes => exact takes
  case unmetered => exact fun unmetered => reservationOf_unmetered unmetered mask
  case blank => rfl
  case fills => exact ⟨name.symm, owner, rfl, _, rfl, rfl, rfl⟩
  case account => exact account
  case covered =>
    intro r side
    have sides : r = h.front ∨ r = s.newSide j .back mask := by simpa [Sheet.sides, Sheet.withBack] using side
    rcases sides with rfl | rfl
    · exact holds.covered _ (by simp [Sheet.sides])
    · exact newSide_covered books j .back mask
  case unbacked => exact nofun
  case named => exact holds.named
  case counter => exact le_rfl
  case reserved =>
    intro i
    by_cases mine : j.account = i <;>
      simp [Sheet.withBack, account, JobRecord.line, mine, Sheet.reserved, Sheet.sides, alone, State.newSide,
        State.sideMade, Nat.add_comm]
  case inQueue =>
    intro slot
    by_cases mine : v.slot = slot <;> simp [Sheet.withBack, owner, mine, Sheet.sides, alone, State.sideMade]

/-- A side that passes the checks of R87 is made with the ledger in order. -/
theorem ledger_makeSide_balanced (books : s.ledger.Books) (agrees : s.ledger.SideAgrees)
    (closed : s.parser.openSide = none) (held : s.jobAt v.slot = some j)
    (passes : s.sideRefusal v.slot j kind mask = none) :
    (s.makeSide v j kind mask).ledger.Books ∧ (s.makeSide v j kind mask).ledger.SideAgrees := by
  obtain ⟨-, job, -, room⟩ := starts_of_passes closed held passes
  obtain ⟨inside, -⟩ := books.jobs v.slot j.line job
  rw [ledger_makeSide inside, makeSide_sheets, makeSide_nextSheet]
  by_cases back : kind = .back
  · subst back
    obtain ⟨h, found⟩ : ∃ h, s.charging.sheets.find? (fun h => h.awaits v.slot) = some h :=
      Option.isSome_iff_exists.mp (List.find?_isSome.mpr (List.any_eq_true.mp room))
    have name : s.sheetForSide v.slot .back = h.name := by simp [State.sheetForSide, found]
    have listed := List.mem_of_find?_eq_some found
    have starts := startsBack books closed held passes listed (List.find?_some (p := fun h : Sheet => h.awaits v.slot) found) name
    obtain ⟨pre, post, queue⟩ := List.append_of_mem listed
    have names : ((pre ++ h :: post).map Sheet.name).Nodup := queue ▸ books.names
    have sheets := map_at_name rfl (fun g => name_ne_of_nodup names) fun x => x.withBack (s.newSide j .back mask)
    have started := books.start (pre := pre) (post := post) agrees starts (queue.trans (by simp))
      (by simpa [Sheet.withBack] using names)
    rw [if_pos rfl, if_pos rfl, queue, name]
    simp only [Sheet.withBack] at sheets
    rw [sheets]
    simp only [Sheet.withBack, List.append_assoc, List.singleton_append] at started
    exact started
  · have starts := startsFront books closed held passes back
    have fresh : s.charging.nextSheet ∉ s.charging.sheets.map Sheet.name := by
      intro there
      obtain ⟨g, listed, same⟩ := List.mem_map.mp there
      exact absurd same (books.holds g listed).named.ne
    have names : ((s.charging.sheets ++ [s.sheetMade v.slot j kind mask] ++ []).map Sheet.name).Nodup := by
      rw [List.append_nil, List.map_append]
      exact books.names.append (List.nodup_singleton _) (List.disjoint_singleton.mpr fresh)
    have started := books.start (pre := s.charging.sheets) (post := []) agrees starts (by simp; rfl) names
    rw [if_neg back, if_neg back, sheetForSide_of_front back]
    rw [List.append_nil] at started
    exact started

/-! ### Headers and reads (R81, R86) -/

/-- The abandonment that a SIDE_START header makes leaves the region of the header as it stands (R86, R93). -/
theorem abandonForStart_keeps {i slot : Nat} (serves : s.serves i slot) :
    (s.abandonForStart i).serves i slot ∧ (s.abandonForStart i).region i = s.region i := by
  obtain ⟨view, region⟩ := abandon_keeps serves
    (if (s.openSideIn i).isSome then .newSideSameRegion else .newSideOtherRegion)
  refine ⟨serves_of_grantView view serves, region fun o side => ?_⟩
  by_cases here : o.region = i
  · exact .inr (by simp [openSideIn_of_open side here])
  · exact .inl here

/-- The side made is framed by the region of its header. -/
theorem ledgerBalanced_makeSide {cursor : Nat} (balanced : s.ledgerBalanced) (closed : s.parser.openSide = none)
    (serves : s.serves v.index v.slot) (stands : s.framingOf v.index = some (.atHeader, cursor))
    (held : s.jobAt v.slot = some j) (passes : s.sideRefusal v.slot j kind mask = none) :
    (s.makeSide v j kind mask).ledgerBalanced := by
  obtain ⟨books, agrees, -⟩ := (ledgerBalanced_iff s).mp balanced
  obtain ⟨books', agrees'⟩ := ledger_makeSide_balanced books agrees closed held passes
  refine (ledgerBalanced_iff _).mpr ⟨books', agrees', fun o side => ?_⟩
  obtain rfl : s.sideMade v j kind mask = o := Option.some.inj side
  obtain ⟨r, -, bound, mine, -⟩ := serves
  obtain ⟨q, bound', body⟩ := framingOf_eq_some_iff.mp stands
  obtain rfl : r = q := Option.some.inj (bound.symm.trans bound')
  refine ⟨r, ?_, mine, admits_of_page body nofun⟩
  rw [State.region, makeSide_transaction]
  exact bound

theorem ledgerBalanced_startSide {offset cursor : Nat} {h : BandHeader} {plane : Plane}
    (balanced : s.ledgerBalanced) (serves : s.serves v.index v.slot)
    (stands : s.framingOf v.index = some (.atHeader, cursor)) (inside : hasPlane h.mask plane = true) :
    (s.startSide v offset h kind plane).1.ledgerBalanced := by
  have cleared : (s.abandonForStart v.index).ledgerBalanced := ledgerBalanced_abandon _ balanced
  have closed : (s.abandonForStart v.index).parser.openSide = none := abandon_openSide s _
  obtain ⟨serves', region⟩ := abandonForStart_keeps serves
  have stands' : (s.abandonForStart v.index).framingOf v.index = some (.atHeader, cursor) := by
    rw [State.framingOf, region]
    exact stands
  simp only [State.startSide]
  split
  · exact cleared
  · rename_i j held
    split
    · exact ledgerBalanced_askNotice cleared
    · rename_i passes
      refine ledgerBalanced_consumeHeader (ledgerBalanced_makeSide cleared closed serves' stands' held passes)
        fun o side => ?_
      obtain ⟨opened, -⟩ := openSideIn_eq_some_iff.mp side
      obtain rfl := Option.some.inj opened
      exact inside

theorem ledgerBalanced_takeHeader {offset cursor : Nat} {bytes : List Byte} (balanced : s.ledgerBalanced)
    (serves : s.serves v.index v.slot) (stands : s.framingOf v.index = some (.atHeader, cursor)) :
    (s.takeHeader v offset bytes).1.ledgerBalanced := by
  simp only [State.takeHeader]
  split
  · exact ledgerBalanced_framingError _ _ _ balanced
  · rename_i judged
    exact ledgerBalanced_consumeHeader balanced fun o side => hasPlane_of_continues judged side
  · rename_i judged
    exact ledgerBalanced_startSide balanced serves stands (hasPlane_of_starts judged)

/-- A read is parsed turn by turn, for a job whose region stays its own (R81). -/
theorem ledgerBalanced_parseFrom (balanced : s.ledgerBalanced) (serves : s.serves v.index v.slot) (n offset : Nat)
    (data : List Byte) : (State.parseFrom v n s offset data).1.ledgerBalanced := by
  induction n generalizing s offset data with
  | zero => exact balanced
  | succ n ih =>
    cases data with
    | nil => exact balanced
    | cons b bs =>
      simp only [State.parseFrom]
      split
      · rename_i remaining plane cursor stands
        have counted := ledgerBalanced_countPayload balanced stands ((b :: bs).take remaining)
        have kept := grantView_countPayload s v.index v.slot v.index plane ((b :: bs).take remaining)
        split
        · exact ih (ledgerBalanced_endBand counted ..)
            (serves_of_grantView ((grantView_endBand ..).trans kept) serves) ..
        · refine ledgerBalanced_setFraming counted fun _ q payload o side here => ?_
          cases payload
          have stands' : (s.countPayload v.index plane ((b :: bs).take remaining)).framingOf v.index = _ :=
            (framingOf_of_touches (ps := [.parser]) (by simp) (by simp) v.index).trans stands
          exact hasPlane_of_payload counted (openSideIn_eq_some_iff.mpr ⟨side, here⟩) stands'
      · rename_i cursor stands
        split
        · exact ledgerBalanced_askNotice balanced
        · have turn := ledgerBalanced_takeHeader (offset := offset) (bytes := (b :: bs).take 32) balanced serves stands
          have kept := grantView_takeHeader serves v offset ((b :: bs).take 32)
          split <;> rename_i result <;> rw [result] at turn kept
          · exact ih turn (serves_of_grantView kept serves) ..
          · exact turn
      · exact balanced
      · exact balanced

/-! ### Transactions (R12 to R15) -/

theorem ledgerBalanced_respond {q : Nat} {okay : Bool} {data : List Byte} (balanced : s.ledgerBalanced) :
    (s.respond q okay data).ledgerBalanced := ledgerBalanced_congr balanced rfl fun _ => rfl

theorem ledgerBalanced_keyFault {t : Transaction} {q : Role} {i : Nat} {r : Region} (balanced : s.ledgerBalanced) :
    (s.keyFault t q i r).ledgerBalanced := ledgerBalanced_congr balanced rfl fun _ => rfl

/-- What reads of a job's region rest on stays when the region restarts (R80). -/
theorem serves_restartFraming (serves : s.serves v.index v.slot) : (s.restartFraming v).serves v.index v.slot := by
  refine serves_of_grantView ?_ serves
  unfold State.restartFraming
  split
  · refine (grantView_setFraming ..).trans ?_
    split
    · exact (abandon_keeps serves .restart).1
    · rfl
  · rfl

theorem ledgerBalanced_parseVideo {t : Transaction} {i : Nat} {r : Region} (balanced : s.ledgerBalanced)
    (serves : s.serves i r.slot) : (s.parseVideo t i r).ledgerBalanced := by
  have restarted := ledgerBalanced_restartFraming (videoReadOf t i r) balanced
  have serves' := serves_restartFraming (v := videoReadOf t i r) serves
  simp only [State.parseVideo]
  split
  · exact ledgerBalanced_keyFault restarted
  · rename_i key _
    have parsed := ledgerBalanced_parseFrom restarted serves'
      (2 * ((s.restartFraming (videoReadOf t i r)).plainBytes t r key).length) (videoReadOf t i r).offset
      ((s.restartFraming (videoReadOf t i r)).plainBytes t r key)
    split <;> rename_i result <;> rw [State.parseRead] at result <;> rw [result] at parsed
    · exact ledgerBalanced_respond parsed
    · exact ledgerBalanced_respond parsed

theorem ledgerBalanced_decipheredRead {t : Transaction} {q : Role} {i : Nat} {r : Region} (balanced : s.ledgerBalanced)
    (serves : s.serves i r.slot) : (s.decipheredRead t q i r).ledgerBalanced := by
  unfold State.decipheredRead
  split
  · unfold State.videoRead
    split
    · exact ledgerBalanced_respond (ledgerBalanced_askNotice balanced)
    · exact ledgerBalanced_parseVideo balanced serves
  · unfold State.decipherRead
    split
    · exact ledgerBalanced_keyFault balanced
    · exact ledgerBalanced_respond balanced

/-- The count of the beats enciphered is no part of what the law says of a region. -/
theorem admits_countBeats (r : Region) (n : Nat) (mask : PlaneMask) :
    ({ r with body := r.body.countBeats n } : Region).admits mask ↔ r.admits mask := by
  unfold Region.admits
  cases r.body <;> rfl

theorem ledgerBalanced_encipherWrite {t : Transaction} {q : Role} {i : Nat} {r : Region} (balanced : s.ledgerBalanced)
    (bound : s.region i = some r) : (s.encipherWrite t q i r).ledgerBalanced := by
  simp only [State.encipherWrite]
  split
  · exact ledgerBalanced_keyFault balanced
  · split
    · obtain ⟨books, agrees, framed⟩ := (ledgerBalanced_iff s).mp balanced
      refine (ledgerBalanced_iff _).mpr ⟨books, agrees, fun o side => ?_⟩
      obtain ⟨p, bound', mine, admits⟩ := framed o side
      have region (k : Nat) := region_setRegion s i k (some { r with body := r.body.countBeats t.beats })
        (lt_of_region s bound)
      by_cases here : o.region = i
      · rw [here, bound] at bound'
        cases bound'
        exact ⟨_, (region o.region).trans (if_pos here), mine, (admits_countBeats r ..).mpr admits⟩
      · exact ⟨p, (region o.region).trans ((if_neg here).trans bound'), mine, admits⟩
    · exact ledgerBalanced_congr balanced rfl fun _ => rfl

theorem ledgerBalanced_forward (t : Transaction) (balanced : s.ledgerBalanced) : (s.forward t).ledgerBalanced := by
  unfold State.forward
  split <;> exact ledgerBalanced_congr balanced rfl fun _ => rfl

theorem ledgerBalanced_passTransaction (t : Transaction) (q : Role) (balanced : s.ledgerBalanced) :
    (s.passTransaction t q).ledgerBalanced := by
  have forwarded := ledgerBalanced_forward t balanced
  unfold State.passTransaction
  split
  · exact ledgerBalanced_of_touches (ps := [.directive]) forwarded (by simp) (by simp)
  · exact forwarded

/-- What is granted DECIPHERED is a read of the table of R70. -/
theorem readsDeciphered_of_grant {job : JobKind} {state : JobState} {kind : RegionKind} {role : Role}
    {direction : Direction} {scanStop : Bool} (granted : grant job state kind role direction scanStop = .deciphered) :
    readsDeciphered job state kind role = true := by
  cases direction with
  | read =>
    simp only [grant, grantRead] at granted
    split at granted
    · assumption
    · split at granted <;> cases granted
  | write =>
    simp only [grant, grantWrite] at granted
    (repeat' split at granted) <;> cases granted

/-- Every transaction leaves the ledger balanced (R1). -/
theorem ledgerBalanced_transaction {tr : Transaction} {t : State} (balanced : s.ledgerBalanced)
    (taken : exec (.subordinateTransaction tr) s = .next t) : t.ledgerBalanced := by
  rcases transaction_cases taken with
    ⟨reason, region, rfl⟩ | rfl | rfl | ⟨i, r, j, ⟨-, place, -⟩, -, rfl⟩ |
    ⟨i, r, j, ⟨-, place, job⟩, granted, rfl⟩
  · exact ledgerBalanced_congr balanced rfl fun _ => rfl
  · exact ledgerBalanced_passTransaction tr _ balanced
  · exact ledgerBalanced_forward tr balanced
  · obtain ⟨_, bound, _⟩ := regionOf_some place
    exact ledgerBalanced_encipherWrite balanced bound
  · obtain ⟨_, bound, _⟩ := regionOf_some place
    exact ledgerBalanced_decipheredRead balanced
      ⟨r, j, bound, rfl, job, not_closing_of_readsDeciphered (readsDeciphered_of_grant granted)⟩

end Sys2Proof.Machine
end

section
/-! The ledger under directives, scan pages and a restore, and under every command (R45, R107, R109, R117 to R124,
R164). -/

namespace Sys2Proof.Machine

variable {s t : State}

/-! ### Directives at their owners -/

/-- A directive keeps the ledger balanced where its owner does. -/
theorem ledgerBalanced_runDirective (name : DirectiveName) {owner : Directive → State → Verdict × State}
    (balanced : s.ledgerBalanced) (h : ∀ d, (owner d s).2.ledgerBalanced) :
    (s.runDirective name owner).ledgerBalanced := by
  unfold State.runDirective
  split
  · split
    · split
      · exact ledgerBalanced_of_touches (ps := [.directive]) balanced (by simp) (by simp)
      · rename_i d _ _ _
        exact ledgerBalanced_of_touches (ps := [.directive]) (h d) (by simp) (by simp)
    · exact balanced
  · exact balanced

/-- An account of the table changes to a lawful one that reserves as much. -/
theorem ledgerBalanced_chargeAccount {i : Nat} {f : Account → Account} (balanced : s.ledgerBalanced)
    (inside : i < 2048) (sound : (f (s.accountAt i)).Sound)
    (reserved : (f (s.accountAt i)).reserved = (s.accountAt i).reserved)
    (inUse : s.ledger.Names i → (f (s.accountAt i)).state ≠ .unused) : (s.chargeAccount i f).ledgerBalanced := by
  obtain ⟨books, agrees, framed⟩ := (ledgerBalanced_iff s).mp balanced
  have ledger := ledger_chargeAccount inside s f
  refine (ledgerBalanced_iff _).mpr ⟨ledger ▸ books.setAccount (fun _ => sound) reserved inUse, ?_, framed⟩
  rw [ledger]
  exact ⟨agrees.colours, agrees.filled, agrees.only⟩

theorem sound_of_balanced (balanced : s.ledgerBalanced) {i : Nat} (inside : i < 2048) : (s.accountAt i).Sound :=
  ((ledgerBalanced_iff s).mp balanced).1.sound i inside

theorem inUse_of_balanced (balanced : s.ledgerBalanced) {i : Nat} (named : s.ledger.Names i) :
    (s.accountAt i).state ≠ .unused :=
  ((ledgerBalanced_iff s).mp balanced).1.inUse named

/-- New terms leave an account in use, and its reservations. -/
theorem setTerms_kept (mode : AccountMode) (colour : Bool) (limit : Nat) {a : Account} (sound : a.Sound) :
    (a.setTerms mode colour limit).state ≠ .unused ∧ (a.setTerms mode colour limit).reserved = a.reserved := by
  unfold Account.setTerms
  split
  · rename_i unused
    rw [sound.unused unused]
    exact ⟨nofun, rfl⟩
  · rename_i active
    exact ⟨by simp [active], rfl⟩
  · rename_i suspended
    exact ⟨by simp [suspended], rfl⟩

theorem ledgerBalanced_ownAccountSet (d : Directive) (balanced : s.ledgerBalanced) :
    (ownAccountSet d s).2.ledgerBalanced := by
  simp only [ownAccountSet]
  (repeat' split) <;> try exact balanced
  rename_i operands _ unreserved above
  have inside : d.arg accountSetForm 0 < 2048 := by omega
  have sound := sound_of_balanced balanced inside
  refine ledgerBalanced_chargeAccount balanced inside (sound.setTerms (by omega) ?_ (by simpa using above) _)
    (setTerms_kept _ _ _ sound).2 fun _ => (setTerms_kept _ _ _ sound).1
  intro unmetered
  by_contra held
  exact unreserved ⟨unmetered, held⟩

theorem ledgerBalanced_ownAccountAdjust (d : Directive) (balanced : s.ledgerBalanced) :
    (ownAccountAdjust d s).2.ledgerBalanced := by
  simp only [ownAccountAdjust]
  (repeat' split) <;> try exact balanced
  rename_i operand _ _ passes _
  have inside : d.arg accountAdjustForm 0 < 2048 := by omega
  exact ledgerBalanced_chargeAccount balanced inside ((sound_of_balanced balanced inside).adjust passes _) rfl
    (inUse_of_balanced balanced)

theorem ledgerBalanced_changeAccountState {already target : AccountState} (inUse : target ≠ .unused) (d : Directive)
    (balanced : s.ledgerBalanced) : (changeAccountState already target d s).2.ledgerBalanced := by
  simp only [changeAccountState]
  (repeat' split) <;> try exact balanced
  rename_i operand _ _ _
  have inside : d.arg accountIndexForm 0 < 2048 := by omega
  exact ledgerBalanced_chargeAccount balanced inside ((sound_of_balanced balanced inside).setState inUse _) rfl
    fun _ => inUse

/-- An account that no job names and that reserves nothing or no ORPHAN sheet names is named by nothing. -/
theorem not_names_of_clear (balanced : s.ledgerBalanced) {i : Nat} (unnamed : s.slotsNaming i = 0)
    (unowned : s.orphanNames i = false) : ¬s.ledger.Names i := by
  obtain ⟨books, -⟩ := (ledgerBalanced_iff s).mp balanced
  have jobless (slot : Nat) (line : JobLine) (job : s.ledger.job slot = some line) : line.account ≠ i := by
    obtain ⟨j, held, rfl⟩ := Option.map_eq_some_iff.mp job
    intro same
    have none := List.countP_eq_zero.mp unnamed (some j) (mem_tlist.mpr ⟨slot, slot_lt_of_jobAt held, held⟩)
    simp [show j.account = i from same] at none
  rintro (⟨h, listed, same⟩ | ⟨slot, line, job, same⟩)
  · cases owner : h.owner with
    | orphan =>
      have := List.any_eq_false.mp unowned h listed
      simp [owner, same] at this
    | job slot =>
      obtain ⟨line, job, account⟩ := Option.map_eq_some_iff.mp ((books.holds h listed).job slot owner)
      exact jobless slot line job (account.trans same)
  · exact jobless slot line job same

theorem ledgerBalanced_ownAccountClear (d : Directive) (balanced : s.ledgerBalanced) :
    (ownAccountClear d s).2.ledgerBalanced := by
  simp only [ownAccountClear]
  (repeat' split) <;> try exact balanced
  rename_i operand _ _ unreserved unnamed unowned
  have inside : d.arg accountIndexForm 0 < 2048 := by omega
  refine ledgerBalanced_chargeAccount balanced inside (sound_unused _) ?_ fun named => ?_
  · exact (not_not.mp unreserved).symm
  · exact absurd named (not_names_of_clear balanced (by omega) (by simpa using unowned))

theorem ledgerBalanced_ownPeriodClose (d : Directive) (balanced : s.ledgerBalanced) :
    (ownPeriodClose d s).2.ledgerBalanced := by
  obtain ⟨books, agrees, framed⟩ := (ledgerBalanced_iff s).mp balanced
  have closed (i : Nat) (inside : i < 2048) :
      (ownPeriodClose d s).2.accountAt i = (s.accountAt i).closePeriod := tget_tmap _ _ inside
  refine (ledgerBalanced_iff _).mpr ⟨books.accounts (fun i named => ?_) (fun i inside => ?_) (fun i inside => ?_) nofun,
    ⟨agrees.colours, agrees.filled, agrees.only⟩, framed⟩
  · have inside : i < 2048 := by
      rcases named with ⟨h, listed, rfl⟩ | ⟨slot, j, job, rfl⟩
      · exact (books.holds h listed).inside
      · exact (books.jobs slot j job).1
    rw [closed i inside, (closePeriod_terms _).1]
    exact inUse_of_balanced balanced named
  · rw [closed i inside]
    exact (sound_of_balanced balanced inside).closePeriod
  · rw [closed i inside, (closePeriod_terms _).2]
    rfl

theorem ledgerBalanced_ownSetTariff (d : Directive) (balanced : s.ledgerBalanced) :
    (ownSetTariff d s).2.ledgerBalanced := by
  simp only [ownSetTariff]
  (repeat' split) <;> try exact balanced
  rename_i operand ordered
  obtain ⟨books, agrees, framed⟩ := (ledgerBalanced_iff s).mp balanced
  refine (ledgerBalanced_iff _).mpr
    ⟨books.setTariff fun c => ?_, ⟨agrees.colours, agrees.filled, agrees.only⟩, framed⟩
  rcases eq_or_ne c (d.arg setTariffForm 0) with rfl | other
  · rw [State.tariff, setCharging_charging, tget_tset_same _ _ (by omega)]
    simpa using ordered
  · rw [State.tariff, setCharging_charging, tget_tset_other _ _ other]
    exact books.tariff c

/-- JOB_OPEN names an account that is ACTIVE (R45). -/
theorem ledgerBalanced_ownJobOpen (d : Directive) (balanced : s.ledgerBalanced) :
    (ownJobOpen d s).2.ledgerBalanced := by
  simp only [ownJobOpen]
  (repeat' split) <;> try exact balanced
  rename_i operands _ _ active _ slot lowest
  obtain ⟨inside, free⟩ := free_of_lowestFreeSlot lowest
  obtain ⟨books, agrees, framed⟩ := (ledgerBalanced_iff s).mp balanced
  have inUse : (s.accountAt (d.arg jobOpenForm 2)).state ≠ .unused := by
    rw [not_not.mp active]
    nofun
  have opened := books.takeSlot (congrArg (Option.map JobRecord.line) free) (by omega) inUse
  have ledger (j : JobRecord) :
      ((s.setJob slot (some j)).drawKey slot).ledger =
        { s.ledger with job := Function.update s.ledger.job slot (some j.line) } := by
    refine ledger_of_queue_and_jobs (t := (s.setJob slot (some j)).drawKey slot) (q := s.charging.sheets) rfl rfl rfl
      fun k => ?_
    show ((s.setJob slot (some j)).jobAt k).map JobRecord.line = _
    rcases eq_or_ne k slot with rfl | other
    · rw [jobAt_setJob_same _ _ inside, Function.update_self]
      rfl
    · rw [jobAt_setJob_other _ _ other, Function.update_of_ne other]
      rfl
  refine (ledgerBalanced_iff _).mpr ⟨?_, ?_, framed⟩ <;> rw [ledger]
  · exact opened
  · exact ⟨agrees.colours, agrees.filled, agrees.only⟩

/-- A job directive keeps the ledger balanced where it does so for the record it names. -/
theorem ledgerBalanced_withNamedJob {slot number : Nat} {owner : JobRecord → Verdict × State}
    (balanced : s.ledgerBalanced) (h : ∀ j, (owner j).2.ledgerBalanced) :
    (withNamedJob slot number s owner).2.ledgerBalanced := by
  unfold withNamedJob
  split
  · exact balanced
  · exact h _
  · exact balanced

theorem ledgerBalanced_ownJobHold (d : Directive) (balanced : s.ledgerBalanced) :
    (ownJobHold d s).2.ledgerBalanced := by
  refine ledgerBalanced_withNamedJob balanced fun j => ?_
  (repeat' split) <;> try exact balanced
  exact ledgerBalanced_updateJob (by intro; rfl) _ balanced

theorem ledgerBalanced_ownJobRelease (d : Directive) (balanced : s.ledgerBalanced) :
    (ownJobRelease d s).2.ledgerBalanced := by
  refine ledgerBalanced_withNamedJob balanced fun j => ?_
  (repeat' split) <;> try exact balanced
  exact ledgerBalanced_updateJob (by intro; rfl) _ balanced

theorem ledgerBalanced_ownSummary (summary : Option Nat) (balanced : s.ledgerBalanced) :
    (s.ownSummary summary).ledgerBalanced :=
  ledgerBalanced_of_touches (ps := [.directive]) balanced (by simp) (by simp)

theorem ledgerBalanced_ownJobClose (d : Directive) (balanced : s.ledgerBalanced) :
    (ownJobClose d s).2.ledgerBalanced := by
  refine ledgerBalanced_withNamedJob balanced fun j => ?_
  split
  · exact balanced
  · exact ledgerBalanced_drainTest _
      (ledgerBalanced_ownSummary _ (ledgerBalanced_updateJob (by intro; rfl) _ balanced))

/-! ### The region table -/

/-- An entry other than the open side's region is replaced. -/
theorem ledgerBalanced_setRegion {i : Nat} {x : Option Region} (balanced : s.ledgerBalanced) (inside : i < 64)
    (other : ∀ o, s.parser.openSide = some o → o.region ≠ i) : (s.setRegion i x).ledgerBalanced := by
  obtain ⟨books, agrees, framed⟩ := (ledgerBalanced_iff s).mp balanced
  refine (ledgerBalanced_iff _).mpr ⟨books, agrees, sideFramed_congr framed rfl fun o side => ?_⟩
  exact (region_setRegion s i o.region x inside).trans (if_neg (other o side))

/-- The lowest-numbered FREE entry is in the table, and FREE (R7). -/
theorem free_of_lowestFreeRegion {i : Nat} (h : s.lowestFreeRegion = some i) : i < 64 ∧ s.region i = none := by
  obtain ⟨inside, free, -⟩ := List.findIdx?_eq_some_iff_getElem.mp h
  rw [getElem_regions inside] at free
  exact ⟨by simpa [tlist] using inside, by simpa using free⟩

/-- A region is bound in an entry that was FREE, and the open side's was not (R7). -/
theorem ledgerBalanced_ownRegionBind (d : Directive) (balanced : s.ledgerBalanced) :
    (ownRegionBind d s).2.ledgerBalanced := by
  simp only [ownRegionBind, State.bindRegion]
  (repeat' split) <;> try exact balanced
  rename_i i _ lowest
  obtain ⟨inside, free⟩ := free_of_lowestFreeRegion lowest
  refine ledgerBalanced_setRegion balanced inside fun o side here => ?_
  obtain ⟨-, -, framed⟩ := (ledgerBalanced_iff s).mp balanced
  obtain ⟨r, bound, -⟩ := framed o side
  rw [here, free] at bound
  cases bound

/-- A region that holds the open side is not unbound (R8). -/
theorem ledgerBalanced_ownRegionUnbind (d : Directive) (balanced : s.ledgerBalanced) :
    (ownRegionUnbind d s).2.ledgerBalanced := by
  simp only [ownRegionUnbind]
  (repeat' split) <;> try exact balanced
  rename_i operand _ closed
  refine ledgerBalanced_setRegion balanced (by omega) fun o side here => ?_
  exact closed (by rw [openSideIn_of_open side here]; rfl)

theorem ledgerBalanced_ownSetRoles (d : Directive) (balanced : s.ledgerBalanced) :
    (ownSetRoles d s).2.ledgerBalanced := by
  unfold ownSetRoles
  (repeat' split) <;> exact ledgerBalanced_congr balanced rfl fun _ => rfl

/-! ### Scan pages (R107) -/

theorem scanned_kept (a : Account) (cost : Nat) :
    (a.scanned cost).state = a.state ∧ (a.scanned cost).reserved = a.reserved := by
  unfold Account.scanned
  (repeat' split) <;> exact ⟨rfl, rfl⟩

theorem Account.Sound.scanned {a : Account} (sound : a.Sound) (inUse : a.state ≠ .unused) (cost : Nat) :
    (a.scanned cost).Sound := by
  unfold Account.scanned
  split
  · exact sound.settled inUse rfl rfl le_rfl le_rfl le_rfl
  · split
    · exact sound.pay inUse ‹_› ‹_›
    · exact sound.settled inUse rfl rfl le_rfl le_rfl le_rfl

theorem ledgerBalanced_chargeScan {slot : Nat} {j : JobRecord} (balanced : s.ledgerBalanced)
    (held : s.jobAt slot = some j) : (s.chargeScan slot j).ledgerBalanced := by
  have named : s.ledger.Names j.account := .inr ⟨slot, j.line, congrArg (Option.map JobRecord.line) held, rfl⟩
  obtain ⟨books, -⟩ := (ledgerBalanced_iff s).mp balanced
  obtain ⟨inside, inUse, -⟩ := books.jobs slot j.line (congrArg (Option.map JobRecord.line) held)
  obtain ⟨state, reserved⟩ := scanned_kept (s.accountAt j.account) (s.tariff j.tariff).scan
  have charged : (s.chargeAccount j.account fun a => a.scanned (s.tariff j.tariff).scan).ledgerBalanced :=
    ledgerBalanced_chargeAccount balanced inside ((sound_of_balanced balanced inside).scanned inUse _) reserved
      fun _ => state ▸ inUse
  have counted (paid : Bool) (b : State) (hb : b.ledgerBalanced) :
      ((b.updateJob slot (JobRecord.countScan paid)).countScan).ledgerBalanced :=
    ledgerBalanced_of_touches (ps := [.meter]) (ledgerBalanced_updateJob (f := JobRecord.countScan paid) (fun _ => rfl) slot hb) (by simp) (by simp)
  simp only [State.chargeScan, decideScan_eq]
  split
  · exact counted _ _ charged
  · exact ledgerBalanced_askNotice (counted _ _ charged)

theorem ledgerBalanced_scnPage (balanced : s.ledgerBalanced) : s.scnPage.ledgerBalanced := by
  have taken : s.takeScanRecord.ledgerBalanced := ledgerBalanced_congr balanced rfl fun _ => rfl
  simp only [State.scnPage]
  split
  · rename_i slot j record
    obtain ⟨k, -, job⟩ := Option.bind_eq_some_iff.mp record
    obtain ⟨_, held, same⟩ := Option.map_eq_some_iff.mp job
    cases same
    exact ledgerBalanced_chargeScan taken held
  · exact ledgerBalanced_askNotice (ledgerBalanced_of_touches (ps := [.meter]) taken (by simp) (by simp))

/-! ### A restore (R164) -/

/-- The account of an image that passes the content tests is lawful with nothing reserved. -/
theorem sound_of_imageOk {area : List Byte} {i : Nat} (passes : imageOk (imageAt area i) = true) :
    (loadedAccount area i).Sound := by
  unfold imageOk at passes
  split at passes
  · rename_i a image
    simp only [Bool.and_eq_true, Bool.or_eq_true, Account.contentOk, decide_eq_true_eq, bne_iff_ne, Account.isBlank,
      beq_iff_eq] at passes
    obtain ⟨⟨⟨⟨low, high⟩, limit⟩, above⟩, blank⟩ := passes
    obtain ⟨prepaid, credit⟩ := atOrAbove_floorOf_iff.mp above
    simp only [loadedAccount, image, Option.getD_some]
    refine ⟨fun kind => ?_, fun kind => ?_, fun _ => rfl, low, high, limit, fun unused => ?_⟩
    · simpa using prepaid kind
    · simpa using credit kind
    · have zeros := blank.resolve_left fun inUse => inUse unused
      rw [zeros]
      simp [Account.unused]
  · cases passes

theorem tget_tfill {α : Type} [Inhabited α] {n i : Nat} (f : Nat → α) (inside : i < n) : tget (tfill n f) i = f i := by
  simp [tget, tfill, inside]

/-- What a restore loads passes the content tests, into an account table that is pristine (R164). -/
theorem passes_of_restoreRefusal {area : List Byte} (passes : s.restoreRefusal area = none) :
    contentOk area = true ∧ s.account.pristine = true := by
  unfold State.restoreRefusal at passes
  split_ifs at passes
  simp_all

theorem ledgerBalanced_loadSnapshot {area : List Byte} (balanced : s.ledgerBalanced)
    (passes : s.restoreRefusal area = none) : (s.loadSnapshot area).ledgerBalanced := by
  obtain ⟨content, pristine⟩ := passes_of_restoreRefusal passes
  obtain ⟨books, agrees, framed⟩ := (ledgerBalanced_iff s).mp balanced
  simp only [contentOk, Bool.and_eq_true, List.all_eq_true, List.mem_range, decide_eq_true_eq] at content
  obtain ⟨⟨-, images⟩, ordered⟩ := content
  have account (i : Nat) (inside : i < 2048) : (s.loadSnapshot area).accountAt i = loadedAccount area i :=
    tget_tfill _ inside
  have tariff (c : Nat) (inside : c < 8) : (s.loadSnapshot area).tariff c = tariffOfArea area c := tget_tfill _ inside
  have kept : Touches [.charging, .account] s (s.loadSnapshot area) := by simp
  have ledger : (s.loadSnapshot area).ledger =
      { s.ledger with
        account := (s.loadSnapshot area).accountAt, pristine := false, tariff := (s.loadSnapshot area).tariff } :=
    Ledger.ext rfl rfl rfl rfl rfl
      (funext fun slot => congrArg (Option.map JobRecord.line) (jobAt_of_job_eq (kept .job (by simp)) slot))
      (congrArg BandParser.openSide (kept .parser (by simp)))
  have framed' : (s.loadSnapshot area).sideFramed :=
    sideFramed_congr framed (congrArg BandParser.openSide (kept .parser (by simp))) fun o _ => by
      rw [State.region, kept .transaction (by simp), State.region]
  refine (ledgerBalanced_iff _).mpr ⟨?books, ?agrees, framed'⟩ <;> rw [ledger]
  case agrees => exact ⟨agrees.colours, agrees.filled, agrees.only⟩
  case books =>
    refine books.load pristine (fun i inside => ?_) (fun i inside => ?_) fun c => ?_
    · exact account i inside ▸ sound_of_imageOk (images i inside)
    · rw [account i inside]
      rfl
    · by_cases inside : c < 8
      · exact tariff c inside ▸ ordered c inside
      · have beyond : (s.loadSnapshot area).tariff c = default := dif_neg inside
        rw [beyond]
        exact le_rfl

theorem ledgerBalanced_restoreReadEnd (balanced : s.ledgerBalanced) : s.restoreReadEnd.ledgerBalanced := by
  have ended {b : State} {base : Nat} {parked : Parked} {a : Answer} (hb : b.ledgerBalanced) :
      (b.endWork base .restoreArea parked a).ledgerBalanced :=
    ledgerBalanced_of_touches (ps := [.directive, .meter]) hb (by simp) (by simp)
  unfold State.restoreReadEnd
  split
  · split
    · split
      · exact ended balanced
      · exact ended (ledgerBalanced_loadSnapshot balanced ‹_›)
    · exact balanced
  all_goals exact balanced

/-! ### Every command -/

/-- Every command leaves the ledger balanced. -/
theorem ledgerBalanced_exec {c : Instr} (balanced : s.ledgerBalanced) (h : exec c s = .next t) : t.ledgerBalanced := by
  have kept := exec_footprint h
  cases c with
  | subordinateTransaction tr => exact ledgerBalanced_transaction balanced h
  | keyFaultReport =>
    cases h
    exact ledgerBalanced_keyFaultReport balanced
  | setRoles =>
    cases h
    exact ledgerBalanced_runDirective _ balanced fun d => ledgerBalanced_ownSetRoles d balanced
  | lockdown =>
    cases h
    refine ledgerBalanced_of_touches (s := s.runDirective .lockdown ownLockdown) (ps := [.directive])
      (ledgerBalanced_runDirective _ balanced fun d => ledgerBalanced_enterBlocks _ balanced)
      ((touches_afterLockdown s (by decide)).mpr (touches_refl _ _)) (by decide)
  | regionBind =>
    cases h
    exact ledgerBalanced_runDirective _ balanced fun d => ledgerBalanced_ownRegionBind d balanced
  | regionUnbind =>
    cases h
    exact ledgerBalanced_runDirective _ balanced fun d => ledgerBalanced_ownRegionUnbind d balanced
  | jobOpen =>
    cases h
    exact ledgerBalanced_runDirective _ balanced fun d => ledgerBalanced_ownJobOpen d balanced
  | jobHold =>
    cases h
    exact ledgerBalanced_runDirective _ balanced fun d => ledgerBalanced_ownJobHold d balanced
  | jobRelease =>
    cases h
    exact ledgerBalanced_runDirective _ balanced fun d => ledgerBalanced_ownJobRelease d balanced
  | jobClose =>
    cases h
    exact ledgerBalanced_runDirective _ balanced fun d => ledgerBalanced_ownJobClose d balanced
  | closeDeadline slot =>
    cases h
    exact ledgerBalanced_closeDeadline slot balanced
  | accountSet =>
    cases h
    exact ledgerBalanced_runDirective _ balanced fun d => ledgerBalanced_ownAccountSet d balanced
  | accountAdjust =>
    cases h
    exact ledgerBalanced_runDirective _ balanced fun d => ledgerBalanced_ownAccountAdjust d balanced
  | accountSuspend =>
    cases h
    exact ledgerBalanced_runDirective _ balanced fun d => ledgerBalanced_changeAccountState (target := .suspended) (by decide) d balanced
  | accountResume =>
    cases h
    exact ledgerBalanced_runDirective _ balanced fun d => ledgerBalanced_changeAccountState (target := .active) (by decide) d balanced
  | accountClear =>
    cases h
    exact ledgerBalanced_runDirective _ balanced fun d => ledgerBalanced_ownAccountClear d balanced
  | periodClose =>
    cases h
    exact ledgerBalanced_runDirective _ balanced fun d => ledgerBalanced_ownPeriodClose d balanced
  | setTariff =>
    cases h
    exact ledgerBalanced_runDirective _ balanced fun d => ledgerBalanced_ownSetTariff d balanced
  | restoreReadEnd =>
    cases h
    exact ledgerBalanced_restoreReadEnd balanced
  | engSheet =>
    cases h
    exact ledgerBalanced_engSheet balanced
  | engJam =>
    cases h
    exact ledgerBalanced_engJam balanced
  | scnPage =>
    cases h
    exact ledgerBalanced_scnPage balanced
  | tamperFall =>
    cases h
    split
    · exact ledgerBalanced_takeCause _ (ledgerBalanced_congr balanced rfl fun _ => rfl)
    · exact balanced
  | powerOn =>
    cases h
    exact ledgerBalanced_resetTo _ _
  | resetN =>
    cases h
    exact ledgerBalanced_resetTo _ _
  | _ => exact ledgerBalanced_of_touches balanced kept (by simp [footprint])

/-- Settles O60: the account law, with what it rests on at the sheet queue, the jobs and the open side, is kept by a
command at the front of the queue, and by the clock, which leaves the ledger. -/
theorem noAccountFallsBelowItsFloor : Obligations.NoAccountFallsBelowItsFloor := by
  intro s t balanced h
  unfold step at h
  split at h
  · rename_i c rest _
    exact ledgerBalanced_exec (s := { s with pending := rest }) (ledgerBalanced_congr balanced rfl fun _ => rfl) h
  · cases h
    unfold State.tick
    split <;> exact ledgerBalanced_congr balanced rfl fun _ => rfl

end Sys2Proof.Machine
end

section
/-! SET_LOW_MARK and SET_SCHEDULE at the consumable unit (R137, R140). -/

namespace Sys2Proof.Machine

/-- A directive of no account is answered on the directive unit as its owner leaves it. -/
theorem finish_directive {s : State} {name : DirectiveName} {d : Directive} (awaits : s.awaitsOwner name d)
    (noAccount : ¬(DirectiveName.accountSet.code ≤ name.code ∧ name.code ≤ DirectiveName.accountClear.code))
    (u : State) (a : Answer) : (u.finish d a).directive = u.directive.answered d a 0 := by
  have generation := replyGeneration_eq_zero awaits noAccount u
  simp only [State.finish, State.reply, setDirective_directive, handWriter_directive, generation,
    DirectiveUnit.answered, Directive.replyOf, State.now]

variable {s : State} {d : Directive}

/-- A record takes a new low mark: a yield that was not below the old mark and is below the new one asks for LOW
(R137). -/
theorem lowMark_told {p : Nat} {r : Consumable} (inside : p < 5) (held : s.consumableAt p = r) (mark : Nat) :
    ((s.updateConsumable p fun r => { r with lowMark := mark }).noticeLowIf p
        (decide (r.lowMark ≤ r.remaining.getD 0))).directive =
      s.directive.asked
        (r.chip.elim [] fun c =>
          if r.lowMark ≤ c.remaining ∧ c.remaining < mark then [noticeOf .low [u8 p, u32 c.remaining, u64 c.serial]]
          else []) := by
  rw [noticeLowIf_eq, consumableAt_updateConsumable _ _ _ inside, if_pos rfl, held]
  cases chip : r.chip with
  | none => rfl
  | some c => simp [chip, Consumable.remaining]

/-- Settles O44, by the tests of R137 and of R140 in order. -/
theorem lowMarkAndScheduleAreSet : Obligations.LowMarkAndScheduleAreSet := by
  constructor
  · intro s d awaits
    refine ⟨_, rfl, ?_⟩
    intro p mark r
    split
    · exact runDirective_refused_locked awaits ‹_› (by decide) (by decide) (by decide)
    have takes := takes_of_not_locked awaits ‹_›
    split
    · rename_i beyond
      exact runDirective_answers_only takes (if_pos beyond) (by decide)
    rename_i inside
    have set : ownSetLowMark d s = _ := if_neg inside
    refine ⟨?records, ?unit, ?frame⟩
    case records =>
      show (s.runDirective .setLowMark ownSetLowMark).consumable = _
      rw [runDirective_takes _ takes, set]
      exact noticeLowIf_consumable _ _ _
    case unit =>
      show (s.runDirective .setLowMark ownSetLowMark).directive = _
      rw [runDirective_takes _ takes, set]
      have told := lowMark_told (s := s) (Nat.lt_of_not_le inside) rfl mark
      refine (finish_directive awaits (by decide) _ _).trans (congrArg (DirectiveUnit.answered · d _ 0) (told.trans ?_))
      cases r.chip <;> rfl
    case frame =>
      show s.changesOnly (s.runDirective .setLowMark ownSetLowMark) _
      rw [runDirective_takes _ takes, set]
      exact Touches.changesOnly (by simp)
  · intro s d awaits
    refine ⟨_, rfl, ?_⟩
    intro p e
    split
    · exact runDirective_refused_locked awaits ‹_› (by decide) (by decide) (by decide)
    have takes := takes_of_not_locked awaits ‹_›
    split
    · rename_i beyond
      exact runDirective_answers_only takes (if_pos beyond) (by decide)
    · rename_i inside
      have set : ownSetSchedule d s = _ := if_neg inside
      refine ⟨runDirective_answers takes set rfl (by simp) (by decide), ?_⟩
      rw [runDirective_takes _ takes, set]
      rfl

end Sys2Proof.Machine
end

section
/-! CHECK_NOW at the consumable unit (R141). -/

namespace Sys2Proof.Machine

variable {s : State} {d : Directive}

/-- A state whose AUTHENTICATE of a position is queued or joined, and whose record there keeps the CHECK_NOW (R141,
R145). -/
def State.acceptsCheck (s : State) (p : Nat) (parked : Parked) : State :=
  (s.setLink { s.link with queue := admitted s.link.queue { position := p, kind := .authenticate } }).updateConsumable p
    fun r => r.checking parked

/-- The tests of R141 in order. -/
theorem ownCheckNow_eq (d : Directive) (s : State) :
    ownCheckNow d s =
      if 4 < d.arg checkNowForm 0 then (.answer (.refuse .refusedRange .badOperand), s)
      else if (s.consumableAt (d.arg checkNowForm 0)).state = .absent then
        (.answer (.refuse .refusedState .absent), s)
      else if (s.consumableAt (d.arg checkNowForm 0)).parkedCheck ≠ none then
        (.answer (.refuse .refusedState .checkPending), s)
      else if 8 ≤ s.link.queue.length then (.answer (.refuse .busy .none), s)
      else (.parked, s.acceptsCheck (d.arg checkNowForm 0) d.park) := by
  simp only [ownCheckNow, requestLink_eq, Option.isSome_iff_ne_none, decide_eq_true_eq]
  by_cases full : 8 ≤ s.link.queue.length
  · simp only [if_neg (Nat.not_lt.mpr full), if_pos full]
  · simp only [if_pos (Nat.lt_of_not_le full), if_neg full]
    rfl

/-- The record of an accepted CHECK_NOW by its state (R141). -/
theorem checking_eq (r : Consumable) (parked : Parked) :
    r.checking parked =
      if r.state = .rejected ∨ r.state = .linkFault then
        { r with state := .authenticating, rejectReason := none, parkedCheck := some parked }
      else if r.state = .authenticating then { r with authPending := false, parkedCheck := some parked }
      else { r with parkedCheck := some parked } := by
  cases state : r.state <;> simp [Consumable.checking, state]

/-- Settles O43, by the tests of R141 in order. -/
theorem checkIsRequested : Obligations.CheckIsRequested := by
  intro s d awaits
  refine ⟨_, rfl, ?_⟩
  intro p r parked
  have tests := ownCheckNow_eq d s
  rw [← checking_eq r parked]
  split
  · exact runDirective_refused_locked awaits ‹_› (by decide) (by decide) (by decide)
  have takes := takes_of_not_locked awaits ‹_›
  split_ifs at tests ⊢
  iterate 4 exact runDirective_answers_only takes tests (by decide)
  have taken : s.runDirective .checkNow ownCheckNow = (s.acceptsCheck p parked).conclude d .parked := by
    rw [runDirective_takes _ takes, tests]
    rfl
  have concluded : Touches [.directive] (s.acceptsCheck p parked) (s.runDirective .checkNow ownCheckNow) := by
    simp [taken]
  refine ⟨?unit, concluded .link (by simp), concluded .consumable (by simp), ?frame⟩
  case unit =>
    show (s.runDirective .checkNow ownCheckNow).directive = _
    rw [taken]
    exact conclude_parked takes.2 _ rfl rfl rfl
  case frame =>
    show s.changesOnly (s.runDirective .checkNow ownCheckNow) _
    rw [taken]
    exact Touches.changesOnly (by simp [State.acceptsCheck])

end Sys2Proof.Machine
end

section
/-! Presence lines (R128 to R130). -/

namespace Sys2Proof.Machine

variable {s : State} {p : Nat}

/-- An update that leaves the record as it is leaves the state. -/
theorem updateConsumable_self (s : State) {f : Consumable → Consumable}
    (same : f (s.consumableAt p) = s.consumableAt p) : s.updateConsumable p f = s := by
  rw [State.updateConsumable, same, State.consumableAt, tset_of_tget rfl]
  rfl

/-- Of two updates of one record the second is made of what the first leaves. -/
theorem updateConsumable_updateConsumable (s : State) {p : Nat} (f g : Consumable → Consumable) (inside : p < 5) :
    (s.updateConsumable p f).updateConsumable p g = s.updateConsumable p fun r => g (f r) := by
  have first := consumableAt_updateConsumable s p f inside
  rw [if_pos rfl] at first
  simp only [State.updateConsumable] at first ⊢
  rw [first, setConsumables_consumable, tset_tset]
  rfl

/-- A change of a line comes about exactly where its level has settled (R128). -/
theorem presenceDue_iff (s : State) (p : Nat) (level : Bool) : s.presenceDue p level = true ↔ s.settles p level := by
  simp only [State.presenceDue, State.settles, Bool.and_eq_true, decide_eq_true_eq, beq_iff_eq, and_assoc]
  rfl

/-- All an AUTHENTICATE request does (R129, R145): the queue takes it or not, and where it does not, authentication is
left pending. -/
theorem requestAuthenticate_eq (s : State) (p : Nat) :
    s.requestAuthenticate p =
      (s.setLink
          { s.link with queue := admitted s.link.queue { position := p, kind := .authenticate } }).updateConsumable p
        fun r => { r with authPending := decide (8 ≤ s.link.queue.length) } := by
  unfold State.requestAuthenticate
  rw [requestLink_eq]
  simp only [← decide_not, Nat.not_lt]

/-- The end of a position's work in the link queue (R152). -/
theorem dropPosition_eq (s : State) (p : Nat) :
    s.dropPosition p =
      s.setLink
        (if s.link.running ≠ none ∧ s.link.queue.head?.map LinkEntry.position = some p then
          { queue := s.link.queue.filter fun e => e.position != p, running := none, quietSince := some s.now }
        else { s.link with queue := s.link.queue.filter fun e => e.position != p }) := by
  simp only [State.dropPosition, Bool.and_eq_true, Option.isSome_iff_ne_none, beq_iff_eq]
  split <;> rfl

/-- A parked CHECK_NOW, where there is one, is answered as work handed to the reply writer (R26, R141). -/
def State.answersParked (s : State) (parked : Option Parked) (a : Answer) : State :=
  s.setDirective (s.directive.handed (parked.toList.map fun q => q.reply a s.now))

theorem answersParked_none (s : State) (a : Answer) : s.answersParked none a = s := by
  simp only [State.answersParked, DirectiveUnit.handed, Option.toList_none, List.map_nil, List.append_nil]
  rfl

theorem answersParked_some (s : State) (q : Parked) (a : Answer) : s.answersParked (some q) a = s.replyParked q a := rfl

/-- A rise that has settled, step by step (R129). -/
theorem presenceRise_of_settled (settled : s.settles p true) :
    s.presenceRise p =
      (((s.setPresence p { tget s.consumable.presence p with settled := true }).updateConsumable p
        fun r => .cleared .authenticating r.lowMark false).askNotice .inserted [u8 p]).requestAuthenticate p :=
  if_pos ((presenceDue_iff s p true).mpr settled)

/-- A fall that has settled, step by step (R130). -/
theorem presenceFall_of_settled (settled : s.settles p false) :
    s.presenceFall p =
      ((((s.setPresence p { tget s.consumable.presence p with settled := false }).dropPosition p).askNotice .removed
        (removedValues p (s.consumableAt p))).answersParked (s.consumableAt p).parkedCheck
          (.done (checkNowResults p .removed (.cleared .absent (s.consumableAt p).lowMark false)))).updateConsumable p
        fun r => .cleared .absent r.lowMark false := by
  simp only [State.presenceFall, if_pos ((presenceDue_iff s p false).mpr settled)]
  cases (s.consumableAt p).parkedCheck with
  | none => rw [answersParked_none]
  | some parked => rw [answersParked_some]

/-- Settles O41. -/
theorem presenceIsTakenWhenSettled : Obligations.PresenceIsTakenWhenSettled := by
  refine ⟨?change, ?rise, ?fall, ?noRise, ?noFall⟩
  case change =>
    intro s p level inside
    refine ⟨_, if_pos inside, ?_⟩
    simp only [beq_iff_eq]
    split
    · exact ⟨(touches_refl _ s).changesOnly, rfl⟩
    · exact ⟨Touches.changesOnly (by simp), rfl⟩
  case rise =>
    intro s p settled
    refine ⟨_, congrArg Host.Outcome.next (presenceRise_of_settled settled), Touches.changesOnly (by simp), ?_⟩
    rw [requestAuthenticate_eq]
    refine ⟨?records, rfl, rfl⟩
    exact congrArg State.consumable
      (updateConsumable_updateConsumable (s.setPresence p { tget s.consumable.presence p with settled := true })
        (fun r => .cleared .authenticating r.lowMark false)
        (fun r => { r with authPending := decide (8 ≤ s.link.queue.length) }) settled.1)
  case fall =>
    intro s p settled
    refine ⟨_, congrArg Host.Outcome.next (presenceFall_of_settled settled), ?frame, ?_⟩
    case frame => exact Touches.changesOnly (by simp [State.answersParked])
    rw [dropPosition_eq]
    exact ⟨rfl, rfl, rfl⟩
  case noRise =>
    intro s p early
    exact congrArg Host.Outcome.next (if_neg ((presenceDue_iff s p true).not.mpr early))
  case noFall =>
    intro s p early
    exact congrArg Host.Outcome.next (if_neg ((presenceDue_iff s p false).not.mpr early))

end Sys2Proof.Machine
end

section
/-! One record of the consumable unit: what becomes of it, whether a SYNC is asked for, and the notices asked for on the
way. One rule for each operation, from which the draw-down and the ends of link entries are read (R132 to R137). -/

namespace Sys2Proof.Machine

/-! ### Notices one after another -/

theorem asked_nil (u : DirectiveUnit) : u.asked [] = u := by simp [DirectiveUnit.asked]

theorem asked_asked (u : DirectiveUnit) (before after : List NoticeRequest) :
    (u.asked before).asked after = u.asked (before ++ after) := by
  simp [DirectiveUnit.asked]

/-! ### A record and its notices -/

/-- A record becomes `r`, a SYNC is requested for it where `asks` holds, and at the directive unit nothing but these
notices is asked for. -/
def State.becomesTelling (s u : State) (p : Nat) (r : Consumable) (asks : Bool) (told : List NoticeRequest) : Prop :=
  s.becomes u p r asks ∧ u.directive = s.directive.asked told

variable {s u : State} {p : Nat} {r : Consumable} {asks : Bool} {told : List NoticeRequest}

/-- But for what a SYNC request leaves in it, the record stands as it has become. -/
theorem consumableAt_of_becomes (h : s.becomes u p r asks) :
    ∃ refused, u.consumableAt p = { r with syncRefused := refused } := by
  rw [h.1]
  split
  · exact ⟨_, rfl⟩
  · exact ⟨_, rfl⟩

theorem becomesTelling_self (held : s.consumableAt p = r) : s.becomesTelling s p r false [] :=
  ⟨⟨held, rfl, fun _ _ => rfl⟩, (asked_nil _).symm⟩

theorem State.becomesTelling.updateConsumable {f : Consumable → Consumable} {after : Consumable}
    (h : s.becomesTelling u p r false told) (inside : p < 5) (made : f r = after) :
    s.becomesTelling (u.updateConsumable p f) p after false told := by
  obtain ⟨⟨record, link, others⟩, directive⟩ := h
  have held : u.consumableAt p = r := record
  refine ⟨⟨?_, link, fun q other => ?_⟩, directive⟩
  · rw [consumableAt_updateConsumable _ _ _ inside, if_pos rfl, held, made]
    rfl
  · rw [consumableAt_updateConsumable _ _ _ inside, if_neg other, others q other]

theorem State.becomesTelling.askNotice (h : s.becomesTelling u p r asks told) (kind : NoticeKind) (values : List Val) :
    s.becomesTelling (u.askNotice kind values) p r asks (told ++ [noticeOf kind values]) := by
  refine ⟨becomes_congr (askNotice_consumable _ _ _) (askNotice_link _ _ _) h.1, ?_⟩
  rw [← asked_asked, ← h.2]
  rfl

theorem State.becomesTelling.requestSync (h : s.becomesTelling u p r false told) (inside : p < 5) :
    s.becomesTelling (u.requestSync p) p r true told :=
  ⟨requestSync_becomes inside h.1, (requestSync_directive u p).trans h.2⟩

/-- A SYNC is requested exactly where the record makes one necessary (R132, R136). -/
theorem State.becomesTelling.requestSyncIfNeeded (h : s.becomesTelling u p r false told) (inside : p < 5) :
    s.becomesTelling (u.requestSyncIfNeeded p) p r (decide r.wantsSync) told := by
  have held : u.consumableAt p = r := h.1.1
  unfold State.requestSyncIfNeeded
  rw [held, syncNeeded_eq]
  by_cases wants : r.wantsSync
  · simpa only [wants, decide_true, if_true] using h.requestSync inside
  · simpa only [wants, decide_false, Bool.false_eq_true, if_false] using h

/-- The LOW notice of a chip whose yield was at or above the mark before an event and is below it after (R137). -/
def lowRequests (p : Nat) (c : Chip) (wasAtOrAbove : Bool) (mark : Nat) : List NoticeRequest :=
  if wasAtOrAbove = true ∧ c.remaining < mark then [noticeOf .low [u8 p, u32 c.remaining, u64 c.serial]] else []

theorem State.becomesTelling.noticeLowIf {c : Chip} (h : s.becomesTelling u p r asks told) (chip : r.chip = some c)
    (wasAtOrAbove : Bool) :
    s.becomesTelling (u.noticeLowIf p wasAtOrAbove) p r asks (told ++ lowRequests p c wasAtOrAbove r.lowMark) := by
  obtain ⟨refused, held⟩ := consumableAt_of_becomes h.1
  refine ⟨becomes_congr (noticeLowIf_consumable _ _ _) (noticeLowIf_link _ _ _) h.1, ?_⟩
  rw [noticeLowIf_eq, setDirective_directive, h.2, asked_asked, held]
  simp only [chip]
  rfl

/-- The LOW notice as an event asks for it. -/
theorem lowRequests_eq (p : Nat) (c : Chip) (before mark : Nat) :
    lowRequests p c (decide (mark ≤ before)) mark =
      if mark ≤ before ∧ c.remaining < mark then [noticeOf .low [u8 p, u32 c.remaining, u64 c.serial]] else [] := by
  simp only [lowRequests, decide_eq_true_eq]

theorem State.becomesTelling.noticeExhausted {c : Chip} (h : s.becomesTelling u p r false told)
    (chip : r.chip = some c) :
    s.becomesTelling (u.noticeExhausted p) p r false
      (told ++ [noticeOf .exhausted [u8 p, u32 r.unsynced, u64 c.serial]]) := by
  have held : u.consumableAt p = r := h.1.1
  have notice := h.askNotice .exhausted [u8 p, u32 r.unsynced, opt 8 r.serial]
  simpa only [State.noticeExhausted, held, Consumable.serial, chip, Option.map_some, opt, u64] using notice

theorem State.becomesTelling.noticeCheck (h : s.becomesTelling u p r false told) (notice : NoticeKind) (kind : LinkKind)
    (result : CheckResult) (identity : Option Identity) :
    s.becomesTelling (u.noticeCheck notice p kind result identity) p r false
      (told ++ [checkNotice notice p kind result r.state identity]) := by
  have held : u.consumableAt p = r := h.1.1
  unfold State.noticeCheck
  rw [held]
  exact h.askNotice _ _

/-- A failing check takes the record out of use and tells so (R132, R133, R136). -/
theorem State.becomesTelling.failCheck (h : s.becomesTelling u p r false told) (inside : p < 5) (kind : LinkKind)
    (result : CheckResult) (identity : Option Identity) :
    s.becomesTelling (u.failCheck p kind result identity) p (r.failed result) false
      (told ++ [failNotice p kind result identity]) := by
  have notice : failNotice p kind result identity =
      checkNotice (if result == .linkFailed then .linkFault else .rejected) p kind result (r.failed result).state
        identity := by
    cases result <;> rfl
  rw [notice]
  exact (h.updateConsumable inside (by cases result <;> rfl)).noticeCheck _ _ _ _

/-- An event that comes about where a condition holds tells its notices there. -/
theorem State.becomesTelling.of_ite {v : State} {more : List NoticeRequest} {q : Prop} [Decidable q]
    (h : s.becomesTelling u p r asks told) (h' : s.becomesTelling v p r asks (told ++ more)) :
    s.becomesTelling (if q then v else u) p r asks (told ++ if q then more else []) := by
  split
  · exact h'
  · simpa using h

end Sys2Proof.Machine
end

section
/-! The draw-down and the end of a SYNC (R134 to R136). -/

namespace Sys2Proof.Machine

variable {s u : State} {p : Nat} {r : Consumable} {told : List NoticeRequest}

/-! ### A unit drawn (R135) -/

/-- After a unit drawn a SYNC is asked for again where one was refused, and asked for at 1,024 units unsynced where none
is held (R135). -/
abbrev State.asksAfterDraw (s : State) (p : Nat) (r : Consumable) : Prop :=
  (r.syncRefused = true ∧ r.wantsSync) ∨
    (r.state = .genuine ∧ 1024 ≤ r.unsynced ∧ { position := p, kind := .sync } ∉ s.link.queue)

theorem State.becomesTelling.syncAfterDraw (h : s.becomesTelling u p r false told) (inside : p < 5) :
    s.becomesTelling (u.syncAfterDraw p) p r (decide (s.asksAfterDraw p r)) told := by
  refine ⟨syncAfterDraw_becomes inside h.1 _ rfl, ?_⟩
  rw [← h.2]
  unfold State.syncAfterDraw
  dsimp only
  split
  · exact requestSync_directive u p
  · rfl

/-- Where the unit drawn has already made an EXHAUSTED record request a SYNC, a refused one is asked for once more and
refused again, and nothing changes. -/
theorem State.becomesTelling.syncAfterDraw_exhausted (h : s.becomesTelling u p r true told) (inside : p < 5)
    (exhausted : r.state = .exhausted) : s.becomesTelling (u.syncAfterDraw p) p r true told := by
  have held : u.consumableAt p = { r with syncRefused := decide (8 ≤ s.link.queue.length) } := h.1.1
  unfold State.syncAfterDraw
  dsimp only
  split
  · rename_i again
    have full : 8 ≤ s.link.queue.length := by
      simp only [held, exhausted] at again
      simp at again
      exact again.1
    exact ⟨requestSync_becomes_again inside h.1 full, (requestSync_directive u p).trans h.2⟩
  · exact h

/-- A record one unit of yield is drawn from, and whether it runs out (R135). -/
def Consumable.drawn (r : Consumable) (c : Chip) (runsOut : Bool) : Consumable :=
  { r with
    chip := some { c with remaining := c.remaining - 1 }
    unsynced := r.unsynced + 1
    state := if runsOut then .exhausted else r.state
    recheckDue := if runsOut then none else r.recheckDue }

/-- With nothing left the overrun count rises (R135). -/
theorem drawUnit_of_empty {c : Chip} (inside : p < 5) (held : s.consumableAt p = r) (chip : r.chip = some c)
    (empty : c.remaining = 0) :
    let after : Consumable := { r with overrun := min top32 (r.overrun + 1) }
    s.becomesTelling (s.drawUnit p) p after (decide (s.asksAfterDraw p after)) [] := by
  intro after
  have drawn : s.drawUnit p =
      (s.updateConsumable p fun r => { r with overrun := satAdd top32 r.overrun 1 }).syncAfterDraw p := by
    simp only [State.drawUnit, held, chip, if_pos empty]
  rw [drawn]
  exact ((becomesTelling_self held).updateConsumable inside rfl).syncAfterDraw inside

/-- A unit drawn from a yield that does not take a GENUINE record to 0 (R135, R137). -/
theorem drawUnit_of_yield {c : Chip} (inside : p < 5) (held : s.consumableAt p = r) (chip : r.chip = some c)
    (yields : c.remaining ≠ 0) (lasts : ¬(c.remaining = 1 ∧ r.state = .genuine)) :
    s.becomesTelling (s.drawUnit p) p (r.drawn c false) (decide (s.asksAfterDraw p (r.drawn c false)))
      (lowRequests p { c with remaining := c.remaining - 1 } (decide (r.lowMark ≤ c.remaining)) r.lowMark) := by
  have runsOut : (decide (c.remaining = 1) && r.state == .genuine) = false := by
    rw [← Bool.not_eq_true]
    simpa using lasts
  have drawn : s.drawUnit p =
      ((s.updateConsumable p fun r => r.drawn c false).noticeLowIf p (decide (r.lowMark ≤ c.remaining))).syncAfterDraw
        p := by
    simp only [State.drawUnit, held, chip, if_neg yields, runsOut]
    rfl
  rw [drawn]
  exact (((becomesTelling_self held).updateConsumable inside rfl).noticeLowIf rfl _).syncAfterDraw
    inside

/-- The last unit drawn from a GENUINE record: it is EXHAUSTED and requests a SYNC (R135, R137). -/
theorem drawUnit_runsOut {c : Chip} (inside : p < 5) (held : s.consumableAt p = r) (chip : r.chip = some c)
    (last : c.remaining = 1) (genuine : r.state = .genuine) :
    s.becomesTelling (s.drawUnit p) p (r.drawn c true) true
      (noticeOf .exhausted [u8 p, u32 (r.unsynced + 1), u64 c.serial] ::
        lowRequests p { c with remaining := c.remaining - 1 } (decide (r.lowMark ≤ c.remaining)) r.lowMark) := by
  have runsOut : (decide (c.remaining = 1) && r.state == .genuine) = true := by simp [last, genuine]
  have drawn : s.drawUnit p =
      ((((s.updateConsumable p fun r => r.drawn c true).noticeExhausted p).requestSync p).noticeLowIf p
        (decide (r.lowMark ≤ c.remaining))).syncAfterDraw p := by
    simp only [State.drawUnit, held, chip, if_neg (show c.remaining ≠ 0 by omega), runsOut]
    rfl
  rw [drawn]
  have taken := (becomesTelling_self held).updateConsumable (f := fun r => r.drawn c true) inside rfl
  have exhausted := taken.noticeExhausted rfl
  exact ((exhausted.requestSync inside).noticeLowIf rfl _).syncAfterDraw_exhausted inside rfl

/-! ### Dot-levels handed over (R134) -/

/-- Dot-levels handed to a record that holds a yield (R134). -/
theorem handDots_of_chip {plane : Plane} {c : Chip} (held : s.consumableAt plane.code = r) (chip : r.chip = some c)
    (dots : Nat) :
    s.handDots plane dots =
      (fun x : State => x.drawUnit plane.code)^[(r.partialDots + dots) / 65536]
        (s.updateConsumable plane.code fun r => { r with partialDots := (r.partialDots + dots) % 65536 }) := by
  simp only [State.handDots, held, chip, drawUnits_eq_iterate, State.updateConsumable]

/-! ### The end of a SYNC (R136) -/

/-- A record after a SYNC whose write completed: its yield is what the write left less the units drawn since, and what
neither the chip nor the value written could cover is overrun (R136). -/
def Consumable.synced (r : Consumable) (c : Chip) (yield since excess : Nat) (runsOut : Prop)
    [Decidable runsOut] : Consumable :=
  { r with
    chip := some { c with remaining := yield }
    overrun := min top32 (r.overrun + excess)
    unsynced := since
    syncCapture := none
    state := if runsOut then .exhausted else r.state
    recheckDue := if runsOut then none else r.recheckDue }

theorem syncEnd_tells {c : Chip} {capture : Nat} (inside : p < 5) (held : s.consumableAt p = r)
    (chip : r.chip = some c) (captured : r.syncCapture = some capture) (chipYield written : Nat) :
    let since := r.unsynced - capture
    let excess := (capture - chipYield) + (since - written)
    let runsOut := r.state = .genuine ∧ written - since = 0
    let after := r.synced c (written - since) since excess runsOut
    s.becomesTelling (s.syncEnd p chipYield written) p after (decide after.wantsSync)
      ((if 0 < excess then [noticeOf .syncShort [u8 p, u32 chipYield, u32 capture, u32 excess]] else []) ++
        (if runsOut then [noticeOf .exhausted [u8 p, u32 since, u64 c.serial]] else []) ++
        lowRequests p { c with remaining := written - since } (decide (r.lowMark ≤ c.remaining)) r.lowMark) := by
  intro since excess runsOut after
  have short (v : State) (ended : s.becomesTelling v p after false []) :=
    ended.of_ite (q := 0 < excess) (ended.askNotice .syncShort [u8 p, u32 chipYield, u32 capture, u32 excess])
  have out (v : State) (ended : s.becomesTelling v p after false []) :=
    (short v ended).of_ite (q := runsOut)
      ((short v ended).noticeExhausted (c := { c with remaining := written - since }) rfl)
  unfold State.syncEnd
  simp only [held, captured, Option.getD_some, Consumable.remaining, chip, Option.map_some, Bool.and_eq_true,
    beq_iff_eq, decide_eq_true_eq]
  refine ((out _ ?updated).requestSyncIfNeeded inside).noticeLowIf rfl _
  case updated => exact (becomesTelling_self held).updateConsumable inside (by simp only [chip]; rfl)

/-! ### A SYNC reported LINK_FAILED (R136) -/

theorem syncFailed_tells (inside : p < 5) (held : s.consumableAt p = r) :
    s.becomesTelling (s.syncFailed p) p
      { (if r.state = .genuine then r.failed .linkFailed else r) with syncCapture := none } false
      [if r.state = .genuine then failNotice p .sync .linkFailed none
       else noticeOf .syncFailed [u8 p, u8 r.state.code, u32 r.unsynced, opt 4 r.syncCapture]] := by
  have ended : s.becomesTelling (s.updateConsumable p fun r => { r with syncCapture := none }) p
      { r with syncCapture := none } false [] :=
    (becomesTelling_self held).updateConsumable inside rfl
  simp only [State.syncFailed, held, beq_iff_eq]
  split
  · exact ended.failCheck inside _ _ _
  · exact ended.askNotice _ _

/-- Settles O37, by what a unit drawn leaves of the yield and what a SYNC leaves of the record. -/
theorem yieldIsDrawnAndSettled : Obligations.YieldIsDrawnAndSettled := by
  refine ⟨?handed, ?noYield, ?drawn, ?synced, ?failed⟩
  case handed =>
    intro s plane dots p r
    by_cases noYield : r.chip = none
    · simp only [State.handDots, show (s.consumableAt plane.code).chip = none from noYield, if_pos noYield]
    · obtain ⟨c, chip⟩ := Option.ne_none_iff_exists'.mp noYield
      exact (handDots_of_chip rfl chip dots).trans (if_neg noYield).symm
  case noYield =>
    intro s p noYield
    simp only [State.drawUnit, noYield]
  case drawn =>
    intro s p c inside chip r u out drawn
    have keeps : s.changesOnly u [.consumable, .link, .directive] := Touches.changesOnly (by simp [u])
    by_cases empty : c.remaining = 0
    · obtain ⟨becomes, told⟩ := drawUnit_of_empty inside rfl chip empty
      have overrun : drawn = { r with overrun := min top32 (r.overrun + 1) } := if_pos empty
      have lasts : ¬out := by simp [out, empty]
      rw [overrun]
      refine ⟨?_, ?_, keeps⟩
      · convert becomes using 2
        exact or_iff_right lasts
      · simpa [lasts, empty] using told
    by_cases runsOut : out
    · obtain ⟨becomes, told⟩ := drawUnit_runsOut inside rfl chip runsOut.1 runsOut.2
      have exhausted : drawn = r.drawn c true := by simp only [drawn, if_neg empty, runsOut]; rfl
      rw [exhausted]
      refine ⟨?_, ?_, keeps⟩
      · simpa only [runsOut, true_or, decide_true] using becomes
      · simpa [lowRequests_eq, runsOut, empty] using told
    · obtain ⟨becomes, told⟩ := drawUnit_of_yield inside rfl chip empty runsOut
      have yielded : drawn = r.drawn c false := by simp only [drawn, if_neg empty, runsOut]; rfl
      rw [yielded]
      refine ⟨?_, ?_, keeps⟩
      · convert becomes using 2
        exact or_iff_right runsOut
      · simpa [lowRequests_eq, runsOut, empty] using told
  case synced =>
    intro s p r c chipYield capture inside held chip captured written since excess u out settled
    obtain ⟨becomes, told⟩ := syncEnd_tells inside held chip captured chipYield written
    rw [lowRequests_eq] at told
    exact ⟨becomes, told, Touches.changesOnly (by simp [u])⟩
  case failed =>
    intro s p r inside held u
    obtain ⟨becomes, told⟩ := syncFailed_tells inside held
    exact ⟨becomes, told, Touches.changesOnly (by simp [u])⟩

end Sys2Proof.Machine
end

section
/-! The ends of AUTHENTICATE and of RECHECK entries (R132, R133, R141). -/

namespace Sys2Proof.Machine

variable {s u : State} {p : Nat} {r : Consumable} {asks : Bool} {told : List NoticeRequest}

/-- The judgement of R132: position, response and serial, in that order. -/
theorem judge_eq (r : Consumable) (p : Nat) (i : Identity) (passes : Bool) :
    r.judge p i passes =
      if i.modelCode % 8 ≠ p then .wrongPosition
      else if passes = false then .badResponse
      else if r.chip ≠ none ∧ r.chip.map Chip.serial ≠ some i.serial then .serialChanged
      else .passed := by
  simp only [Consumable.judge, Bool.not_eq_true']
  cases r.chip <;> simp

/-! ### A parked CHECK_NOW (R141) -/

theorem answerCheck_eq (s : State) (p : Nat) (result : CheckResult) :
    s.answerCheck p result =
      (s.answersParked (s.consumableAt p).parkedCheck
        (.done (checkNowResults p result (s.consumableAt p)))).updateConsumable p
        fun r => { r with parkedCheck := none } := by
  unfold State.answerCheck
  cases parked : (s.consumableAt p).parkedCheck with
  | none =>
    have same : ({ s.consumableAt p with parkedCheck := none } : Consumable) = s.consumableAt p := by rw [← parked]
    rw [answersParked_none]
    exact (updateConsumable_self s same).symm
  | some q => rfl

/-- The end of an entry answers the parked CHECK_NOW with the record as it has become (R141). -/
theorem State.becomesTelling.answerCheck (h : s.becomesTelling u p r asks told) (inside : p < 5)
    (result : CheckResult) :
    s.becomes (u.answerCheck p result) p { r with parkedCheck := none } asks ∧
      (u.answerCheck p result).directive =
        (s.directive.asked told).handed
          (r.parkedCheck.toList.map fun parked =>
            parked.reply
              (.done
                [u8 p, u8 result.code, u8 r.state.code, opt 8 (r.chip.map Chip.serial),
                 opt 4 (r.chip.map Chip.remaining)])
              s.now) := by
  obtain ⟨refused, held⟩ := consumableAt_of_becomes h.1
  obtain ⟨⟨record, link, others⟩, directive⟩ := h
  rw [answerCheck_eq]
  refine ⟨⟨?_, link, fun q other => ?_⟩, ?_⟩
  · rw [consumableAt_updateConsumable _ _ _ inside, if_pos rfl]
    show ({ u.consumableAt p with parkedCheck := none } : Consumable) = _
    rw [record]
    split <;> rfl
  · rw [consumableAt_updateConsumable _ _ _ inside, if_neg other]
    exact others q other
  · rw [held, updateConsumable_directive, State.answersParked, setDirective_directive, State.now, directive]
    rfl

/-! ### The end of an AUTHENTICATE by the state of the record (R132) -/

/-- A record that an AUTHENTICATE accepts: without a serial it is loaded from the chip, and it is GENUINE with its next
recheck where a yield remains (R132). -/
def Consumable.accepted (r : Consumable) (taken : Chip) (due : Option Nat) : Consumable :=
  { r with
    chip := some taken
    partialDots := if r.chip = none then 0 else r.partialDots
    unsynced := if r.chip = none then 0 else r.unsynced
    overrun := if r.chip = none then 0 else r.overrun
    state := if 0 < taken.remaining then .genuine else .exhausted
    recheckDue := due
    rejectReason := none, authPending := false }

theorem acceptCheck_tells (inside : p < 5) (held : s.consumableAt p = r) (i : Identity) :
    let taken : Chip := r.chip.getD { serial := i.serial, modelCode := i.modelCode, remaining := i.storedYield }
    let interval := (tget s.consumable.schedule p).interval
    let after := r.accepted taken
      (if 0 < taken.remaining ∧ interval ≠ 0 then some (s.now / 1000000 + interval) else none)
    s.becomesTelling (s.acceptCheck p i) p after (decide after.wantsSync)
      (checkNotice .accepted p .authenticate .passed after.state (some i) ::
        lowRequests p taken r.chip.isNone r.lowMark) := by
  intro taken interval after
  unfold State.acceptCheck
  dsimp only
  rw [held]
  refine ((State.becomesTelling.noticeCheck (told := []) ?updated _ _ _ _).requestSyncIfNeeded inside).noticeLowIf rfl _
  refine (becomesTelling_self held).updateConsumable inside ?_
  simp only [Option.isNone_iff_eq_none, decide_eq_true_eq, Bool.and_eq_true]
  rfl

/-- A record that a failing check has taken out of use makes no SYNC necessary. -/
theorem not_wantsSync_failed (r : Consumable) (result : CheckResult) : ¬(r.failed result).wantsSync := by
  simp only [Consumable.wantsSync, Consumable.failed]
  split <;> simp

/-- The states in which an AUTHENTICATE brings a record into use or out of it (R132). -/
abbrev Consumable.awaitsCheck (r : Consumable) : Prop :=
  r.state = .authenticating ∨ r.state = .rejected ∨ r.state = .linkFault

/-- A check that fails at a record which is in use, or waits to be, takes it out of use (R132). -/
theorem authenticateEffect_fails (inside : p < 5) (held : s.consumableAt p = r)
    (used : r.awaitsCheck ∨ r.state = .genuine) {result : CheckResult} (failing : result ≠ .passed)
    (identity : Option Identity) :
    s.becomesTelling (s.authenticateEffect p result identity) p (r.failed result)
      (decide (r.failed result).wantsSync) [failNotice p .authenticate result identity] := by
  have failed := (becomesTelling_self held).failCheck inside .authenticate result identity
  rcases used with awaits | genuine
  · have effect : s.authenticateEffect p result identity = s.failCheck p .authenticate result identity := by
      rcases awaits with state | state | state <;>
      · simp only [State.authenticateEffect, held, state]
        split
        · exact absurd rfl failing
        · rfl
    rw [effect, decide_eq_false (not_wantsSync_failed r result)]
    exact failed
  · have effect : s.authenticateEffect p result identity =
        (s.failCheck p .authenticate result identity).requestSyncIfNeeded p := by
      simp only [State.authenticateEffect, held, genuine, beq_iff_eq, if_neg failing]
    rw [effect]
    exact failed.requestSyncIfNeeded inside

/-- A check that passes at a record which waits for one (R132). -/
theorem authenticateEffect_accepts (held : s.consumableAt p = r) (awaits : r.awaitsCheck) (i : Identity) :
    s.authenticateEffect p .passed (some i) = s.acceptCheck p i := by
  rcases awaits with state | state | state <;> simp only [State.authenticateEffect, held, state]

/-- Any other check leaves the record as it was: a SYNC that it makes necessary is requested, and a check that fails at
an EXHAUSTED record is told of (R132). -/
theorem authenticateEffect_stands (inside : p < 5) (held : s.consumableAt p = r) (settled : ¬r.awaitsCheck)
    {result : CheckResult} (kept : result = .passed ∨ r.state ≠ .genuine) (identity : Option Identity) :
    s.becomesTelling (s.authenticateEffect p result identity) p r (decide r.wantsSync)
      (if r.state = .exhausted ∧ result ≠ .passed then
        [checkNotice .checkFailed p .authenticate result .exhausted identity]
      else []) := by
  have self := becomesTelling_self held
  have states : r.state = .absent ∨ r.state = .genuine ∨ r.state = .exhausted := by
    revert settled
    simp only [Consumable.awaitsCheck]
    cases r.state <;> simp
  rcases states with state | state | state <;>
    simp only [State.authenticateEffect, held, state, beq_iff_eq, reduceCtorEq, false_and, if_false, true_and]
  case inl =>
    have idle : ¬r.wantsSync := by simp [state]
    rw [decide_eq_false idle]
    exact self
  case inr.inl =>
    rw [if_pos (kept.resolve_right fun other => other state)]
    exact self.requestSyncIfNeeded inside
  case inr.inr =>
    have notice := self.noticeCheck .checkFailed .authenticate result identity
    rw [state] at notice
    by_cases passed : result = .passed
    · simp only [passed, if_true, ne_eq, not_true, if_false]
      exact self.requestSyncIfNeeded inside
    · simp only [passed, if_false, ne_eq, not_false_eq_true, if_true]
      exact notice.requestSyncIfNeeded inside

/-! ### The end of a RECHECK (R133) -/

theorem recheckEnd_tells (inside : p < 5) (held : s.consumableAt p = r) (result : CheckResult)
    (identity : Option Identity) :
    s.becomesTelling (s.recheckEnd p result identity) p
      (if r.state = .genuine ∧ result ≠ .passed then r.failed result else r) false
      (if result = .passed then []
       else if r.state = .genuine then [failNotice p .recheck result identity]
       else [checkNotice .checkFailed p .recheck result r.state identity]) := by
  have self := becomesTelling_self held
  simp only [State.recheckEnd, held, beq_iff_eq]
  by_cases passed : result = .passed
  · simp only [passed, if_true, ne_eq, not_true, and_false, if_false]
    exact self
  by_cases genuine : r.state = .genuine
  · simp only [passed, genuine, if_false, if_true, ne_eq, not_false_eq_true, and_self]
    exact self.failCheck inside _ _ _
  · simp only [passed, genuine, if_false, false_and]
    exact self.noticeCheck _ _ _ _

/-- Settles O45: an AUTHENTICATE is accepted, or takes the record out of use, or leaves it as it was. -/
theorem authenticationIsJudged : Obligations.AuthenticationIsJudged := by
  refine ⟨judge_eq, ?authenticate, ?recheck⟩
  case authenticate =>
    intro s p r result identity inside held given _ u i taken interval returns after told low
    have effect : s.becomesTelling (s.authenticateEffect p result identity) p after (decide after.wantsSync)
        (told ++ low) := by
      by_cases accepts : returns ∧ result = .passed
      · obtain ⟨j, rfl⟩ := Option.ne_none_iff_exists'.mp (given accepts.2)
        have accepted : after = r.accepted taken _ := if_pos accepts
        have notice : told = _ := if_pos accepts
        have yield : low = lowRequests p taken r.chip.isNone r.lowMark := by
          simp only [low, lowRequests, accepts.1, accepts.2, Option.isNone_iff_eq_none, true_and]
        rw [notice, yield, accepted, accepts.2, authenticateEffect_accepts held accepts.1]
        exact acceptCheck_tells inside held j
      by_cases fails : (returns ∨ r.state = .genuine) ∧ result ≠ .passed
      · have failed : after = r.failed result := (if_neg accepts).trans (if_pos fails)
        have notice : told = _ := (if_neg accepts).trans (if_pos fails)
        have quiet : low = [] := if_neg fun h => accepts ⟨h.1, h.2.1⟩
        rw [failed, notice, quiet]
        exact authenticateEffect_fails inside held fails.1 fails.2 identity
      · have stands : after = r := (if_neg accepts).trans (if_neg fails)
        have notice : told = _ := (if_neg accepts).trans (if_neg fails)
        have quiet : low = [] := if_neg fun h => accepts ⟨h.1, h.2.1⟩
        rw [stands, notice, quiet, List.append_nil]
        by_cases passed : result = .passed
        · exact authenticateEffect_stands inside held (fun awaits => accepts ⟨awaits, passed⟩) (.inl passed) identity
        · exact authenticateEffect_stands inside held (fun awaits => fails ⟨.inl awaits, passed⟩)
            (.inr fun genuine => fails ⟨.inr genuine, passed⟩) identity
    have parked : after.parkedCheck = r.parkedCheck := by
      simp only [after]
      split
      · rfl
      · split <;> rfl
    obtain ⟨becomes, directive⟩ := effect.answerCheck inside result
    rw [parked] at directive
    exact ⟨becomes, directive, Touches.changesOnly (by simp [u])⟩
  case recheck =>
    intro s p r result identity inside held _ u
    obtain ⟨becomes, directive⟩ := recheckEnd_tells inside held result identity
    exact ⟨becomes, directive, Touches.changesOnly (by simp [u])⟩

end Sys2Proof.Machine
end

section
/-! The epoch boundary (R139): each position is visited on its own, first by its pending interval and then by the first
request that applies to it. -/

namespace Sys2Proof.Machine

variable {s t : State} {p q : Nat} {ps : List Nat}

/-! ### What an event repeated over positions keeps -/

/-- What each turn keeps, all turns keep. -/
theorem foldl_keeps {α : Type} (view : State → α) {f : State → Nat → State} (keeps : ∀ s p, view (f s p) = view s)
    (ps : List Nat) (s : State) : view (ps.foldl f s) = view s := by
  induction ps generalizing s with
  | nil => rfl
  | cons p ps ih => rw [List.foldl_cons, ih, keeps]

/-! ### Pending intervals -/

/-- What a position's boundary is decided from: its record and its schedule. -/
def State.position (s : State) (p : Nat) : Consumable × Schedule :=
  (s.consumableAt p, tget s.consumable.schedule p)

/-- A position after its pending interval has taken effect. -/
def State.intervalTaken (s : State) (p : Nat) : Consumable × Schedule :=
  (s.scheduled p, { interval := s.intervalAfter p, pending := none })

theorem intervalTaken_congr (same : t.position p = s.position p) (now : t.now = s.now) :
    t.intervalTaken p = s.intervalTaken p := by
  obtain ⟨record, schedule⟩ := Prod.mk.inj same
  simp only [State.intervalTaken, State.scheduled, State.intervalAfter, record, schedule, now]

theorem takeInterval_now (s : State) (p : Nat) : (s.takeInterval p).now = s.now := by
  unfold State.takeInterval
  split <;> rfl

theorem intervalTaken_of_none (taken : (tget s.consumable.schedule p).pending = none) :
    s.intervalTaken p = s.position p := by
  have schedule : ({ interval := (tget s.consumable.schedule p).interval, pending := none } : Schedule) =
      tget s.consumable.schedule p := by
    rw [← taken]
  simp only [State.intervalTaken, State.position, State.scheduled, State.intervalAfter, taken, Option.getD_none,
    schedule]

/-- A pending interval takes effect at its position alone. -/
theorem takeInterval_position (inside : p < 5) (q : Nat) :
    (s.takeInterval p).position q = if q = p then s.intervalTaken p else s.position q := by
  cases pending : (tget s.consumable.schedule p).pending with
  | none =>
    have stays : s.takeInterval p = s := by simp only [State.takeInterval, pending]
    rw [stays, intervalTaken_of_none pending]
    split
    · rename_i here
      rw [here]
    · rfl
  | some interval =>
    simp only [State.takeInterval, pending, State.position, consumableAt_updateConsumable _ _ _ inside,
      updateConsumable_consumable, setConsumables_consumable]
    split
    · rename_i here
      rw [here, tget_tset_same _ _ inside]
      simp only [State.intervalTaken, State.scheduled, State.intervalAfter, pending, beq_iff_eq, Option.getD_some]
      rfl
    · rename_i other
      rw [tget_tset_other _ _ other]
      rfl

theorem takeIntervals_position (nodup : ps.Nodup) (inside : ∀ p ∈ ps, p < 5) (q : Nat) :
    (ps.foldl State.takeInterval s).position q = if q ∈ ps then s.intervalTaken q else s.position q := by
  induction ps generalizing s with
  | nil => rfl
  | cons p ps ih =>
    obtain ⟨new, rest⟩ := List.nodup_cons.mp nodup
    obtain ⟨first, others⟩ := List.forall_mem_cons.mp inside
    rw [List.foldl_cons, ih rest others, takeInterval_position first]
    by_cases here : q = p
    · subst q
      simp [new]
    · by_cases later : q ∈ ps
      · have same := takeInterval_position (s := s) first q
        rw [if_neg here] at same
        simp [later, intervalTaken_congr same (takeInterval_now s p)]
      · simp [later, here]

/-! ### Requests -/

/-- A record after the request that a boundary makes for it, by whether the link queue was full (R139). -/
def Consumable.requested (r : Consumable) (interval : Nat) (full : Bool) : Option LinkKind → Consumable
  | some .recheck => if full then r else { r with recheckDue := r.recheckDue.map (· + interval) }
  | some .authenticate => { r with authPending := full }
  | some .sync => { r with syncRefused := full }
  | none => r

/-- The link queue after the request that a boundary makes for a position. -/
def queueRequested (p : Nat) (queue : List LinkEntry) : Option LinkKind → List LinkEntry
  | some kind => admitted queue { position := p, kind := kind }
  | none => queue

/-- A state after a request that a boundary makes. -/
def State.makesRequest (s : State) (p : Nat) (request : Option LinkKind) : State :=
  (s.setLink { s.link with queue := queueRequested p s.link.queue request }).updateConsumable p fun r =>
    r.requested (tget s.consumable.schedule p).interval (decide (8 ≤ s.link.queue.length)) request

theorem makesRequest_none (s : State) (p : Nat) : s.makesRequest p none = s := updateConsumable_self s rfl

theorem requestRecheck_eq {due : Nat} (held : (s.consumableAt p).recheckDue = some due) :
    s.requestRecheck p due = s.makesRequest p (some .recheck) := by
  unfold State.requestRecheck
  rw [requestLink_eq]
  by_cases full : 8 ≤ s.link.queue.length
  · simp only [Nat.not_lt.mpr full, decide_false, Bool.false_eq_true, if_false]
    exact (updateConsumable_self _ (by simp [Consumable.requested, full])).symm
  · have room := Nat.lt_of_not_le full
    simp only [room, decide_true, if_true, State.makesRequest, full, decide_false, Consumable.requested,
      Bool.false_eq_true, if_false, State.updateConsumable, setLink_consumableAt, held, Option.map_some]
    rfl

/-- The request for a SYNC at a boundary: where the record makes one necessary and none is held (R139). -/
theorem epochSync_eq (s : State) (p : Nat) :
    (if (s.consumableAt p).syncNeeded && !s.linkHolds p .sync then s.requestSync p else s) =
      s.makesRequest p
        (if (s.consumableAt p).wantsSync ∧ { position := p, kind := .sync } ∉ s.link.queue then some .sync
        else none) := by
  simp only [syncNeeded_eq, linkHolds_eq, Bool.and_eq_true, Bool.not_eq_true', decide_eq_true_eq,
    decide_eq_false_iff_not]
  split
  · exact requestSync_eq s p
  · exact (makesRequest_none s p).symm

theorem scheduled_of_taken (taken : (tget s.consumable.schedule p).pending = none) :
    s.scheduled p = s.consumableAt p := by
  simp only [State.scheduled, taken]

/-- A visit makes the first request that applies (R139). -/
theorem epochVisit_eq (taken : (tget s.consumable.schedule p).pending = none) :
    s.epochVisit p = s.makesRequest p (s.boundaryRequest p) := by
  have sync := epochSync_eq s p
  unfold State.epochVisit State.boundaryRequest
  simp only [scheduled_of_taken taken]
  obtain ⟨state, hs⟩ : ∃ x, (s.consumableAt p).state = x := ⟨_, rfl⟩
  obtain ⟨due, hd⟩ : ∃ x, (s.consumableAt p).recheckDue = x := ⟨_, rfl⟩
  cases state with
  | genuine =>
    cases due with
    | some due =>
      simp only [hs, hd]
      by_cases reached : due ≤ s.now / 1000000
      · exact (if_pos reached).trans ((requestRecheck_eq hd).trans (by rw [if_pos reached]))
      · exact (if_neg reached).trans (sync.trans (by rw [if_neg reached]))
    | none =>
      simp only [hs, hd]
      exact sync
  | authenticating =>
    have idle : (s.consumableAt p).syncNeeded = false := by simp [Consumable.syncNeeded, hs]
    simp only [hs, idle, beq_self_eq_true, Bool.true_and, Bool.false_and, Bool.false_eq_true, if_false]
    split
    · exact requestAuthenticate_eq s p
    · exact (makesRequest_none s p).symm
  | _ =>
    simp only [hs]
    exact sync

/-- What the request of a position is read from. -/
theorem boundaryRequest_congr (record : t.scheduled p = s.scheduled p) (now : t.now = s.now)
    (sync : { position := p, kind := .sync } ∈ t.link.queue ↔ { position := p, kind := .sync } ∈ s.link.queue) :
    t.boundaryRequest p = s.boundaryRequest p := by
  simp only [State.boundaryRequest, record, now, sync]

/-! ### The positions one after another -/

theorem mem_queueRequested_other (other : q ≠ p) (queue : List LinkEntry) (request : Option LinkKind)
    (kind : LinkKind) :
    { position := q, kind := kind } ∈ queueRequested p queue request ↔ { position := q, kind := kind } ∈ queue := by
  cases request with
  | none => rfl
  | some asked =>
    simp only [queueRequested, admitted]
    (repeat' split) <;> simp [other]

theorem queueRequested_length_le (p : Nat) (queue : List LinkEntry) (request : Option LinkKind) :
    (queueRequested p queue request).length ≤ queue.length + 1 := by
  cases request with
  | none => exact Nat.le_succ _
  | some asked =>
    simp only [queueRequested, admitted]
    (repeat' split) <;> simp

theorem queueRequested_full {queue : List LinkEntry} (full : 8 ≤ queue.length) (p : Nat) (request : Option LinkKind) :
    queueRequested p queue request = queue := by
  cases request with
  | none => rfl
  | some asked => exact if_pos full

/-- The link queue takes none of what so many positions request of it, being full, or has room for all of it. -/
def allOrNone (queue : List LinkEntry) (positions : Nat) (full : Bool) : Prop :=
  if full then 8 ≤ queue.length else queue.length + positions ≤ 8

theorem full_of_allOrNone {queue : List LinkEntry} {n : Nat} {full : Bool} (h : allOrNone queue (n + 1) full) :
    decide (8 ≤ queue.length) = full := by
  cases full with
  | true => exact decide_eq_true h
  | false =>
    have room : queue.length + (n + 1) ≤ 8 := h
    exact decide_eq_false (by omega)

theorem allOrNone_next {queue : List LinkEntry} {n : Nat} {full : Bool} (h : allOrNone queue (n + 1) full) (p : Nat)
    (request : Option LinkKind) : allOrNone (queueRequested p queue request) n full := by
  cases full with
  | true =>
    have taken : 8 ≤ queue.length := h
    rwa [queueRequested_full taken]
  | false =>
    have room : queue.length + (n + 1) ≤ 8 := h
    have grows := queueRequested_length_le p queue request
    show (queueRequested p queue request).length + n ≤ 8
    omega

theorem makesRequest_consumableAt (inside : p < 5) (request : Option LinkKind) (q : Nat) :
    (s.makesRequest p request).consumableAt q =
      if q = p then
        (s.consumableAt p).requested (tget s.consumable.schedule p).interval (decide (8 ≤ s.link.queue.length)) request
      else s.consumableAt q :=
  consumableAt_updateConsumable _ q _ inside

/-- What one position requests is nothing to another. -/
theorem boundaryRequest_makesRequest_other (inside : p < 5) (other : q ≠ p) (request : Option LinkKind) :
    (s.makesRequest p request).boundaryRequest q = s.boundaryRequest q := by
  have record := (makesRequest_consumableAt (s := s) inside request q).trans (if_neg other)
  have position : (s.makesRequest p request).position q = s.position q := Prod.ext record rfl
  exact boundaryRequest_congr (congrArg Prod.fst (intervalTaken_congr position rfl)) rfl
    (mem_queueRequested_other other _ _ _)

/-- The positions visited one after another: each makes its own request, and the queue takes all of them or none. -/
theorem epochVisits_eq {full : Bool} (nodup : ps.Nodup) (inside : ∀ p ∈ ps, p < 5)
    (taken : ∀ p ∈ ps, (tget s.consumable.schedule p).pending = none)
    (capacity : allOrNone s.link.queue ps.length full) :
    (ps.foldl State.epochVisit s).link.queue =
        ps.foldl (fun queue p => queueRequested p queue (s.boundaryRequest p)) s.link.queue ∧
      ∀ q, (ps.foldl State.epochVisit s).consumableAt q =
        if q ∈ ps then
          (s.consumableAt q).requested (tget s.consumable.schedule q).interval full (s.boundaryRequest q)
        else s.consumableAt q := by
  induction ps generalizing s with
  | nil => exact ⟨rfl, fun _ => rfl⟩
  | cons p ps ih =>
    obtain ⟨new, rest⟩ := List.nodup_cons.mp nodup
    obtain ⟨first, others⟩ := List.forall_mem_cons.mp inside
    obtain ⟨takenFirst, takenOthers⟩ := List.forall_mem_cons.mp taken
    have apart (q : Nat) (later : q ∈ ps) : q ≠ p := fun here => new (here ▸ later)
    obtain ⟨queue, records⟩ := ih (s := s.makesRequest p (s.boundaryRequest p)) rest others takenOthers
      (allOrNone_next capacity _ _)
    rw [List.foldl_cons, List.foldl_cons, epochVisit_eq takenFirst]
    refine ⟨queue.trans ?_, fun q => (records q).trans ?_⟩
    · exact List.foldl_ext _ _ _ fun queue q later => by
        rw [boundaryRequest_makesRequest_other first (apart q later)]
    · rw [makesRequest_consumableAt first, full_of_allOrNone capacity]
      by_cases here : q = p
      · subst q
        simp [new]
      · have earlier : q ∈ p :: ps ↔ q ∈ ps := by simp [here]
        simp only [earlier, if_neg here, boundaryRequest_makesRequest_other first here]
        rfl

/-- The parts of the consumable and link units that no request changes: the schedule, the presence lines, the number of
the boundary, and the running entry and the QUIET time of the line. -/
def State.besideRequests (s : State) :
    Vector Schedule 5 × Vector PresenceLine 5 × Nat × Option Running × Option Nat :=
  (s.consumable.schedule, s.consumable.presence, s.consumable.lastEpoch, s.link.running, s.link.quietSince)

theorem epochVisits_besideRequests (taken : ∀ p ∈ ps, (tget s.consumable.schedule p).pending = none) :
    (ps.foldl State.epochVisit s).besideRequests = s.besideRequests := by
  induction ps generalizing s with
  | nil => rfl
  | cons p ps ih =>
    obtain ⟨takenFirst, takenOthers⟩ := List.forall_mem_cons.mp taken
    rw [List.foldl_cons, epochVisit_eq takenFirst]
    exact ih (s := s.makesRequest p (s.boundaryRequest p)) takenOthers

theorem linkUnit_ext {x y : LinkUnit} (queue : x.queue = y.queue) (running : x.running = y.running)
    (quiet : x.quietSince = y.quietSince) : x = y := by
  cases x
  cases y
  simp only [LinkUnit.mk.injEq]
  exact ⟨queue, running, quiet⟩

/-! ### The boundary -/

/-- A boundary marked as taken, with every pending interval in effect (R139). -/
def State.intervalsTaken (s : State) : State :=
  positions.foldl State.takeInterval (s.setConsumables { s.consumable with lastEpoch := s.epoch })

theorem mem_positions (p : Nat) : p ∈ positions ↔ p < 5 := by
  simp only [positions, List.mem_cons, List.not_mem_nil, or_false]
  omega

theorem intervalsTaken_position (inside : p < 5) : s.intervalsTaken.position p = s.intervalTaken p :=
  (takeIntervals_position (by decide) (fun q => (mem_positions q).mp) p).trans (if_pos ((mem_positions p).mpr inside))

theorem intervalsTaken_now (s : State) : s.intervalsTaken.now = s.now := foldl_keeps State.now takeInterval_now _ _

theorem intervalsTaken_link (s : State) : s.intervalsTaken.link = s.link := by
  refine foldl_keeps State.link (fun s p => ?_) positions _
  unfold State.takeInterval
  split <;> rfl

/-- The intervals leave the presence lines and the number of the boundary. -/
theorem takeInterval_lines (s : State) (p : Nat) :
    ((s.takeInterval p).consumable.presence, (s.takeInterval p).consumable.lastEpoch) =
      (s.consumable.presence, s.consumable.lastEpoch) := by
  unfold State.takeInterval
  split <;> rfl

theorem intervalsTaken_lines (s : State) :
    (s.intervalsTaken.consumable.presence, s.intervalsTaken.consumable.lastEpoch) = (s.consumable.presence, s.epoch) :=
  foldl_keeps (fun s => (s.consumable.presence, s.consumable.lastEpoch)) takeInterval_lines _ _

theorem intervalsTaken_consumableAt (inside : p < 5) : s.intervalsTaken.consumableAt p = s.scheduled p :=
  congrArg Prod.fst (intervalsTaken_position inside)

theorem intervalsTaken_schedule (inside : p < 5) :
    tget s.intervalsTaken.consumable.schedule p = { interval := s.intervalAfter p, pending := none } :=
  congrArg Prod.snd (intervalsTaken_position inside)

theorem intervalsTaken_pending (inside : p < 5) : (tget s.intervalsTaken.consumable.schedule p).pending = none := by
  rw [intervalsTaken_schedule inside]

theorem intervalsTaken_boundaryRequest (inside : p < 5) : s.intervalsTaken.boundaryRequest p = s.boundaryRequest p :=
  boundaryRequest_congr
    ((scheduled_of_taken (intervalsTaken_pending inside)).trans (intervalsTaken_consumableAt inside))
    (intervalsTaken_now s) (by rw [intervalsTaken_link])

/-- All that a boundary makes of the records and the link queue, where the queue takes every request or none (R139). -/
theorem boundary_eq {full : Bool} (capacity : allOrNone s.link.queue 5 full) :
    (positions.foldl State.epochVisit s.intervalsTaken).link.queue =
        positions.foldl (fun queue p => queueRequested p queue (s.boundaryRequest p)) s.link.queue ∧
      ∀ p < 5, (positions.foldl State.epochVisit s.intervalsTaken).consumableAt p =
        (s.scheduled p).requested (s.intervalAfter p) full (s.boundaryRequest p) := by
  rw [← intervalsTaken_link] at capacity
  obtain ⟨queue, records⟩ := epochVisits_eq (s := s.intervalsTaken) (ps := positions) (by decide)
    (fun p => (mem_positions p).mp) (fun p listed => intervalsTaken_pending ((mem_positions p).mp listed)) capacity
  refine ⟨queue.trans ?_, fun p inside => ?_⟩
  · rw [intervalsTaken_link]
    exact List.foldl_ext _ _ _ fun queue p listed => by
      rw [intervalsTaken_boundaryRequest ((mem_positions p).mp listed)]
  · rw [records, if_pos ((mem_positions p).mpr inside), intervalsTaken_consumableAt inside,
      intervalsTaken_schedule inside, intervalsTaken_boundaryRequest inside]

/-- An AUTHENTICATE is requested at a boundary only where authentication is pending. -/
theorem authPending_of_boundaryRequest (asks : s.boundaryRequest p = some .authenticate) :
    (s.scheduled p).authPending = true := by
  unfold State.boundaryRequest at asks
  obtain ⟨state, hs⟩ : ∃ x, (s.scheduled p).state = x := ⟨_, rfl⟩
  obtain ⟨due, hd⟩ : ∃ x, (s.scheduled p).recheckDue = x := ⟨_, rfl⟩
  have notSync (q : Prop) [Decidable q] : (if q then some LinkKind.sync else none) ≠ some .authenticate := by
    split <;> simp
  cases state with
  | authenticating =>
    by_contra idle
    simp [hs, idle] at asks
  | genuine =>
    cases due with
    | none =>
      simp only [hs, hd] at asks
      exact absurd asks (notSync _)
    | some due =>
      simp only [hs, hd] at asks
      split at asks
      · simp at asks
      · exact absurd asks (notSync _)
  | _ =>
    simp only [hs] at asks
    exact absurd asks (notSync _)

/-- Settles O42, by whether the link queue has room for every position or for none. -/
theorem epochBoundaryRunsTheSchedule : Obligations.EpochBoundaryRunsTheSchedule := by
  constructor
  · intro s due
    have taken : s.epochBoundary = positions.foldl State.epochVisit s.intervalsTaken := if_pos (decide_eq_true due)
    have kept := epochVisits_besideRequests (s := s.intervalsTaken) (ps := positions)
      fun p listed => intervalsTaken_pending ((mem_positions p).mp listed)
    simp only [State.besideRequests, Prod.mk.injEq] at kept
    obtain ⟨schedule, presence, epoch, running, quiet⟩ := kept
    obtain ⟨lines, marked⟩ := Prod.mk.inj (intervalsTaken_lines s)
    refine ⟨_, congrArg Host.Outcome.next taken, ?frame, epoch.trans marked, presence.trans lines, ?schedule, ?running,
      ?quiet, ?room, ?full⟩
    case frame =>
      rw [← taken]
      exact Touches.changesOnly (by simp)
    case schedule =>
      intro p inside
      rw [schedule, intervalsTaken_schedule inside]
    case running => rw [running, intervalsTaken_link]
    case quiet => rw [quiet, intervalsTaken_link]
    case room =>
      intro room
      obtain ⟨queue, records⟩ := boundary_eq (s := s) (full := false) (by show _ + 5 ≤ 8; omega)
      refine ⟨queue.trans ?_, fun p inside => (records p inside).trans ?_⟩
      · exact List.foldl_ext _ _ _ fun queue p _ => by cases s.boundaryRequest p <;> rfl
      · cases s.boundaryRequest p with
        | none => rfl
        | some kind =>
          cases kind with
          | authenticate | sync => rfl
          | recheck =>
            cases due : (s.scheduled p).recheckDue with
            | none =>
              simp only [Consumable.requested, due, Bool.false_eq_true, if_false, Option.map_none]
              rw [← due]
            | some due => simp only [Consumable.requested, due, Bool.false_eq_true, if_false, Option.map_some]
    case full =>
      intro full
      obtain ⟨queue, records⟩ := boundary_eq (s := s) (full := true) full
      refine ⟨?_, fun p inside => (records p inside).trans ?_⟩
      · have same : (positions.foldl State.epochVisit s.intervalsTaken).link.queue = s.link.queue :=
          queue.trans (List.foldl_fixed' (fun p => queueRequested_full full p _) _)
        rw [← intervalsTaken_link s] at same ⊢
        exact linkUnit_ext same running quiet
      · cases asks : s.boundaryRequest p with
        | none => rfl
        | some kind =>
          cases kind with
          | recheck | sync => rfl
          | authenticate =>
            simp only [Consumable.requested, ← authPending_of_boundaryRequest asks]
            rfl
  · intro s before
    exact congrArg Host.Outcome.next (if_neg (decide_eq_true_iff.not.mpr (Nat.not_lt.mpr before)))

end Sys2Proof.Machine
end

section
/-! Frames on CART_BUS (R147), and what the tests of R148 make of the bytes of a reply. -/

namespace Sys2Proof.Machine

/-! ### Bytes of a frame (R147) -/

/-- The bytes of a frame before its frame check: address, command or status, length and data (R147). -/
def frameBody (address code : Nat) (data : List Byte) : List Byte :=
  BitVec.ofNat 8 address :: BitVec.ofNat 8 code :: BitVec.ofNat 8 data.length :: data

/-- The bytes of a frame with its frame check, as they stand without their parity (R147). -/
def frameBytes (address code : Nat) (data : List Byte) : List Byte :=
  frameBody address code data ++ leBytes 2 (frameSum (frameBody address code data))

section Bytes
variable {address code n : Nat} {data : List Byte}

theorem requestFrame_eq (position : Nat) (command : LinkCommand) (data : List Byte) :
    requestFrame position command data = (frameBytes position command.code data).map withOddParity := rfl

theorem chipReply_eq (position status : Nat) (data : List Byte) :
    chipReply position status data = (frameBytes (128 + position) status data).map withOddParity := rfl

@[simp] theorem map_value_withOddParity (bytes : List Byte) :
    (bytes.map withOddParity).map LinkByte.value = bytes := by
  rw [List.map_map]
  exact List.map_id _

@[simp] theorem hasOddParity_withOddParity (b : Byte) : hasOddParity (withOddParity b) = true := by
  rcases Nat.mod_two_eq_zero_or_one (onesOf b) with even | odd
  · simp [hasOddParity, withOddParity, even, Nat.add_mod]
  · simp [hasOddParity, withOddParity, odd]

@[simp] theorem length_frameBody : (frameBody address code data).length = 3 + data.length := by
  simp only [frameBody, List.length_cons]
  omega

@[simp] theorem length_frameBytes : (frameBytes address code data).length = 5 + data.length := by
  simp only [frameBytes, List.length_append, length_frameBody, length_leBytes]
  omega

@[simp] theorem take_frameBytes_body :
    (frameBytes address code data).take (3 + data.length) = frameBody address code data :=
  List.take_left' length_frameBody

theorem frameSum_lt (bytes : List Byte) : frameSum bytes < 65536 := Nat.mod_lt _ (by norm_num)

/-- The two bytes of the frame check, low byte first (R147). -/
theorem getElem?_frameBytes_check :
    (frameBytes address code data)[3 + data.length]? =
        some (BitVec.ofNat 8 (frameSum (frameBody address code data))) ∧
      (frameBytes address code data)[4 + data.length]? =
        some (BitVec.ofNat 8 (frameSum (frameBody address code data) / 256)) := by
  constructor
  · rw [frameBytes, List.getElem?_append_right length_frameBody.le, length_frameBody, Nat.sub_self]
    rfl
  · rw [frameBytes, List.getElem?_append_right (by rw [length_frameBody]; omega), length_frameBody,
      show 4 + data.length - (3 + data.length) = 1 by omega]
    rfl

theorem fieldAt_frameBytes_check :
    fieldAt (frameBytes address code data) (3 + data.length) 2 = frameSum (frameBody address code data) := by
  rw [fieldAt, frameBytes, List.drop_left' length_frameBody, List.take_of_length_le (length_leBytes _ _).le]
  exact leNat_leBytes _ _ (frameSum_lt _)

theorem byteAt_eq {bytes : List Byte} {i : Nat} {b : Byte} (there : bytes[i]? = some b) :
    byteAt bytes i = b.toNat := by
  obtain ⟨inside, rfl⟩ := List.getElem?_eq_some_iff.mp there
  rw [byteAt, fieldAt, List.drop_eq_getElem_cons inside]
  rfl

/-- A byte that holds a number is the byte of that number modulo 256. -/
theorem getElem?_eq_some_iff_toNat {bytes : List Byte} {i v : Nat} {b : Byte}
    (there : bytes[i]? = some (BitVec.ofNat 8 v)) : bytes[i]? = some b ↔ b.toNat = v % 256 := by
  rw [there, Option.some_inj, ← BitVec.toNat_inj, BitVec.toNat_ofNat]
  exact eq_comm

end Bytes

/-! ### The tests of R148 on the bytes of a reply -/

theorem allows_iff (command : LinkCommand) (status : Nat) :
    command.allows status = true ↔ status < 2 ∨ (status = 2 ∧ command = .writeYield) := by
  simp only [LinkCommand.allows, statusOk, statusRefused, statusMismatch, Bool.or_eq_true, Bool.and_eq_true, beq_iff_eq,
    show status < 2 ↔ status = 0 ∨ status = 1 by omega]

theorem replyLength_le (command : LinkCommand) (status : Nat) : command.replyLength status ≤ 16 := by
  unfold LinkCommand.replyLength
  split
  · omega
  · cases command <;> decide

section Reply
variable {position status n m : Nat} {data : List Byte} {command : LinkCommand} {b : LinkByte} {rest : List LinkByte}

theorem replyData_frameBytes (address code : Nat) (short : data.length ≤ 16) :
    replyData (frameBytes address code data) = data := by
  have length : byteAt (frameBytes address code data) 2 = data.length := by
    rw [byteAt_eq (b := BitVec.ofNat 8 data.length) rfl, BitVec.toNat_ofNat]
    exact Nat.mod_eq_of_lt (by omega)
  rw [replyData, length]
  exact List.take_left' rfl

theorem byteAt_take_frameBytes_status (later : 2 ≤ n) (small : status < 256) :
    byteAt ((frameBytes (128 + position) status data).take n) 1 = status := by
  rw [byteAt_eq (b := BitVec.ofNat 8 status) (by rw [List.getElem?_take_of_lt (by omega)]; rfl), BitVec.toNat_ofNat]
  omega

theorem byteAt_take_frameBytes_length (later : 3 ≤ n) (short : data.length ≤ 16) :
    byteAt ((frameBytes (128 + position) status data).take n) 2 = data.length := by
  rw [byteAt_eq (b := BitVec.ofNat 8 data.length) (by rw [List.getElem?_take_of_lt (by omega)]; rfl),
    BitVec.toNat_ofNat]
  omega

theorem frameComplete_take_frameBytes (short : data.length ≤ 16) (within : n ≤ 5 + data.length) :
    frameComplete ((frameBytes (128 + position) status data).take n) = decide (n = 5 + data.length) := by
  have length : ((frameBytes (128 + position) status data).take n).length = n := by
    rw [List.length_take, length_frameBytes, min_eq_left within]
  rw [Bool.eq_iff_iff, frameComplete, length, Bool.and_eq_true, beq_iff_eq, decide_eq_true_iff, decide_eq_true_iff]
  constructor
  · rintro ⟨later, complete⟩
    rwa [byteAt_take_frameBytes_length later short] at complete
  · rintro rfl
    exact ⟨by omega, by rw [byteAt_take_frameBytes_length (by omega) short]⟩

variable (inside : position < 5) (allowed : command.allows status = true)
  (fits : data.length = command.replyLength status)
include inside allowed fits

/-- The tests of R148 on a byte in the place of byte `n` of a well-formed reply: odd parity; a status the command
allows; the address, the length and the frame check of the reply itself. A data byte may have any value. -/
theorem acceptsByte_reply_iff (within : n < 5 + data.length) :
    acceptsByte position command ((frameBytes (128 + position) status data).take n) b = true ↔
      hasOddParity b = true ∧
        if n = 1 then command.allows b.value.toNat = true
        else n < 3 ∨ 3 + data.length ≤ n → (frameBytes (128 + position) status data)[n]? = some b.value := by
  have short : data.length ≤ 16 := fits ▸ replyLength_le _ _
  have small : status < 256 := by
    rcases (allows_iff _ _).mp allowed with low | ⟨rfl, -⟩ <;> omega
  have length : ((frameBytes (128 + position) status data).take n).length = n := by
    rw [List.length_take, length_frameBytes, min_eq_left within.le]
  obtain ⟨low, high⟩ := getElem?_frameBytes_check (address := 128 + position) (code := status) (data := data)
  unfold acceptsByte
  rw [length, Bool.and_eq_true]
  refine and_congr_right fun _ => ?_
  match n with
  | 0 =>
    rw [if_neg (by omega), imp_iff_right (.inl (by omega)), getElem?_eq_some_iff_toNat (v := 128 + position) rfl,
      Nat.mod_eq_of_lt (show 128 + position < 256 by omega)]
    exact beq_iff_eq
  | 1 => rfl
  | 2 =>
    rw [if_neg (by omega), imp_iff_right (.inl (by omega)), getElem?_eq_some_iff_toNat (v := data.length) rfl,
      Nat.mod_eq_of_lt (show data.length < 256 by omega), fits]
    refine beq_iff_eq.trans ?_
    rw [byteAt_take_frameBytes_status le_rfl small]
  | k + 3 =>
    rw [if_neg (by omega)]
    simp only [byteAt_take_frameBytes_length (Nat.le_add_left 3 k) short]
    rcases lt_trichotomy (k + 3) (3 + data.length) with dataByte | lowCheck | later
    · rw [if_pos dataByte]
      exact iff_of_true rfl fun check => by omega
    · rw [if_neg (by omega), if_pos lowCheck, imp_iff_right (.inr lowCheck.ge), lowCheck,
        getElem?_eq_some_iff_toNat low, beq_iff_eq, take_frameBytes_body]
    · have highCheck : k + 3 = 4 + data.length := by omega
      rw [if_neg (by omega), if_neg (by omega), imp_iff_right (.inr later.le), highCheck,
        getElem?_eq_some_iff_toNat high, beq_iff_eq, List.take_take, min_eq_left (by omega), take_frameBytes_body,
        Nat.mod_eq_of_lt (Nat.div_lt_of_lt_mul (frameSum_lt _))]

/-- Each byte of a well-formed reply passes the tests of R148 in its place. -/
theorem acceptsByte_reply {v : Byte} (there : (frameBytes (128 + position) status data)[n]? = some v) :
    acceptsByte position command ((frameBytes (128 + position) status data).take n) (withOddParity v) = true := by
  obtain ⟨within, -⟩ := List.getElem?_eq_some_iff.mp there
  rw [length_frameBytes] at within
  refine (acceptsByte_reply_iff inside allowed fits within).mpr ⟨hasOddParity_withOddParity v, ?_⟩
  split
  next isStatus =>
    subst isStatus
    rw [getElem?_eq_some_iff_toNat (v := status) rfl] at there
    rcases (allows_iff _ _).mp allowed with low | ⟨rfl, -⟩
    · rwa [show (withOddParity v).value.toNat = status from there.trans (Nat.mod_eq_of_lt (by omega))]
    · rwa [show (withOddParity v).value.toNat = 2 from there]
  next => exact fun _ => there

/-- A byte that fails a test of R148 in its place is not accepted. -/
theorem acceptsByte_of_failsTest (within : n < 5 + data.length)
    (fails : failsTest command (chipReply position status data) n b) :
    acceptsByte position command ((frameBytes (128 + position) status data).take n) b = false := by
  rw [Bool.eq_false_iff, ne_eq, acceptsByte_reply_iff inside allowed fits within]
  rintro ⟨parity, passes⟩
  rcases fails with even | fails
  · exact absurd parity (by rw [even]; decide)
  · split at fails
    next isStatus =>
      rw [if_pos isStatus, allows_iff] at passes
      rcases passes with low | ⟨two, write⟩
      · omega
      · exact fails.elim (fun large => by omega) fun ⟨_, other⟩ => other write
    next other =>
      obtain ⟨place, differs⟩ := fails
      rw [if_neg other] at passes
      rw [chipReply_eq, List.length_map, length_frameBytes] at place
      rw [chipReply_eq, map_value_withOddParity] at differs
      exact differs (passes (by omega))

/-! ### A reply received byte by byte (R148, R150) -/

/-- A byte of a well-formed reply before its last is received (R150). -/
theorem receive_reply_byte {v : Byte} (there : (frameBytes (128 + position) status data)[n]? = some v)
    (before : n + 1 < 5 + data.length) :
    receive position command ((frameBytes (128 + position) status data).take n) (withOddParity v :: rest) =
      receive position command ((frameBytes (128 + position) status data).take (n + 1)) rest := by
  have short : data.length ≤ 16 := fits ▸ replyLength_le _ _
  have appended : (frameBytes (128 + position) status data).take n ++ [(withOddParity v).value] =
      (frameBytes (128 + position) status data).take (n + 1) := by
    rw [List.take_add_one, there]
    rfl
  rw [receive, if_pos (acceptsByte_reply inside allowed fits there), appended,
    frameComplete_take_frameBytes short before.le, if_neg (by simpa using before.ne)]

/-- Bytes of a well-formed reply short of its last are received one after another (R150). -/
theorem receive_reply_bytes (first : m ≤ n) (before : n < 5 + data.length) :
    receive position command ((frameBytes (128 + position) status data).take m)
        ((((frameBytes (128 + position) status data).take n).drop m).map withOddParity ++ rest) =
      receive position command ((frameBytes (128 + position) status data).take n) rest := by
  induction n, first using Nat.le_induction generalizing rest with
  | base => rw [List.drop_eq_nil_of_le (List.length_take_le _ _)]; rfl
  | succ n first ih =>
    obtain ⟨v, there⟩ : ∃ v, (frameBytes (128 + position) status data)[n]? = some v :=
      ⟨_, List.getElem?_eq_getElem (by rw [length_frameBytes]; omega)⟩
    rw [← receive_reply_byte inside allowed fits there before, ← ih (by omega), List.take_add_one, there,
      List.drop_append_of_le_length (by rw [List.length_take, length_frameBytes]; omega), List.map_append,
      List.append_assoc]
    rfl

/-- A whole well-formed reply is accepted, and nothing after it is read (R148, R150). -/
theorem receive_reply (before : m < 5 + data.length) :
    receive position command ((frameBytes (128 + position) status data).take m)
        (((frameBytes (128 + position) status data).drop m).map withOddParity ++ rest) =
      .complete (frameBytes (128 + position) status data) := by
  have short : data.length ≤ 16 := fits ▸ replyLength_le _ _
  have whole : (frameBytes (128 + position) status data).take (4 + data.length + 1) =
      frameBytes (128 + position) status data := List.take_of_length_le (by rw [length_frameBytes]; omega)
  obtain ⟨v, there⟩ : ∃ v, (frameBytes (128 + position) status data)[4 + data.length]? = some v :=
    ⟨_, getElem?_frameBytes_check.2⟩
  have last : (frameBytes (128 + position) status data).take (4 + data.length) ++ [v] =
      frameBytes (128 + position) status data := by
    rw [List.take_add_one, there] at whole
    exact whole
  have split : ((frameBytes (128 + position) status data).drop m).map withOddParity =
      (((frameBytes (128 + position) status data).take (4 + data.length)).drop m).map withOddParity ++
        [withOddParity v] := by
    conv_lhs => rw [← last]
    rw [List.drop_append_of_le_length (by rw [List.length_take, length_frameBytes]; omega), List.map_append]
    rfl
  have complete : frameComplete (frameBytes (128 + position) status data) = true := by
    rw [← whole, frameComplete_take_frameBytes short (by omega)]
    exact decide_eq_true (by omega)
  rw [split, List.append_assoc, receive_reply_bytes inside allowed fits (by omega) (by omega), List.singleton_append,
    receive, if_pos (acceptsByte_reply inside allowed fits there)]
  show (if frameComplete (_ ++ [v]) then Reception.complete (_ ++ [v]) else _) = _
  rw [last, if_pos complete]

end Reply

/-! ### Runs of bytes of a chip's reply -/

section Runs
variable {position status n m : Nat} {data : List Byte} {command : LinkCommand} {b : LinkByte} {rest : List LinkByte}

@[simp] theorem length_chipReply (position status : Nat) (data : List Byte) :
    (chipReply position status data).length = 5 + data.length := by
  rw [chipReply_eq, List.length_map, length_frameBytes]

theorem values_take_chipReply (position status n : Nat) (data : List Byte) :
    ((chipReply position status data).take n).map LinkByte.value =
      (frameBytes (128 + position) status data).take n := by
  rw [List.map_take, chipReply_eq, map_value_withOddParity]

variable (inside : position < 5) (allowed : command.allows status = true)
  (fits : data.length = command.replyLength status)
include inside allowed fits

theorem receive_chipReply (before : m < (chipReply position status data).length) :
    receive position command (((chipReply position status data).take m).map LinkByte.value)
        ((chipReply position status data).drop m ++ rest) =
      .complete (frameBytes (128 + position) status data) := by
  rw [length_chipReply] at before
  rw [values_take_chipReply, chipReply_eq, ← List.map_drop]
  exact receive_reply inside allowed fits before

theorem receive_chipReply_part (first : m ≤ n) (before : n < (chipReply position status data).length) :
    receive position command (((chipReply position status data).take m).map LinkByte.value)
        (((chipReply position status data).take n).drop m ++ rest) =
      receive position command (((chipReply position status data).take n).map LinkByte.value) rest := by
  rw [length_chipReply] at before
  rw [values_take_chipReply, values_take_chipReply, chipReply_eq, ← List.map_take, ← List.map_drop]
  exact receive_reply_bytes inside allowed fits first before

/-- The first byte that fails a test of R148 ends the reception, wherever it stands. -/
theorem receive_failsTest (first : m ≤ n) (before : n < (chipReply position status data).length)
    (fails : failsTest command (chipReply position status data) n b) :
    receive position command (((chipReply position status data).take m).map LinkByte.value)
        (((chipReply position status data).take n).drop m ++ b :: rest) = .failed := by
  rw [receive_chipReply_part inside allowed fits first before, values_take_chipReply, receive,
    acceptsByte_of_failsTest inside allowed fits (by rwa [length_chipReply] at before) fails]
  rfl

end Runs

end Sys2Proof.Machine
end

section
/-! Exchanges and attempts on CART_BUS (R146, R150, R151): how an entry and an attempt begin, what a reply makes of
them, and how they fail. -/

namespace Sys2Proof.Machine

variable {s : State} {e : LinkEntry} {rest : List LinkEntry} {r : Running}

/-! ### Beginnings (R146, R150) -/

/-- AUTHENTICATE and RECHECK are made of the same two commands (R151). -/
theorem command_of_ne_sync {kind : LinkKind} (other : kind ≠ .sync) (second : Bool) :
    kind.command second = if second = true then .challenge else .identify := by
  cases kind with
  | sync => exact absurd rfl other
  | authenticate | recheck => cases second <;> rfl

/-- An attempt of a command other than CHALLENGE sends its request frame. -/
theorem beginAttempt_eq (s : State) (other : e.kind.command r.secondExchange ≠ .challenge) :
    s.beginAttempt e r =
      s.setRunning
        { r with
          phase :=
            .sending
              (requestFrame e.position (e.kind.command r.secondExchange)
                (if e.kind.command r.secondExchange = .writeYield then r.writeData else [])) } := by
  unfold State.beginAttempt
  cases command : e.kind.command r.secondExchange with
  | challenge => exact absurd command other
  | identify | readYield | writeYield => rfl

/-- An attempt of a CHALLENGE sends a nonce drawn for it (R149). -/
theorem beginAttempt_challenge (s : State) (command : e.kind.command r.secondExchange = .challenge) :
    s.beginAttempt e r =
      (s.setCipher { s.cipher with draws := s.cipher.draws + 1 }).setRunning
        { r with
          nonce := some (Config.nonce s.cipher.draws)
          phase := .sending (requestFrame e.position .challenge (bytesOfBeat (Config.nonce s.cipher.draws))) } := by
  unfold State.beginAttempt
  rw [command]

/-- A SYNC begins with READ_YIELD, and takes the sync capture at its record (R136, R151). -/
theorem beginEntry_sync (s : State) (kind : e.kind = .sync) :
    s.beginEntry e =
      (s.updateConsumable e.position fun r =>
        { r with syncCapture := some (s.consumableAt e.position).unsynced }).setRunning
        (.begun (requestFrame e.position .readYield []) (some (s.consumableAt e.position).unsynced)) := by
  unfold State.beginEntry
  rw [kind]
  exact (beginAttempt_eq _ (by rw [kind]; exact LinkCommand.noConfusion)).trans (by rw [kind]; rfl)

/-- AUTHENTICATE and RECHECK begin with IDENTIFY (R151). -/
theorem beginEntry_identify (s : State) (kind : e.kind ≠ .sync) :
    s.beginEntry e = s.setRunning (.begun (requestFrame e.position .identify []) none) := by
  unfold State.beginEntry
  cases held : e.kind with
  | sync => exact absurd held kind
  | authenticate | recheck =>
    exact (beginAttempt_eq _ (by rw [held]; exact LinkCommand.noConfusion)).trans (by rw [held]; rfl)

/-- The beginning of an entry keeps the queue and draws no nonce. -/
theorem beginEntry_begins (s : State) (e : LinkEntry) :
    s.begins (s.beginEntry e) e ∧ (s.beginEntry e).link.queue = s.link.queue ∧
      (s.beginEntry e).link.quietSince = s.link.quietSince ∧ Touches [.link, .consumable] s (s.beginEntry e) := by
  unfold State.begins
  by_cases kind : e.kind = .sync
  · rw [beginEntry_sync s kind, kind]
    exact ⟨⟨rfl, rfl⟩, rfl, rfl, by simp⟩
  · rw [beginEntry_identify s kind]
    cases held : e.kind with
    | sync => exact absurd held kind
    | authenticate | recheck => exact ⟨⟨rfl, rfl⟩, rfl, rfl, by simp⟩

theorem beginOldest_eq (queue : s.link.queue = e :: rest) : s.beginOldest = s.beginEntry e := by
  unfold State.beginOldest
  rw [queue]

theorem lineReady_iff (s : State) :
    s.lineReady = true ↔ s.link.running = none ∧ s.link.quietSince = none ∧ s.link.queue ≠ [] := by
  simp [State.lineReady, and_assoc]

theorem requestFrameSent_eq {frame : List LinkByte} (running : s.link.running = some r)
    (phase : r.phase = .sending frame) :
    s.requestFrameSent = s.setRunning { r with phase := .awaitingReply s.now } := by
  unfold State.requestFrameSent
  simp only [running, phase]

/-! ### Failures (R146, R150) -/

theorem failAttempt_failsAttempt (s : State) (e : LinkEntry) (r : Running) :
    s.failsAttempt (s.failAttempt e r) e r := by
  unfold State.failsAttempt State.failAttempt State.reportFailure
  cases r.secondAttempt with
  | false => exact ⟨rfl, Touches.changesOnly (by simp)⟩
  | true => cases e.kind <;> rfl

theorem runningEntry_eq (runs : s.runs e rest r) : s.runningEntry = some (e, r) := by
  obtain ⟨queue, running⟩ := runs
  unfold State.runningEntry
  simp only [queue, running]

theorem linkTimeUp_eq {since : Nat} (up : since + 20000 ≤ s.now) : s.linkTimeUp since = true := decide_eq_true up

theorem replyTimeout_eq {since : Nat} (runs : s.runs e rest r)
    (phase : r.phase = .awaitingReply since ∨ ∃ got, r.phase = .receiving got since) (up : since + 20000 ≤ s.now) :
    s.replyTimeout = s.failAttempt e r := by
  have timeUp : s.replyTimeUp r.phase = true := by
    rcases phase with awaiting | ⟨got, receiving⟩
    · rw [awaiting]; exact linkTimeUp_eq up
    · rw [receiving]; exact linkTimeUp_eq up
  unfold State.replyTimeout
  simp only [runningEntry_eq runs, timeUp, if_true]

theorem quietEnd_eq {since : Nat} (runs : s.runs e rest r) (phase : r.phase = .quiet since)
    (up : since + 20000 ≤ s.now) : s.quietEnd = s.beginAttempt e { r with secondAttempt := true } := by
  have timeUp : s.quietUp r.phase = true := by rw [phase]; exact linkTimeUp_eq up
  unfold State.quietEnd
  simp only [runs.2, runningEntry_eq runs, timeUp, if_true]

/-- The end of a QUIET time with no entry running leaves the line IDLE, and the oldest entry begins (R146). -/
theorem quietEnd_eq_beginOldest {since : Nat} (running : s.link.running = none)
    (quiet : s.link.quietSince = some since) (up : since + 20000 ≤ s.now) :
    s.quietEnd = (s.setLink { s.link with quietSince := none }).beginOldest := by
  unfold State.quietEnd State.quietAfterEnd
  simp only [running, quiet, linkTimeUp_eq up, if_true]

/-! ### Replies (R148, R151) -/

section Replies
variable {status m : Nat} {data : List Byte} {bytes : List LinkByte} {passes : Bool}

/-- Bytes that arrive are judged after the bytes received in the attempt under way (R150). -/
theorem exec_replyFrame {got : List LinkByte} (runs : s.runs e rest r) (received : r.received got)
    (arrive : bytes ≠ []) :
    exec (.replyFrame bytes passes) s = .next (s.receiveBytes e r (got.map LinkByte.value) bytes passes) := by
  have arrives : s.replyFrame bytes passes = s.receiveBytes e r (got.map LinkByte.value) bytes passes := by
    unfold State.replyFrame
    rw [runningEntry_eq runs]
    rcases received with ⟨rfl, since, phase⟩ | ⟨since, phase⟩
    · simp only [phase, List.map_nil]
    · simp only [phase]
  rw [← arrives]
  exact congrArg Host.Outcome.next (if_neg (by simpa using arrive))

/-- A reply frame that meets every test of R148 is taken by its command (R151), but one with status REFUSED fails its
attempt. -/
theorem exec_replyFrame_reply {more : List LinkByte} (runs : s.runs e rest r) (inside : e.position < 5)
    (allowed : (e.kind.command r.secondExchange).allows status = true)
    (fits : data.length = (e.kind.command r.secondExchange).replyLength status)
    (before : m < (chipReply e.position status data).length)
    (received : r.received ((chipReply e.position status data).take m)) :
    exec (.replyFrame ((chipReply e.position status data).drop m ++ more) passes) s =
      .next (if status = 1 then s.failAttempt e r else s.exchangeReply e r data passes) := by
  have code : byteAt (frameBytes (128 + e.position) status data) 1 = status := by
    rw [byteAt_eq (b := BitVec.ofNat 8 status) rfl, BitVec.toNat_ofNat]
    rcases (allows_iff _ _).mp allowed with low | ⟨rfl, -⟩
    · exact Nat.mod_eq_of_lt (by omega)
    · rfl
  have arrive : (chipReply e.position status data).drop m ++ more ≠ [] :=
    List.append_ne_nil_of_left_ne_nil (List.drop_eq_nil_iff.not.mpr before.not_ge) more
  rw [exec_replyFrame runs received arrive, State.receiveBytes,
    receive_chipReply inside allowed fits before]
  simp only [code, replyData_frameBytes _ _ (fits ▸ replyLength_le _ _), statusRefused]

/-- READ_YIELD is followed by the WRITE_YIELD of the new yield (R151). -/
theorem exchangeReply_readYield (kind : e.kind = .sync) (first : r.secondExchange = false) :
    s.exchangeReply e r data passes =
      s.setRunning
        { r with
          secondExchange := true, secondAttempt := false, chipYield := some (fieldAt data 0 4)
          phase :=
            .sending
              (requestFrame e.position .writeYield
                (leBytes 4 (fieldAt data 0 4) ++ leBytes 4 (fieldAt data 0 4 - r.capture.getD 0))) } := by
  unfold State.exchangeReply State.secondExchange
  rw [first, kind]
  exact (beginAttempt_eq s (by rw [kind]; exact LinkCommand.noConfusion)).trans (by rw [kind]; rfl)

/-- IDENTIFY is followed by a CHALLENGE (R151). -/
theorem exchangeReply_identify (kind : e.kind ≠ .sync) (first : r.secondExchange = false) :
    s.exchangeReply e r data passes =
      (s.setCipher { s.cipher with draws := s.cipher.draws + 1 }).setRunning
        { r with
          secondExchange := true, secondAttempt := false, identity := some (identityOf data)
          nonce := some (Config.nonce s.cipher.draws)
          phase := .sending (requestFrame e.position .challenge (bytesOfBeat (Config.nonce s.cipher.draws))) } := by
  have command : e.kind.command r.secondExchange = .identify := by rw [first, command_of_ne_sync kind]; rfl
  unfold State.exchangeReply
  rw [command]
  exact beginAttempt_challenge s (command_of_ne_sync kind true)

/-- A WRITE_YIELD is judged by the yield its reply carries (R151). -/
theorem exchangeReply_writeYield (kind : e.kind = .sync) (second : r.secondExchange = true) :
    s.exchangeReply e r data passes =
      if fieldAt data 0 4 = r.newYield then
        (s.removeRunning none).syncEnd e.position (r.chipYield.getD 0) r.newYield
      else s.failAttempt e r := by
  unfold State.exchangeReply
  rw [kind, second]
  rfl

/-- A CHALLENGE ends its entry with results (R146, R151). -/
theorem exchangeReply_challenge (kind : e.kind ≠ .sync) (second : r.secondExchange = true) :
    s.exchangeReply e r data passes = (s.removeRunning none).reportChallenge e (r.identity.getD default) passes := by
  unfold State.exchangeReply
  rw [second, command_of_ne_sync kind]
  rfl

end Replies

/-! ### The statements -/

/-- Settles O46, by the equations of the beginning of an entry and of the bytes of a frame. -/
theorem oldestLinkEntryBeginsWithARequestFrame : Obligations.OldestLinkEntryBeginsWithARequestFrame := by
  refine ⟨?begins, ?nothing, ?sent, ?frame⟩
  case begins =>
    intro s e rest queue running quiet
    obtain ⟨begins, kept, idle, touches⟩ := beginEntry_begins s e
    have ready : s.lineReady = true := (lineReady_iff s).mpr ⟨running, quiet, by simp [queue]⟩
    have starts : exec .linkEntryStart s = .next (s.beginEntry e) :=
      congrArg Host.Outcome.next ((if_pos ready).trans (beginOldest_eq queue))
    exact ⟨_, starts, begins, kept.trans queue, idle.trans quiet, touches.changesOnly⟩
  case nothing =>
    intro s busy
    refine congrArg Host.Outcome.next (if_neg fun ready => ?_)
    obtain ⟨running, quiet, queue⟩ := (lineReady_iff s).mp ready
    rcases busy with empty | runs | notIdle
    · exact queue empty
    · exact runs running
    · exact notIdle quiet
  case sent =>
    intro s r frame running phase
    exact ⟨_, congrArg Host.Outcome.next (requestFrameSent_eq running phase), rfl, Touches.changesOnly (by simp)⟩
  case frame =>
    intro position command data
    simp only [requestFrame_eq, map_value_withOddParity, take_frameBytes_body]
    refine ⟨rfl, length_frameBytes, fieldAt_frameBytes_check, fun b sent => ?_⟩
    obtain ⟨v, -, rfl⟩ := List.mem_map.mp sent
    exact beq_iff_eq.mp (hasOddParity_withOddParity v)

/-- Settles O47, by the command that the reply answers. -/
theorem acceptedReplyCompletesTheExchange : Obligations.AcceptedReplyCompletesTheExchange := by
  refine ⟨?completes, ?kept⟩
  case completes =>
    intro s e rest r status data m passes runs inside accepted fits reply before received
    have allowed : (e.kind.command r.secondExchange).allows status = true :=
      (allows_iff _ _).mpr (accepted.imp_left (by omega))
    have notRefused : status ≠ 1 := by omega
    have taken := exec_replyFrame_reply (more := []) (passes := passes) runs inside allowed fits before received
    rw [List.append_nil, if_neg notRefused] at taken
    refine ⟨_, taken, ?_⟩
    by_cases kind : e.kind = .sync
    · cases exchange : r.secondExchange with
      | false =>
        rw [if_pos rfl, if_pos kind, exchangeReply_readYield kind exchange]
        exact ⟨rfl, Touches.changesOnly (by simp)⟩
      | true =>
        rw [if_neg Bool.noConfusion, exchangeReply_writeYield kind exchange, kind]
        show if fieldAt data 0 4 = r.newYield then _ else _
        split
        · rfl
        · exact failAttempt_failsAttempt s e r
    · cases exchange : r.secondExchange with
      | false =>
        rw [if_pos rfl, if_neg kind, exchangeReply_identify kind exchange]
        exact ⟨rfl, rfl, Touches.changesOnly (by simp)⟩
      | true =>
        rw [if_neg Bool.noConfusion, exchangeReply_challenge kind exchange]
        unfold State.reportChallenge
        cases held : e.kind with
        | sync => exact absurd held kind
        | authenticate | recheck => rfl
  case kept =>
    intro s e rest r status data m k passes runs inside accepted fits reply nonempty before received
    have allowed := (allows_iff _ _).mpr accepted
    have part : (reply.drop m).take k = (reply.take (m + k)).drop m := by
      rw [List.drop_take, Nat.add_sub_cancel_left]
    have arrive : (reply.drop m).take k ≠ [] :=
      List.ne_nil_of_length_pos (by rw [List.length_take, List.length_drop]; omega)
    have incomplete := receive_chipReply_part (rest := []) inside allowed fits (Nat.le_add_right m k) before
    rw [List.append_nil, ← part] at incomplete
    refine ⟨_, exec_replyFrame runs received arrive, ?_⟩
    rw [State.receiveBytes, incomplete]
    exact ⟨rfl, Touches.changesOnly (by simp [receive])⟩

/-- Settles O48, by what fails and by what follows the QUIET time. -/
theorem failedAttemptIsMadeAgainOnce : Obligations.FailedAttemptIsMadeAgainOnce := by
  refine ⟨?byte, ?refused, ?timeout, ?again, ?challengedAgain, ?nextEntry, ?idle⟩
  case byte =>
    intro s e rest r status data m n b more passes runs inside accepted fits reply first before received fails
    have failed := receive_failsTest (rest := more) inside ((allows_iff _ _).mpr accepted) fits first before fails
    refine ⟨_, exec_replyFrame runs received (by simp), ?_⟩
    rw [State.receiveBytes, failed]
    exact failAttempt_failsAttempt s e r
  case refused =>
    intro s e rest r m more passes runs inside reply before received
    have allowed := (allows_iff (e.kind.command r.secondExchange) 1).mpr (.inl (by omega))
    exact ⟨_, exec_replyFrame_reply runs inside allowed rfl before received, failAttempt_failsAttempt s e r⟩
  case timeout =>
    intro s e rest r since runs phase up
    exact ⟨_, congrArg Host.Outcome.next (replyTimeout_eq runs phase up), failAttempt_failsAttempt s e r⟩
  case again =>
    intro s e rest r since runs phase up other
    have again := (quietEnd_eq runs phase up).trans (beginAttempt_eq s other)
    exact ⟨_, congrArg Host.Outcome.next again, rfl, Touches.changesOnly (by simp)⟩
  case challengedAgain =>
    intro s e rest r since runs phase up challenge
    have again := (quietEnd_eq runs phase up).trans (beginAttempt_challenge s challenge)
    exact ⟨_, congrArg Host.Outcome.next again, rfl, rfl, Touches.changesOnly (by simp)⟩
  case nextEntry =>
    intro s e rest since queue running quiet up
    obtain ⟨begins, kept, idle, touches⟩ := beginEntry_begins (s.setLink { s.link with quietSince := none }) e
    have starts := (quietEnd_eq_beginOldest running quiet up).trans (beginOldest_eq queue)
    exact ⟨_, congrArg Host.Outcome.next starts, begins, idle, kept.trans queue,
      Touches.changesOnly ((touches_iff touches).mpr (by simp))⟩
  case idle =>
    intro s since queue running quiet up
    have idle : s.quietEnd = s.setLink { s.link with quietSince := none } := by
      rw [quietEnd_eq_beginOldest running quiet up, State.beginOldest, setLink_link, queue]
    exact ⟨_, congrArg Host.Outcome.next idle, rfl, Touches.changesOnly (by simp)⟩

end Sys2Proof.Machine
end

section
/-! What each operation of the meter unit leaves in its own registers (R100, R106, R157, R158, R161 to R163, R166). -/

namespace Sys2Proof.Machine

variable {s : State}

/-! ### Banks (R157, R158) -/

/-- A bank's captured totals and its serial are in the cells, and with BANK_AGAIN set the next bank has begun (R158). -/
def MeterUnit.completed (m : MeterUnit) (b : Bank) (now : Nat) : MeterUnit :=
  let written : MeterUnit := { m with cells := m.cells.afterBank b, bank := none }
  if m.bankAgain then written.triggered m.pending now else written

/-- A bank that carries a serial is completed by the answer to the parked SNAPSHOT (R158, R162). -/
theorem bankComplete_eq {b : Bank} (bank : s.meter.bank = some b) :
    s.bankComplete =
      if b.serial.isSome then (s.setMeter (s.meter.completed b s.now)).snapshotBanked
      else s.setMeter (s.meter.completed b s.now) := by
  have next : (if s.meter.bankAgain then
        (s.setMeter { s.meter with cells := s.meter.cells.afterBank b, bank := none }).beginBank s.meter.pending
      else s.setMeter { s.meter with cells := s.meter.cells.afterBank b, bank := none }) =
      s.setMeter (s.meter.completed b s.now) := by
    unfold MeterUnit.completed
    split <;> rfl
  simp only [State.bankComplete, bank, next]

/-- The SNAPSHOT that waits for its serial bank is no longer in progress (R162). -/
theorem snapshotBanked_meter (s : State) :
    s.snapshotBanked.meter =
      { s.meter with work := if s.meter.work.code = 2 then .none else s.meter.work } := by
  unfold State.snapshotBanked
  cases work : s.meter.work <;> simp only [MeterWork.code, ← work] <;> rfl

/-- A completed bank with the SNAPSHOT that waited for its serial no longer in progress (R158, R162). -/
def MeterUnit.bankCompleted (m : MeterUnit) (b : Bank) (now : Nat) : MeterUnit :=
  { m.completed b now with work := if b.serial ≠ none ∧ m.work.code = 2 then .none else m.work }

theorem bankComplete_meter {b : Bank} (bank : s.meter.bank = some b) :
    s.bankComplete.meter = s.meter.bankCompleted b s.now := by
  have work : (s.meter.completed b s.now).work = s.meter.work := by
    unfold MeterUnit.completed
    split <;> rfl
  rw [bankComplete_eq bank, MeterUnit.bankCompleted]
  cases b.serial with
  | none => simp [← work]
  | some x => simp [snapshotBanked_meter, work]

theorem bankComplete_of_idle (idle : s.meter.bank = none) : s.bankComplete = s := by
  rw [State.bankComplete, idle]

theorem pwrWarn_of_released (released : s.meter.pwrWarn = false) :
    s.pwrWarn = (s.powerWarning.setMeter { s.meter with pwrWarn := true }).triggerBank none := by
  simp [State.pwrWarn, released, State.powerWarning]

theorem pwrWarn_of_asserted (asserted : s.meter.pwrWarn = true) : s.pwrWarn = s := by
  simp [State.pwrWarn, asserted]

/-! ### Work in progress (R161 to R163, R166) -/

/-- A part of a snapshot is written where one is left before the trailer (R161). -/
theorem snapshotImageCopy_of_part {c : Composing} {bytes : List Byte} {offset : Nat} {next : SnapshotPart}
    (work : s.meter.work = .composing c) (part : s.snapshotPart c = some (bytes, offset, next)) :
    s.snapshotImageCopy =
      (s.store (c.base + offset) bytes).setWork
        (.composing { c with next := next, written := c.written ++ bytes }) := by
  simp only [State.snapshotImageCopy, work, part]

theorem compositionEnd_of_trailer {c : Composing} (work : s.meter.work = .composing c) (last : c.next = .trailer) :
    s.compositionEnd =
      let body := trailerBody c.serial s.account.period s.now
      let tag := Config.snapshotTag s.meter.cells.directiveKey (c.written ++ body)
      ((s.store (c.base + trailerOffset) (body ++ bytesOfBeat tag)).setWork
        (.banking c.base c.serial c.parked)).triggerBank (some { serial := c.serial, tag := tag }) := by
  simp only [State.compositionEnd, work, if_pos last]

@[simp] theorem endWork_meter (s : State) (base : Nat) (source : AreaSource) (parked : Parked) (a : Answer) :
    (s.endWork base source parked a).meter = { s.meter with work := .none } := rfl

/-- The work in progress ends as the directive unit sees it: its area leaves the list and its reply is handed over. -/
theorem endWork_directive (s : State) (base : Nat) (source : AreaSource) (parked : Parked) (a : Answer) :
    (s.endWork base source parked a).directive =
      { s.directive with
        owned := s.directive.owned.filter fun x => !(x.base == base && x.source == source)
        writes := s.directive.writes ++ [parked.reply a s.now] } := rfl

/-- The entry to lockdown at the meter unit, by the rows of R166. -/
theorem meterEntry_meter (s : State) : s.meterEntry.meter = s.meter.atEntry.1 := by
  have serial : s.bankHasSerial = (s.meter.bank.bind Bank.serial).isSome := bankHasSerial_eq s
  unfold State.meterEntry MeterUnit.atEntry
  cases work : s.meter.work with
  | none | composing c | restoring base parked got => rfl
  | banking base serial parked => cases carried : s.meter.bank.bind Bank.serial <;> simp_all

/-! ### The tests of SNAPSHOT and RESTORE (R160, R163) -/

/-- A SNAPSHOT accepted: its area is owned, and its header, tariff block and images are still to be written (R160). -/
def State.acceptsSnapshot (s : State) (base : Nat) (parked : Parked) : State :=
  (s.own base snapshotSize .snapshotArea).setWork
    (.composing
      { base := base, serial := s.meter.cells.serial + 1, parked := parked, accepted := s.now
        totals := s.meter.working, next := .header, written := [] })

/-- A RESTORE accepted: its area is owned, and no byte of it has been read (R163). -/
def State.acceptsRestore (s : State) (base : Nat) (parked : Parked) : State :=
  (s.own base snapshotSize .restoreArea).setWork (.restoring base parked [])

/-- What an owner makes of its tests: the answer of one that fails, or the reply parked in an accepted state. -/
def acceptedUnless (refusal : Option Answer) (s accepted : State) : Verdict × State :=
  match refusal with
  | some a => (.answer a, s)
  | none => (.parked, accepted)

theorem acceptedUnless_test {p : Prop} [Decidable p] (a : Answer) (rest : Option Answer) (s accepted : State) :
    acceptedUnless (if p then some a else rest) s accepted =
      if p then (.answer a, s) else acceptedUnless rest s accepted := by
  split <;> rfl

theorem test_or {p : Prop} [Decidable p] (a : Answer) (rest more : Option Answer) :
    (if p then some a else rest).or more = if p then some a else rest.or more := by
  split <;> rfl

theorem test_unless (b : Bool) (a : Answer) :
    (if b = true then none else some a) = if b = false then some a else none := by
  cases b <;> rfl

/-- The tests of R160 in order. -/
theorem ownSnapshot_eq (d : Directive) (s : State) :
    ownSnapshot d s =
      if d.arg areaForm 0 % 64 ≠ 0 then (.answer (.refuse .refusedRange .badOperand), s)
      else if 2 ^ 40 < d.arg areaForm 0 + 131264 then (.answer (.refuse .refusedRange .badRange), s)
      else if s.meter.work ≠ .none then (.answer (.refuse .busy .meterBusy), s)
      else if s.meter.cells.serial = 2 ^ 32 - 1 then (.answer (.refuse .refusedRange .serialEnd), s)
      else if s.overlapsRegion (d.arg areaForm 0) 131264 = true then
        (.answer (.refuse .refusedRange .overlapRegion), s)
      else if s.overlapsOwned (d.arg areaForm 0) 131264 = true then (.answer (.refuse .refusedRange .overlapOwned), s)
      else (.parked, s.acceptsSnapshot (d.arg areaForm 0) d.park) := by
  have tests : ownSnapshot d s = acceptedUnless _ s (s.acceptsSnapshot (d.arg areaForm 0) d.park) := rfl
  rw [tests]
  simp only [State.areaRefusal, State.overlapRefusal, test_or, Option.none_or, acceptedUnless_test]
  rfl

/-- The tests of R163 in order. -/
theorem ownRestore_eq (d : Directive) (s : State) :
    ownRestore d s =
      if d.arg areaForm 0 % 64 ≠ 0 then (.answer (.refuse .refusedRange .badOperand), s)
      else if 2 ^ 40 < d.arg areaForm 0 + 131264 then (.answer (.refuse .refusedRange .badRange), s)
      else if s.meter.work ≠ .none then (.answer (.refuse .busy .meterBusy), s)
      else if s.account.pristine = false then (.answer (.refuse .refusedState .notPristine), s)
      else if s.allSlotsFree = false then (.answer (.refuse .refusedState .jobsOpen), s)
      else if s.overlapsRegion (d.arg areaForm 0) 131264 = true then
        (.answer (.refuse .refusedRange .overlapRegion), s)
      else if s.overlapsOwned (d.arg areaForm 0) 131264 = true then (.answer (.refuse .refusedRange .overlapOwned), s)
      else (.parked, s.acceptsRestore (d.arg areaForm 0) d.park) := by
  have tests : ownRestore d s = acceptedUnless _ s (s.acceptsRestore (d.arg areaForm 0) d.park) := rfl
  rw [tests]
  simp only [State.areaRefusal, State.overlapRefusal, test_unless, test_or, Option.none_or, acceptedUnless_test]
  rfl

/-! ### Working totals (R100, R106, R156) -/

/-- A scan page is counted whether it is attributed or not (R106, R107). -/
theorem scnPage_meter (s : State) :
    s.scnPage.meter =
      { s.meter with working := { s.meter.working with scans := raiseTotal s.meter.working.scans } } := by
  have charged (slot : Nat) (j : JobRecord) (b : State) : (b.chargeScan slot j).meter = b.countScan.meter := by
    simp only [State.chargeScan, decideScan_eq]
    split <;> rfl
  simp only [State.scnPage]
  split
  · exact charged _ _ _
  · rfl

/-- The committed sides and the sheet itself are counted, and 256 sheets since the last bank trigger one (R100, R101,
R157). -/
def MeterUnit.delivered (m : MeterUnit) (sides : List SideRecord) (now : Nat) : MeterUnit :=
  let totals := sides.foldl Totals.committed m.working
  let counted : MeterUnit :=
    { m with
      working := { totals with sheets := raiseTotal totals.sheets }
      sinceBank := min 65535 (m.sinceBank + 1) }
  if m.sinceBank + 1 = 256 then counted.triggered none now else counted

theorem deliverSheet_meter (s : State) (h : Sheet) (sides : List SideRecord) :
    (s.deliverSheet h sides).meter = s.meter.delivered sides (s.commitSides h sides).now := by
  have drained : Touches [.directive, .job, .cipher, .transaction] (s.sheetCounted h sides)
      (s.deliverSheet h sides) := by simp [deliverSheet_eq]
  refine (drained .meter (by simp)).trans ((countSheet_meter _).trans ?_)
  simp only [setSheets_meter, commitSides_meter]
  rfl

end Sys2Proof.Machine
end

section
/-! The laws of the meter unit (R156, R157, R160, R162, R164): what they ask of its registers alone, and that each of
its operations keeps them and moves the working totals and the banked serial only upwards. -/

namespace Sys2Proof.Machine

/-! ### Totals -/

theorem Totals.le_refl (a : Totals) : a.le a := ⟨le_rfl, le_rfl, le_rfl, le_rfl⟩

theorem Totals.le.trans {a b c : Totals} (h : a.le b) (h' : b.le c) : a.le c := by
  obtain ⟨mono, colour, sheets, scans⟩ := h
  obtain ⟨mono', colour', sheets', scans'⟩ := h'
  exact ⟨mono.trans mono', colour.trans colour', sheets.trans sheets', scans.trans scans'⟩

/-- Totals that have risen within their range (R156). -/
def Totals.Rises (a b : Totals) : Prop := a.le .top → a.le b ∧ b.le .top

theorem Totals.Rises.refl (a : Totals) : a.Rises a := fun top => ⟨a.le_refl, top⟩

theorem Totals.Rises.trans {a b c : Totals} (h : a.Rises b) (h' : b.Rises c) : a.Rises c := fun top => by
  obtain ⟨le, top⟩ := h top
  obtain ⟨le', top⟩ := h' top
  exact ⟨le.trans le', top⟩

/-- A total that stops at its top rises below it. -/
theorem raiseTotal_rises {n : Nat} (h : n ≤ 2 ^ 64 - 1) : n ≤ raiseTotal n ∧ raiseTotal n ≤ 2 ^ 64 - 1 := by
  unfold raiseTotal satAdd
  omega

theorem Totals.rises_scans (a : Totals) : a.Rises { a with scans := raiseTotal a.scans } := by
  rintro ⟨mono, colour, sheets, scans⟩
  obtain ⟨rises, top⟩ := raiseTotal_rises scans
  exact ⟨⟨le_rfl, le_rfl, le_rfl, rises⟩, mono, colour, sheets, top⟩

theorem Totals.rises_sheets (a : Totals) : a.Rises { a with sheets := raiseTotal a.sheets } := by
  rintro ⟨mono, colour, sheets, scans⟩
  obtain ⟨rises, top⟩ := raiseTotal_rises sheets
  exact ⟨⟨le_rfl, le_rfl, rises, le_rfl⟩, mono, colour, top, scans⟩

theorem Totals.rises_committed (a : Totals) (r : SideRecord) : a.Rises (a.committed r) := by
  rintro ⟨mono, colour, sheets, scans⟩
  unfold Totals.committed
  split
  · obtain ⟨rises, top⟩ := raiseTotal_rises colour
    exact ⟨⟨le_rfl, rises, le_rfl, le_rfl⟩, mono, top, sheets, scans⟩
  · obtain ⟨rises, top⟩ := raiseTotal_rises mono
    exact ⟨⟨rises, le_rfl, le_rfl, le_rfl⟩, top, colour, sheets, scans⟩

theorem Totals.rises_foldl_committed (a : Totals) (sides : List SideRecord) :
    a.Rises (sides.foldl Totals.committed a) := by
  induction sides generalizing a with
  | nil => exact .refl a
  | cons r sides ih => exact (a.rises_committed r).trans (ih _)

/-! ### The laws at the meter unit -/

/-- The order of the totals in the cells, in a running bank and at work (R156). -/
structure MeterUnit.Ordered (m : MeterUnit) : Prop where
  banked : m.cells.banked.le m.working
  top : m.working.le .top
  captured : ∀ b, m.bank = some b → m.cells.banked.le b.captured ∧ b.captured.le m.working

/-- No bank carries a serial, and none is pending (R157). -/
def MeterUnit.CarriesNone (m : MeterUnit) : Prop := (∀ b, m.bank = some b → b.serial = none) ∧ m.pending = none

/-- The running bank carries this serial, or the next one will (R157, R162). -/
def MeterUnit.Carries (m : MeterUnit) (serial : Nat) : Prop :=
  ∃ b, m.bank = some b ∧
    ((b.serial.map SerialTag.serial = some serial ∧ m.pending = none) ∨
      (b.serial = none ∧ m.bankAgain = true ∧ m.pending.map SerialTag.serial = some serial))

/-- The serial in flight, by the work in progress (R160, R162). -/
def MeterUnit.InFlight (m : MeterUnit) : Prop :=
  match m.work with
  | .banking _ serial _ => serial = m.cells.serial + 1 ∧ m.Carries serial
  | .composing c => c.serial = m.cells.serial + 1 ∧ m.CarriesNone
  | .none | .restoring _ _ _ => m.CarriesNone

theorem metersOrdered_iff (s : State) : s.metersOrdered ↔ s.meter.Ordered :=
  ⟨fun ⟨banked, top, captured⟩ => ⟨banked, top, captured⟩,
    fun ⟨banked, top, captured⟩ => ⟨banked, top, captured⟩⟩

theorem serialInFlight_iff (s : State) : s.serialInFlight ↔ s.meter.InFlight := by
  unfold State.serialInFlight MeterUnit.InFlight
  cases s.meter.work <;> rfl

/-- Both laws of the meter unit. -/
structure MeterUnit.Lawful (m : MeterUnit) : Prop where
  ordered : m.Ordered
  inFlight : m.InFlight

variable {m : MeterUnit}

theorem MeterUnit.InFlight.carriesNone (h : m.InFlight) (work : m.work.code ≠ 2) : m.CarriesNone := by
  unfold MeterUnit.InFlight at h
  cases kind : m.work with
  | none | restoring base parked got => simpa only [kind] using h
  | composing c =>
    simp only [kind] at h
    obtain ⟨_, carries⟩ := h
    exact carries
  | banking base serial parked => simp [kind, MeterWork.code] at work

theorem MeterUnit.InFlight.serial_of_composing {c : Composing} (h : m.InFlight) (work : m.work = .composing c) :
    c.serial = m.cells.serial + 1 ∧ m.CarriesNone := by
  simpa only [MeterUnit.InFlight, work] using h

theorem MeterUnit.InFlight.serial_of_banking {base serial : Nat} {parked : Parked} (h : m.InFlight)
    (work : m.work = .banking base serial parked) : serial = m.cells.serial + 1 ∧ m.Carries serial := by
  simpa only [MeterUnit.InFlight, work] using h

/-- The serial in flight where the work and the banked serial stay and the banks carry what they carried. -/
theorem MeterUnit.InFlight.of_carries {n : MeterUnit} (h : m.InFlight) (work : n.work = m.work)
    (serial : n.cells.serial = m.cells.serial) (carries : ∀ x, m.Carries x → n.Carries x)
    (none : m.CarriesNone → n.CarriesNone) : n.InFlight := by
  unfold MeterUnit.InFlight at h ⊢
  rw [work, serial]
  cases kind : m.work with
  | none | restoring base parked got => simp only [kind] at h; exact none h
  | composing c => simp only [kind] at h; exact h.imp_right none
  | banking base x parked => simp only [kind] at h; exact h.imp_right (carries x)

/-! ### Moving on -/

/-- The laws are kept, and neither a working total nor the banked serial falls. -/
def MeterUnit.Advances (m n : MeterUnit) : Prop :=
  m.Lawful → n.Lawful ∧ m.cells.serial ≤ n.cells.serial ∧ m.working.le n.working

theorem MeterUnit.Advances.refl (m : MeterUnit) : m.Advances m := fun lawful => ⟨lawful, le_rfl, m.working.le_refl⟩

theorem MeterUnit.Advances.trans {n k : MeterUnit} (h : m.Advances n) (h' : n.Advances k) : m.Advances k :=
  fun lawful => by
    obtain ⟨lawful, serial, working⟩ := h lawful
    obtain ⟨lawful, serial', working'⟩ := h' lawful
    exact ⟨lawful, serial.trans serial', working.trans working'⟩

/-- The working totals rise, whatever becomes of the sheets since bank and of PWR_WARN. -/
theorem advances_working {n : MeterUnit} (rises : m.working.Rises n.working) (cells : n.cells = m.cells)
    (bank : n.bank = m.bank) (again : n.bankAgain = m.bankAgain) (pending : n.pending = m.pending)
    (work : n.work = m.work) : m.Advances n := by
  rintro ⟨⟨banked, top, captured⟩, inFlight⟩
  obtain ⟨le, top⟩ := rises top
  refine ⟨⟨⟨cells ▸ banked.trans le, top, fun b running => ?_⟩, ?_⟩, by rw [cells], le⟩
  · obtain ⟨low, high⟩ := captured b (bank ▸ running)
    exact ⟨cells ▸ low, high.trans le⟩
  · refine inFlight.of_carries work (by rw [cells]) (fun x carries => ?_) fun none => ?_
    · unfold MeterUnit.Carries at carries ⊢
      rwa [bank, again, pending]
    · unfold MeterUnit.CarriesNone at none ⊢
      rwa [bank, pending]

/-! ### Banks (R157, R158) -/

theorem MeterUnit.triggered_kept (m : MeterUnit) (serial : Option SerialTag) (now : Nat) :
    (m.triggered serial now).working = m.working ∧ (m.triggered serial now).cells = m.cells ∧
      (m.triggered serial now).work = m.work := by
  unfold MeterUnit.triggered
  split <;> exact ⟨rfl, rfl, rfl⟩

/-- A trigger captures the working totals where no bank runs. -/
theorem MeterUnit.Ordered.triggered (h : m.Ordered) (serial : Option SerialTag) (now : Nat) :
    (m.triggered serial now).Ordered := by
  obtain ⟨banked, top, captured⟩ := h
  unfold MeterUnit.triggered
  split
  · refine ⟨banked, top, ?_⟩
    rintro b ⟨⟩
    exact ⟨banked, m.working.le_refl⟩
  · exact ⟨banked, top, captured⟩

/-- A trigger without a serial leaves what the banks carry (R157). -/
theorem MeterUnit.Carries.triggered {serial : Nat} (h : m.Carries serial) (now : Nat) :
    (m.triggered none now).Carries serial := by
  obtain ⟨b, bank, carries⟩ := h
  simp only [MeterUnit.triggered, bank]
  exact ⟨b, rfl, carries.imp_right fun ⟨without, _, pending⟩ => ⟨without, rfl, pending⟩⟩

theorem MeterUnit.CarriesNone.triggered (h : m.CarriesNone) (now : Nat) : (m.triggered none now).CarriesNone := by
  obtain ⟨without, pending⟩ := h
  unfold MeterUnit.triggered
  split
  · refine ⟨?_, rfl⟩
    rintro b ⟨⟩
    rfl
  · exact ⟨without, pending⟩

/-- A trigger with a serial begins a bank that carries it, or leaves it pending for the next (R157). -/
theorem MeterUnit.CarriesNone.carries_triggered (h : m.CarriesNone) (x : SerialTag) (now : Nat) :
    (m.triggered (some x) now).Carries x.serial := by
  obtain ⟨without, pending⟩ := h
  cases bank : m.bank with
  | none =>
    simp only [MeterUnit.triggered, bank]
    exact ⟨_, rfl, .inl ⟨rfl, rfl⟩⟩
  | some b =>
    simp only [MeterUnit.triggered, bank]
    exact ⟨b, rfl, .inr ⟨without b bank, rfl, rfl⟩⟩

theorem advances_triggered (m : MeterUnit) (now : Nat) : m.Advances (m.triggered none now) := by
  rintro ⟨ordered, inFlight⟩
  obtain ⟨working, cells, work⟩ := m.triggered_kept none now
  refine ⟨⟨ordered.triggered none now, ?_⟩, by rw [cells], by rw [working]; exact m.working.le_refl⟩
  exact inFlight.of_carries work (by rw [cells]) (fun _ carries => carries.triggered now) fun none => none.triggered now

theorem advances_delivered (m : MeterUnit) (sides : List SideRecord) (now : Nat) :
    m.Advances (m.delivered sides now) := by
  have rises := (m.working.rises_foldl_committed sides).trans (Totals.rises_sheets _)
  have counted := advances_working (m := m)
    (n := { m with
      working := { sides.foldl Totals.committed m.working with
        sheets := raiseTotal (sides.foldl Totals.committed m.working).sheets }
      sinceBank := min 65535 (m.sinceBank + 1) }) rises rfl rfl rfl rfl rfl
  unfold MeterUnit.delivered
  split
  · exact counted.trans (advances_triggered _ now)
  · exact counted

/-- A completed bank banks what it captured, and the next bank captures the working totals (R158). -/
theorem MeterUnit.Ordered.completed {b : Bank} (h : m.Ordered) (bank : m.bank = some b) (now : Nat) :
    (m.completed b now).Ordered := by
  obtain ⟨_, top, captured⟩ := h
  obtain ⟨_, below⟩ := captured b bank
  have banked : (m.cells.afterBank b).banked = b.captured := by
    unfold MeterCells.afterBank
    split <;> rfl
  have written : ({ m with cells := m.cells.afterBank b, bank := none } : MeterUnit).Ordered :=
    ⟨banked ▸ below, top, nofun⟩
  unfold MeterUnit.completed
  split
  · exact written.triggered _ now
  · exact written

theorem MeterUnit.completed_kept (m : MeterUnit) (b : Bank) (now : Nat) :
    (m.completed b now).working = m.working ∧ (m.completed b now).cells = m.cells.afterBank b := by
  unfold MeterUnit.completed
  split <;> exact ⟨rfl, rfl⟩

/-- After a bank the next one carries what was pending, and nothing is pending (R158). -/
theorem MeterUnit.carriesNone_completed {b : Bank} (pending : m.pending = none) (now : Nat) :
    (m.completed b now).CarriesNone := by
  have written : ({ m with cells := m.cells.afterBank b, bank := none } : MeterUnit).CarriesNone := ⟨nofun, pending⟩
  unfold MeterUnit.completed
  split
  · rw [pending]
    exact written.triggered now
  · exact written

theorem MeterUnit.carries_completed {b : Bank} {serial : Nat} (again : m.bankAgain = true)
    (pending : m.pending.map SerialTag.serial = some serial) (now : Nat) : (m.completed b now).Carries serial := by
  unfold MeterUnit.completed
  rw [if_pos again]
  exact ⟨_, rfl, .inl ⟨pending, rfl⟩⟩

theorem MeterCells.afterBank_of_serial (c : MeterCells) {b : Bank} {x : SerialTag} (serial : b.serial = some x) :
    (c.afterBank b).serial = x.serial := by
  rw [MeterCells.afterBank, serial]

theorem MeterCells.afterBank_of_none (c : MeterCells) {b : Bank} (without : b.serial = none) :
    (c.afterBank b).serial = c.serial := by
  rw [MeterCells.afterBank, without]

/-- A bank that carries a serial carries that of the snapshot in flight, the next after the banked one (R160, R162). -/
theorem MeterUnit.InFlight.of_bank_serial {b : Bank} {x : SerialTag} (h : m.InFlight) (bank : m.bank = some b)
    (serial : b.serial = some x) : m.work.code = 2 ∧ x.serial = m.cells.serial + 1 ∧ m.pending = none := by
  by_cases waits : m.work.code = 2
  · cases work : m.work with
    | none | composing c | restoring base parked got => simp [work, MeterWork.code] at waits
    | banking base n parked =>
      obtain ⟨next, c, running, carries⟩ := h.serial_of_banking work
      obtain rfl : b = c := Option.some.inj (bank.symm.trans running)
      obtain ⟨carried, pending⟩ | ⟨without, -⟩ := carries
      · rw [serial] at carried
        exact ⟨rfl, (Option.some.inj carried).trans next, pending⟩
      · rw [serial] at without
        cases without
  · obtain ⟨without, -⟩ := h.carriesNone waits
    rw [without b bank] at serial
    cases serial

theorem MeterUnit.InFlight.bankCompleted {b : Bank} (h : m.InFlight) (bank : m.bank = some b) (now : Nat) :
    (m.bankCompleted b now).InFlight := by
  obtain ⟨-, cells⟩ := m.completed_kept b now
  cases serial : b.serial with
  | none =>
    refine h.of_carries (by simp [MeterUnit.bankCompleted, serial])
      ((congrArg MeterCells.serial cells).trans (m.cells.afterBank_of_none serial)) (fun x carries => ?_)
      fun ⟨_, pending⟩ => carriesNone_completed pending now
    obtain ⟨c, running, carries⟩ := carries
    obtain rfl : b = c := Option.some.inj (bank.symm.trans running)
    obtain ⟨carried, -⟩ | ⟨-, again, pending⟩ := carries
    · rw [serial] at carried
      cases carried
    · exact carries_completed again pending now
  | some x =>
    obtain ⟨waits, -, pending⟩ := h.of_bank_serial bank serial
    have work : (m.bankCompleted b now).work = .none := by simp [MeterUnit.bankCompleted, serial, waits]
    simp only [MeterUnit.InFlight, work]
    exact carriesNone_completed (b := b) pending now

/-- A bank's completion: the serial that it carried is the next (R158, R164). -/
theorem advances_bankCompleted {b : Bank} (bank : m.bank = some b) (now : Nat) :
    m.Advances (m.bankCompleted b now) := by
  rintro ⟨ordered, inFlight⟩
  obtain ⟨working, cells⟩ := m.completed_kept b now
  obtain ⟨banked, top, captured⟩ := ordered.completed bank now
  refine ⟨⟨⟨banked, top, captured⟩, inFlight.bankCompleted bank now⟩, ?_, ?_⟩
  · show m.cells.serial ≤ (m.completed b now).cells.serial
    rw [cells]
    cases serial : b.serial with
    | none => rw [m.cells.afterBank_of_none serial]
    | some x =>
      obtain ⟨-, next, -⟩ := inFlight.of_bank_serial bank serial
      rw [m.cells.afterBank_of_serial serial, next]
      exact Nat.le_succ _
  · show m.working.le (m.completed b now).working
    rw [working]
    exact m.working.le_refl

/-! ### Work in progress (R160 to R163, R166) -/

/-- The work and what is pending change, and with them the serial in flight. -/
theorem advances_work {n : MeterUnit} (working : n.working = m.working) (cells : n.cells = m.cells)
    (bank : n.bank = m.bank) (inFlight : m.InFlight → n.InFlight) : m.Advances n := by
  rintro ⟨⟨banked, top, captured⟩, serial⟩
  refine ⟨⟨⟨?_, ?_, ?_⟩, inFlight serial⟩, by rw [cells], by rw [working]; exact m.working.le_refl⟩
  · rwa [cells, working]
  · rwa [working]
  · rwa [cells, working, bank]

/-- Work that carries no serial ends, or is a restore that goes on (R163, R164). -/
theorem advances_without_serial {w : MeterWork} (before : m.work.code ≠ 2) (after : w.code = 0 ∨ w.code = 3) :
    m.Advances { m with work := w } := by
  refine advances_work rfl rfl rfl fun inFlight => ?_
  have none := inFlight.carriesNone before
  cases w with
  | none | restoring base parked got => exact none
  | composing c | banking base serial parked => simp [MeterWork.code] at after

/-- An accepted SNAPSHOT composes with the next serial (R160). -/
theorem advances_composing_begins {c : Composing} (idle : m.work = .none) (serial : c.serial = m.cells.serial + 1) :
    m.Advances { m with work := .composing c } :=
  advances_work rfl rfl rfl fun inFlight => ⟨serial, inFlight.carriesNone (by simp [idle, MeterWork.code])⟩

/-- A part of the snapshot written keeps its serial (R161). -/
theorem advances_composing {c d : Composing} (work : m.work = .composing c) (serial : d.serial = c.serial) :
    m.Advances { m with work := .composing d } :=
  advances_work rfl rfl rfl fun inFlight => by
    obtain ⟨next, none⟩ := inFlight.serial_of_composing work
    exact ⟨serial.trans next, none⟩

/-- A trigger with the serial of the snapshot that waits for it, where nothing carried a serial before. -/
theorem MeterUnit.CarriesNone.inFlight_triggered {base : Nat} {parked : Parked} {x : SerialTag} (h : m.CarriesNone)
    (work : m.work = .banking base x.serial parked) (next : x.serial = m.cells.serial + 1) (now : Nat) :
    (m.triggered (some x) now).InFlight := by
  obtain ⟨-, cells, kept⟩ := m.triggered_kept (some x) now
  simp only [MeterUnit.InFlight, kept, work, cells]
  exact ⟨next, h.carries_triggered x now⟩

/-- The end of composition hands the serial to a bank (R162). -/
theorem advances_banking_begins {c : Composing} (work : m.work = .composing c) (tag : Beat) (now : Nat) :
    m.Advances
      (MeterUnit.triggered { m with work := .banking c.base c.serial c.parked }
        (some { serial := c.serial, tag := tag }) now) := by
  rintro ⟨⟨banked, top, captured⟩, inFlight⟩
  obtain ⟨next, none⟩ := inFlight.serial_of_composing work
  obtain ⟨n, handed⟩ : ∃ n : MeterUnit, n = { m with work := .banking c.base c.serial c.parked } := ⟨_, rfl⟩
  have ordered : n.Ordered := handed ▸ ⟨banked, top, captured⟩
  have without : n.CarriesNone := handed ▸ none
  have waits : n.work = .banking c.base c.serial c.parked := by rw [handed]
  have cells : n.cells = m.cells := by rw [handed]
  have working : n.working = m.working := by rw [handed]
  rw [← handed]
  obtain ⟨working', cells', -⟩ := n.triggered_kept (some { serial := c.serial, tag := tag }) now
  exact ⟨⟨ordered.triggered _ now, without.inFlight_triggered waits (cells ▸ next) now⟩, by rw [cells', cells],
    by rw [working', working]; exact m.working.le_refl⟩

/-- At the entry to lockdown a serial goes on only in the running bank (R166). -/
theorem advances_atEntry (m : MeterUnit) : m.Advances m.atEntry.1 := by
  unfold MeterUnit.atEntry
  split
  case h_1 => exact .refl m
  case h_2 work => exact advances_without_serial (by simp [work, MeterWork.code]) (.inl rfl)
  case h_3 base serial parked work without =>
    refine advances_work rfl rfl rfl fun _ => ⟨fun b bank => ?_, rfl⟩
    rw [bank] at without
    exact without
  case h_4 => exact .refl m
  case h_5 work => exact advances_without_serial (by simp [work, MeterWork.code]) (.inl rfl)

end Sys2Proof.Machine
end

section
/-! The laws of the meter unit under every step (R156, R164). -/

namespace Sys2Proof.Machine

variable {s t : State}

/-! ### Operations of the meter unit -/

theorem advances_of_meter_eq (h : t.meter = s.meter) : s.meter.Advances t.meter := by
  rw [h]
  exact .refl _

theorem advances_pwrWarn (s : State) : s.meter.Advances s.pwrWarn.meter := by
  cases asserted : s.meter.pwrWarn with
  | true => exact advances_of_meter_eq (congrArg State.meter (pwrWarn_of_asserted asserted))
  | false =>
    rw [pwrWarn_of_released asserted, triggerBank_meter]
    have raised : s.meter.Advances { s.meter with pwrWarn := true } :=
      advances_working (.refl _) rfl rfl rfl rfl rfl
    exact raised.trans (advances_triggered _ _)

theorem advances_bankComplete (s : State) : s.meter.Advances s.bankComplete.meter := by
  cases bank : s.meter.bank with
  | none => exact advances_of_meter_eq (congrArg State.meter (bankComplete_of_idle bank))
  | some b =>
    rw [bankComplete_meter bank]
    exact advances_bankCompleted bank _

theorem advances_scnPage (s : State) : s.meter.Advances s.scnPage.meter := by
  rw [scnPage_meter]
  exact advances_working (Totals.rises_scans _) rfl rfl rfl rfl rfl

theorem advances_ownSnapshot (d : Directive) (s : State) : s.meter.Advances (ownSnapshot d s).2.meter := by
  rw [ownSnapshot_eq]
  split_ifs with _ _ idle
  iterate 6 exact .refl _
  exact advances_composing_begins (not_not.mp idle) rfl

theorem advances_ownRestore (d : Directive) (s : State) : s.meter.Advances (ownRestore d s).2.meter := by
  rw [ownRestore_eq]
  split_ifs with _ _ idle
  iterate 7 exact .refl _
  exact advances_without_serial (by simp [not_not.mp idle, MeterWork.code]) (.inr rfl)

theorem advances_snapshotImageCopy (s : State) : s.meter.Advances s.snapshotImageCopy.meter := by
  unfold State.snapshotImageCopy
  split
  case h_1 work =>
    split
    · exact advances_composing work rfl
    · exact .refl _
  all_goals exact .refl _

theorem advances_compositionEnd (s : State) : s.meter.Advances s.compositionEnd.meter := by
  unfold State.compositionEnd
  split
  case h_1 work =>
    split
    · rw [triggerBank_meter]
      exact advances_banking_begins work _ _
    · exact .refl _
  all_goals exact .refl _

theorem advances_restoreAreaRead (beats : Nat) (s : State) : s.meter.Advances (s.restoreAreaRead beats).meter := by
  unfold State.restoreAreaRead
  split
  case h_1 work => exact advances_without_serial (by simp [work, MeterWork.code]) (.inr rfl)
  all_goals exact .refl _

theorem advances_restoreReadEnd (s : State) : s.meter.Advances s.restoreReadEnd.meter := by
  unfold State.restoreReadEnd
  split
  case h_1 work =>
    have ends : s.meter.Advances { s.meter with work := .none } :=
      advances_without_serial (by simp [work, MeterWork.code]) (.inl rfl)
    split
    · split <;> exact ends
    · exact .refl _
  all_goals exact .refl _

/-! ### Sheets and lockdown -/

theorem advances_engSheet (s : State) : s.meter.Advances s.engSheet.meter := by
  have abandoned (c : AbandonCause) : (s.abandon c).meter = s.meter := by
    have touched : Touches [.transaction, .cipher, .directive, .job, .parser, .charging, .account, .consumable, .link]
        s (s.abandon c) := by simp
    exact touched .meter (by simp)
  unfold State.engSheet State.sheetDelivered
  split
  · split
    · rw [deliverSheet_meter]
      exact advances_delivered _ _ _
    · rw [askNotice_meter, deliverSheet_meter]
      exact advances_delivered _ _ _
    · rw [askNotice_meter, deliverSheet_meter, abandoned]
      exact advances_delivered _ _ _
    · exact advances_of_meter_eq (abandoned _)
  · exact .refl _

theorem advances_enterBlocks (e : CauseEvent) (s : State) : s.meter.Advances (s.enterBlocks e).meter := by
  have before : Touches [.transaction, .cipher, .directive, .job, .parser, .charging, .account, .consumable, .link,
      .lockdown] s
      ((((((s.enterMode e).abandon .lockdown).orphanAllSheets).eraseKeys).freeAllRegions).freeAllSlots) := by simp
  rw [State.enterBlocks, meterEntry_meter, before .meter (by simp)]
  exact advances_atEntry _

theorem advances_takeCause (e : CauseEvent) (s : State) : s.meter.Advances (s.takeCause e).meter := by
  have answered : Touches [.directive] (s.enterBlocks e) (s.enterBlocks e).answerWaiting := by simp
  unfold State.takeCause
  split
  · exact .refl _
  · rw [answered .meter (by simp)]
    exact advances_enterBlocks e s

theorem advances_keyFaultReport (s : State) : s.meter.Advances s.keyFaultReport.meter := by
  unfold State.keyFaultReport
  split
  case h_1 slot rest _ =>
    exact advances_takeCause { cause := .keyFault, slot := some slot, requester := none }
      (s.setCipher { s.cipher with reports := rest })
  case h_2 => exact .refl _

/-! ### Every command -/

/-- A directive moves the meter unit on where its owner does. -/
theorem advances_runDirective (name : DirectiveName) {owner : Directive → State → Verdict × State}
    (h : ∀ d, s.meter.Advances (owner d s).2.meter) : s.meter.Advances (s.runDirective name owner).meter := by
  have concluded (d : Directive) : Touches [.directive] (owner d s).2 ((owner d s).2.conclude d (owner d s).1) := by
    simp
  unfold State.runDirective
  split
  · split
    · split
      · exact .refl _
      · rw [concluded _ .meter (by simp)]
        exact h _
    · exact .refl _
  · exact .refl _

/-- Every command but the two of reset moves the meter unit on. -/
theorem advances_exec {c : Instr} (h : exec c s = .next t) (notPowerOn : c ≠ .powerOn) (notReset : c ≠ .resetN) :
    s.meter.Advances t.meter := by
  have kept := exec_footprint h
  cases c with
  | powerOn => exact absurd rfl notPowerOn
  | resetN => exact absurd rfl notReset
  | keyFaultReport => cases h; exact advances_keyFaultReport s
  | lockdown =>
    cases h
    have after : Touches [.directive] (s.runDirective .lockdown ownLockdown)
        (s.afterLockdown (s.runDirective .lockdown ownLockdown)) :=
      (touches_afterLockdown s (by decide)).mpr (touches_refl _ _)
    rw [after .meter (by simp)]
    exact advances_runDirective _ fun d => advances_enterBlocks _ s
  | snapshot => cases h; exact advances_runDirective _ fun d => advances_ownSnapshot d s
  | snapshotImageCopy => cases h; exact advances_snapshotImageCopy s
  | snapshotCompositionEnd => cases h; exact advances_compositionEnd s
  | restore => cases h; exact advances_runDirective _ fun d => advances_ownRestore d s
  | restoreReadEnd => cases h; exact advances_restoreReadEnd s
  | restoreAreaRead beats => cases h; exact advances_restoreAreaRead beats s
  | engSheet => cases h; exact advances_engSheet s
  | scnPage => cases h; exact advances_scnPage s
  | pwrWarn => cases h; exact advances_pwrWarn s
  | pwrWarnRelease => cases h; exact advances_working (.refl _) rfl rfl rfl rfl rfl
  | bankComplete => cases h; exact advances_bankComplete s
  | tamperFall =>
    cases h
    split
    · exact advances_takeCause _ (s.setTamper false)
    · exact .refl _
  | _ => exact advances_of_meter_eq (kept .meter (by simp [footprint]))

/-- At reset the working totals take the banked ones, and no bank and no work goes on (R156, R157, R166). -/
theorem lawful_atReset {m : MeterUnit} (lawful : m.Lawful) : m.atReset.Lawful := by
  obtain ⟨⟨banked, top, _⟩, _⟩ := lawful
  exact ⟨⟨m.cells.banked.le_refl, banked.trans top, nofun⟩, nofun, rfl⟩

/-- Settles O59: a command at the front of the queue moves the meter unit on, or is a reset, which keeps the cells; the
clock leaves the unit. -/
theorem workingTotalsAndSerialNeverFall : Obligations.WorkingTotalsAndSerialNeverFall := by
  intro s t ordered inFlight h
  have lawful : s.meter.Lawful := ⟨(metersOrdered_iff s).mp ordered, (serialInFlight_iff s).mp inFlight⟩
  suffices moves : t.meter.Lawful ∧ s.meter.cells.serial ≤ t.meter.cells.serial ∧
      (s.pending.head? ≠ some .powerOn → s.pending.head? ≠ some .resetN → s.meter.working.le t.meter.working) by
    obtain ⟨⟨ordered, inFlight⟩, serial, working⟩ := moves
    exact ⟨(metersOrdered_iff t).mpr ordered, (serialInFlight_iff t).mpr inFlight, serial, working⟩
  unfold step at h
  split at h
  case h_1 c rest queue =>
    rw [queue]
    by_cases reset : c = .powerOn ∨ c = .resetN
    · obtain rfl | rfl := reset
      all_goals
        cases h
        exact ⟨lawful_atReset lawful, le_rfl, by simp⟩
    · obtain ⟨notPowerOn, notReset⟩ := not_or.mp reset
      obtain ⟨lawful, serial, working⟩ :=
        advances_exec (s := { s with pending := rest }) h notPowerOn notReset lawful
      exact ⟨lawful, serial, fun _ _ => working⟩
  case h_2 =>
    cases h
    have kept : s.tick.meter = s.meter := by
      unfold State.tick
      split <;> rfl
    rw [kept]
    exact ⟨lawful, le_rfl, fun _ _ => s.meter.working.le_refl⟩

end Sys2Proof.Machine
end

section
/-! SNAPSHOT and RESTORE at the meter unit (R160, R163). -/

namespace Sys2Proof.Machine

variable {s : State} {d : Directive}

/-- In NORMAL mode a directive whose owner parks it, having changed the directive unit and the meter unit alone, leaves
the executing place (R25, R26). -/
theorem runDirective_parked {name : DirectiveName} {owner : Directive → State → Verdict × State} {u : State}
    (takes : s.takes name d) (accepted : owner d s = (.parked, u)) (touched : Touches [.directive, .meter] s u) :
    let t := s.runDirective name owner
    t.directive = s.movesOn u.directive ∧ t.meter = u.meter ∧ s.changesOnly t [.directive, .meter] := by
  intro t
  have taken : t = u.conclude d .parked := by simp only [t, runDirective_takes owner takes, accepted]
  have concluded : Touches [.directive] u t := by simp [taken]
  refine ⟨?_, concluded .meter (by simp), (touched.trans_of_subset concluded (by simp)).changesOnly⟩
  rw [taken]
  exact conclude_parked takes.2 u (touched .lockdown (by simp))
    (congrArg TransactionUnit.roles (touched .transaction (by simp)))
    (congrArg AccountUnit.accounts (touched .account (by simp)))

/-- One test of an owner: the directive is refused where it is met, and otherwise what follows decides (R28). -/
theorem runDirective_test {name : DirectiveName} {owner : Directive → State → Verdict × State} {p q : Prop}
    [Decidable p] {outcome : OutcomeCode} {detail : Detail} {rest : Verdict × State} (takes : s.takes name d)
    (noAccount : ¬(DirectiveName.accountSet.code ≤ name.code ∧ name.code ≤ DirectiveName.accountClear.code))
    (tests : owner d s = if p then (.answer (.refuse outcome detail), s) else rest)
    (passes : owner d s = rest → q) :
    if p then s.refuses (s.runDirective name owner) d outcome detail 0 else q := by
  by_cases met : p
  · rw [if_pos met] at tests ⊢
    exact runDirective_answers_only takes tests noAccount
  · rw [if_neg met] at tests ⊢
    exact passes tests

/-- Settles O50, by the tests of R160 and of R163 in order. -/
theorem snapshotAndRestoreAreAccepted : Obligations.SnapshotAndRestoreAreAccepted := by
  constructor
  · intro s d awaits
    refine ⟨_, rfl, ?_⟩
    dsimp only
    have tests := ownSnapshot_eq d s
    generalize d.arg areaForm 0 = base at tests ⊢
    -- Named, the area's end is not computed where a test on it is decided.
    generalize base + 131264 = areaEnd at tests ⊢
    split
    · exact runDirective_refused_locked awaits ‹_› (by decide) (by decide) (by decide)
    have takes := takes_of_not_locked awaits ‹_›
    iterate 6 refine runDirective_test takes (by decide) tests fun tests => ?_
    exact runDirective_parked takes tests (by simp [State.acceptsSnapshot])
  · intro s d awaits
    refine ⟨_, rfl, ?_⟩
    dsimp only
    have tests := ownRestore_eq d s
    generalize d.arg areaForm 0 = base at tests ⊢
    -- Named, the area's end is not computed where a test on it is decided.
    generalize base + 131264 = areaEnd at tests ⊢
    split
    · exact runDirective_refused_locked awaits ‹_› (by decide) (by decide) (by decide)
    have takes := takes_of_not_locked awaits ‹_›
    iterate 7 refine runDirective_test takes (by decide) tests fun tests => ?_
    exact runDirective_parked takes tests (by simp [State.acceptsRestore])

end Sys2Proof.Machine
end

section
/-! Banks and PWR_WARN (R157 to R159, R162). -/

namespace Sys2Proof.Machine

variable {s : State}

/-- With BANK_AGAIN set the next bank begins at once with the pending serial (R158). -/
theorem MeterUnit.completed_of_again {m : MeterUnit} {b : Bank} {now : Nat} (again : m.bankAgain = true) :
    m.completed b now =
      { m with
        cells := m.cells.afterBank b
        bank := some { captured := m.working, serial := m.pending, began := now }
        bankAgain := false, pending := none, sinceBank := 0 } := by
  rw [MeterUnit.completed, if_pos again]
  rfl

theorem MeterUnit.completed_of_last {m : MeterUnit} {b : Bank} {now : Nat} (last : m.bankAgain = false) :
    m.completed b now = { m with cells := m.cells.afterBank b, bank := none } := by
  rw [MeterUnit.completed, if_neg (by simp [last])]

/-- The parked SNAPSHOT is answered where it waits for its serial bank (R162). -/
theorem snapshotBanked_directive (s : State) :
    s.snapshotBanked.directive =
      match s.meter.work with
      | .banking base serial parked =>
        { s.directive with
          owned := s.directive.owned.filter fun a => !(a.base == base && a.source == .snapshotArea)
          writes := s.directive.writes ++ [parked.reply (.done [u32 serial]) s.now] }
      | _ => s.directive := by
  unfold State.snapshotBanked
  cases s.meter.work <;> rfl

theorem bankComplete_directive {b : Bank} (bank : s.meter.bank = some b) :
    s.bankComplete.directive =
      match b.serial, s.meter.work with
      | some _, .banking base serial parked =>
        { s.directive with
          owned := s.directive.owned.filter fun a => !(a.base == base && a.source == .snapshotArea)
          writes := s.directive.writes ++ [parked.reply (.done [u32 serial]) s.now] }
      | _, _ => s.directive := by
  have work : (s.meter.completed b s.now).work = s.meter.work := by
    unfold MeterUnit.completed
    split <;> rfl
  rw [bankComplete_eq bank]
  cases b.serial with
  | none => rfl
  | some x =>
    rw [Option.isSome_some, if_pos rfl, snapshotBanked_directive, setMeter_meter, work]
    cases s.meter.work <;> rfl

/-- Settles O49. -/
theorem banksBeginAndComplete : Obligations.BanksBeginAndComplete := by
  refine ⟨?trigger, ?asserted, ?release, ?completion⟩
  case trigger =>
    intro s released
    have begins := pwrWarn_of_released released
    have told : noticeOf .powerWarning [u8 (if s.meter.bank = none then 0 else 1), flag8 s.meter.bankAgain,
        u16 s.meter.sinceBank, u64 s.meter.working.sheets] =
        noticeOf .powerWarning [u8 s.meter.bank.isSome.toNat, flag8 s.meter.bankAgain, u16 s.meter.sinceBank,
          u64 s.meter.working.sheets] := by
      cases s.meter.bank <;> rfl
    have triggered : Touches [.meter] (s.powerWarning.setMeter { s.meter with pwrWarn := true }) s.pwrWarn := by
      simp [begins]
    refine ⟨_, rfl, ?_, ?_, Touches.changesOnly (by simp)⟩
    · rw [begins]
      exact triggerBank_meter _ none
    · rw [told]
      exact triggered .directive (by simp)
  case asserted =>
    intro s asserted
    exact congrArg Host.Outcome.next (pwrWarn_of_asserted asserted)
  case release => exact fun s => ⟨_, rfl, rfl, Touches.changesOnly (by simp)⟩
  case completion =>
    intro s b bank
    refine ⟨s.bankComplete, rfl, ?_⟩
    intro cells answers
    rw [bankComplete_meter bank, MeterUnit.bankCompleted]
    have frame : s.changesOnly s.bankComplete [.meter, .directive] := Touches.changesOnly (by simp)
    have unit := bankComplete_directive bank
    cases again : s.meter.bankAgain with
    | true =>
      rw [MeterUnit.completed_of_again again]
      exact ⟨rfl, rfl, rfl, rfl, ⟨rfl, rfl, rfl, rfl⟩, unit, frame⟩
    | false =>
      rw [MeterUnit.completed_of_last again]
      exact ⟨rfl, rfl, rfl, rfl, ⟨rfl, again, rfl, rfl⟩, unit, frame⟩

end Sys2Proof.Machine
end

section
/-! The parts of a snapshot byte by byte (13.7). -/

namespace Sys2Proof.Machine

/-! ### Fields of a record -/

/-- The number that a little-endian field holds: higher bits are cut off. -/
theorem leNat_leBytes_mod (w v : Nat) : leNat (leBytes w v) = v % 2 ^ (8 * w) := by
  induction w generalizing v with
  | zero => simp [leBytes, leNat, Nat.mod_one]
  | succ w ih =>
    have split : v % 2 ^ (8 * (w + 1)) = v % 256 + 256 * (v / 256 % 2 ^ (8 * w)) := by
      rw [Nat.mul_succ, Nat.pow_add, Nat.mul_comm, Nat.mod_mul]
    rw [leBytes, leNat, ih, split]
    simp

/-- The field that a record begins with. -/
theorem fieldAt_leBytes (w v : Nat) (rest : List Byte) : fieldAt (leBytes w v ++ rest) 0 w = v % 2 ^ (8 * w) := by
  rw [fieldAt, List.drop_zero, List.take_left' (length_leBytes w v), leNat_leBytes_mod]

theorem fieldAt_leBytes_last (w v : Nat) : fieldAt (leBytes w v) 0 w = v % 2 ^ (8 * w) := by
  rw [← List.append_nil (leBytes w v), fieldAt_leBytes]

/-- A field further on in a record given byte by byte. -/
theorem fieldAt_cons_succ (b : Byte) (bytes : List Byte) (o w : Nat) :
    fieldAt (b :: bytes) (o + 1) w = fieldAt bytes o w := rfl

theorem fieldAt_cons_zero (b : Byte) (bytes : List Byte) (w : Nat) :
    fieldAt (b :: bytes) 0 (w + 1) = b.toNat + 256 * fieldAt bytes 0 w := rfl

theorem fieldAt_empty (bytes : List Byte) (o : Nat) : fieldAt bytes o 0 = 0 := by
  rw [fieldAt, List.take_zero, leNat]

/-- A field of what follows the first bytes of a record. -/
theorem fieldAt_append {a : List Byte} {o : Nat} (beyond : a.length ≤ o) (b : List Byte) (w : Nat) :
    fieldAt (a ++ b) o w = fieldAt b (o - a.length) w := by
  rw [fieldAt, List.drop_append, List.drop_eq_nil_of_le beyond, List.nil_append, fieldAt]

/-- A field within the first bytes of a record. -/
theorem fieldAt_of_append {a : List Byte} {o w : Nat} (inside : o + w ≤ a.length) (b : List Byte) :
    fieldAt (a ++ b) o w = fieldAt a o w := by
  rw [fieldAt, List.drop_append_of_le_length (by omega),
    List.take_append_of_le_length (by rw [List.length_drop]; omega), fieldAt]

theorem fieldAt_drop (b : List Byte) (i j w : Nat) : fieldAt (b.drop i) j w = fieldAt b (i + j) w := by
  rw [fieldAt, List.drop_drop, fieldAt]

/-- A record that has room for its fields ends in zeros. -/
theorem drop_padTo {size n : Nat} {bytes : List Byte} (length : bytes.length = n) (fits : n ≤ size) :
    (padTo size bytes).drop n = List.replicate (size - n) 0 := by
  rw [padTo, List.take_of_length_le (length ▸ fits), List.drop_left' length, length]

/-- The zeros at the end of a record are behind its fields. -/
theorem take_padTo {size n : Nat} {bytes : List Byte} (fits : bytes.length ≤ size) (inside : n ≤ bytes.length) :
    (padTo size bytes).take n = bytes.take n := by
  rw [padTo, List.take_of_length_le fits, List.take_append_of_le_length inside]

theorem fieldAt_padTo {size o w : Nat} {bytes : List Byte} (fits : bytes.length ≤ size)
    (inside : o + w ≤ bytes.length) : fieldAt (padTo size bytes) o w = fieldAt bytes o w := by
  rw [padTo, List.take_of_length_le fits, fieldAt_of_append inside]

/-! ### The parts (13.7) -/

theorem length_snapshotMark : snapshotMark.length = 8 := by decide

theorem length_trailerMark : trailerMark.length = 8 := by decide

theorem snapshotHeader_fields (serial accepted : Nat) (n : Totals) :
    let b := snapshotHeader serial accepted n
    b.take 8 = snapshotMark ∧ fieldAt b 8 4 = serial % 2 ^ 32 ∧ fieldAt b 12 4 = 0 ∧
      fieldAt b 16 8 = accepted % 2 ^ 64 ∧ fieldAt b 24 8 = n.mono % 2 ^ 64 ∧ fieldAt b 32 8 = n.colour % 2 ^ 64 ∧
      fieldAt b 40 8 = n.sheets % 2 ^ 64 ∧ fieldAt b 48 8 = n.scans % 2 ^ 64 ∧ b.drop 56 = .replicate 8 0 := by
  intro b
  refine ⟨?_, ?_, ?_, ?_, ?_, ?_, ?_, ?_, drop_padTo (by simp [length_snapshotMark]) (by decide)⟩
  · simp [b, snapshotHeader, take_padTo, List.take_left', length_snapshotMark]
  all_goals
    simp [b, snapshotHeader, fieldAt_padTo, fieldAt_append, fieldAt_leBytes, fieldAt_leBytes_last, fieldAt_cons_succ,
      fieldAt_cons_zero, fieldAt_empty, length_snapshotMark]

theorem trailerBody_fields (serial : Nat) (period : BitVec 32) (time : Nat) :
    let b := trailerBody serial period time
    b.take 8 = trailerMark ∧ fieldAt b 8 4 = serial % 2 ^ 32 ∧ fieldAt b 12 4 = period.toNat ∧
      fieldAt b 16 8 = time % 2 ^ 64 ∧ b.drop 24 = .replicate 24 0 := by
  have whole : period.toNat % 4294967296 = period.toNat := Nat.mod_eq_of_lt period.isLt
  intro b
  refine ⟨?_, ?_, ?_, ?_, drop_padTo (by simp [length_trailerMark]) (by decide)⟩
  · simp [b, trailerBody, take_padTo, List.take_left', length_trailerMark]
  all_goals
    simp [b, trailerBody, fieldAt_padTo, fieldAt_append, fieldAt_leBytes, fieldAt_leBytes_last,
      length_trailerMark, whole]

theorem accountImage_fields (a : Account) (period : BitVec 32) :
    let b := a.image period
    fieldAt b 0 1 = a.state.code ∧ fieldAt b 1 1 = a.mode.code ∧
      fieldAt b 2 1 = (if a.colour = true then 1 else 0) ∧
      fieldAt b 3 1 = 0 ∧ fieldAt b 4 4 = a.creditLimit % 2 ^ 32 ∧ fieldAt b 8 4 = (a.balance % 2 ^ 32).toNat ∧
      fieldAt b 12 4 = a.reserved % 2 ^ 32 ∧ fieldAt b 16 4 = a.periodMono % 2 ^ 32 ∧
      fieldAt b 20 4 = a.periodColour % 2 ^ 32 ∧ fieldAt b 24 4 = a.periodScan % 2 ^ 32 ∧
      fieldAt b 28 4 = a.lifeMono % 2 ^ 32 ∧ fieldAt b 32 4 = a.lifeColour % 2 ^ 32 ∧
      fieldAt b 36 4 = a.lifeScan % 2 ^ 32 ∧ fieldAt b 40 4 = a.lifeJammed % 2 ^ 32 ∧
      fieldAt b 44 4 = a.unpaid % 2 ^ 32 ∧ fieldAt b 48 4 = a.overdraft % 2 ^ 32 ∧
      fieldAt b 52 4 = a.generation.toNat ∧ fieldAt b 56 4 = period.toNat ∧ b.drop 60 = .replicate 4 0 := by
  have state : a.state.code % 256 = a.state.code := by cases a.state <;> rfl
  have mode : a.mode.code % 256 = a.mode.code := by cases a.mode <;> rfl
  have colour : a.colour.toNat % 256 = if a.colour = true then 1 else 0 := by cases a.colour <;> rfl
  have balance : (i32 a.balance).bytes = leBytes 4 (a.balance % 2 ^ 32).toNat := rfl
  have signed : (a.balance % 4294967296).toNat % 4294967296 = (a.balance % 4294967296).toNat := by omega
  have generation : a.generation.toNat % 4294967296 = a.generation.toNat := Nat.mod_eq_of_lt a.generation.isLt
  have number : period.toNat % 4294967296 = period.toNat := Nat.mod_eq_of_lt period.isLt
  intro b
  refine ⟨?_, ?_, ?_, ?_, ?_, ?_, ?_, ?_, ?_, ?_, ?_, ?_, ?_, ?_, ?_, ?_, ?_, ?_,
    drop_padTo (by simp [balance]) (by decide)⟩
  all_goals
    simp [b, Account.image, fieldAt_padTo, fieldAt_append, fieldAt_leBytes, fieldAt_leBytes_last, fieldAt_cons_succ,
      fieldAt_cons_zero, fieldAt_empty, state, mode, colour, balance, signed, generation, number]

end Sys2Proof.Machine
end

section
/-! A snapshot written part by part (R161, R162). -/

namespace Sys2Proof.Machine

/-! ### The tariff block (13.7) -/

/-- Records of one size in a row: those after the first `c` begin at `c` times the size. -/
theorem drop_flatMap {α : Type} {f : α → List Byte} {k : Nat} (size : ∀ x, (f x).length = k) (l : List α)
    (c : Nat) : (l.flatMap f).drop (k * c) = (l.drop c).flatMap f := by
  induction l generalizing c with
  | nil => simp
  | cons x l ih =>
    cases c with
    | zero => simp
    | succ c =>
      rw [List.flatMap_cons, Nat.mul_succ, Nat.add_comm, ← List.drop_drop, List.drop_left' (size x), ih,
        List.drop_succ_cons]

@[simp] theorem length_tariffBytes (t : Tariff) : t.bytes.length = 6 := by simp [Tariff.bytes]

@[simp] theorem length_tlist {α : Type} {n : Nat} (v : Vector α n) : (tlist v).length = n := by simp [tlist]

theorem getElem_tlist {α : Type} [Inhabited α] {n i : Nat} (v : Vector α n) (h : i < (tlist v).length) :
    (tlist v)[i] = tget v i := by
  have inside : i < n := by simpa using h
  simp [tlist, tget, inside]

/-- The eight classes have six bytes each. -/
theorem length_tariffs (tariffs : Vector Tariff 8) : ((tlist tariffs).flatMap Tariff.bytes).length = 48 := by
  simp [List.length_flatMap]

/-- The bytes of a class stand at six times its number. -/
theorem fieldAt_tariffBlock (tariffs : Vector Tariff 8) {c j w : Nat} (isClass : c < 8) (inside : j + w ≤ 6) :
    fieldAt (tariffBlock (tlist tariffs)) (6 * c + j) w = fieldAt (tget tariffs c).bytes j w := by
  have classes : c < (tlist tariffs).length := by simpa using isClass
  have all := length_tariffs tariffs
  rw [tariffBlock, fieldAt_padTo (by omega) (by omega), ← fieldAt_drop, drop_flatMap length_tariffBytes,
    List.drop_eq_getElem_cons classes, List.flatMap_cons, getElem_tlist, fieldAt_of_append (by simpa using inside)]

theorem tariffBytes_fields (t : Tariff) :
    fieldAt t.bytes 0 2 = t.mono % 2 ^ 16 ∧ fieldAt t.bytes 2 2 = t.colour % 2 ^ 16 ∧
      fieldAt t.bytes 4 2 = t.scan % 2 ^ 16 := by
  refine ⟨?_, ?_, ?_⟩ <;> simp [Tariff.bytes, fieldAt_append, fieldAt_leBytes, fieldAt_leBytes_last]

theorem tariffBlock_fields (tariffs : Vector Tariff 8) :
    let b := tariffBlock (tlist tariffs)
    (∀ c < 8,
      fieldAt b (6 * c) 2 = (tget tariffs c).mono % 2 ^ 16 ∧
        fieldAt b (6 * c + 2) 2 = (tget tariffs c).colour % 2 ^ 16 ∧
        fieldAt b (6 * c + 4) 2 = (tget tariffs c).scan % 2 ^ 16) ∧
      b.drop 48 = .replicate 16 0 := by
  intro b
  refine ⟨fun c isClass => ?_, drop_padTo (length_tariffs tariffs) (by decide)⟩
  obtain ⟨mono, colour, scan⟩ := tariffBytes_fields (tget tariffs c)
  exact ⟨(fieldAt_tariffBlock (j := 0) tariffs isClass (by decide)).trans mono,
    (fieldAt_tariffBlock tariffs isClass (by decide)).trans colour,
    (fieldAt_tariffBlock tariffs isClass (by decide)).trans scan⟩

/-! ### The parts written (R161, R162) -/

variable {s : State}

/-- Each part before the trailer has 64 bytes. -/
theorem snapshotPart_length {c : Composing} {bytes : List Byte} {offset : Nat} {next : SnapshotPart}
    (part : s.snapshotPart c = some (bytes, offset, next)) : bytes.length = 64 := by
  unfold State.snapshotPart at part
  split at part
  case h_4 => cases part
  all_goals
    obtain ⟨written, -⟩ := Prod.mk.inj (Option.some.inj part)
    rw [← written]
    exact length_padTo _ _

/-- A part of a snapshot copied: its bytes stand in the area, and the work goes on to the part after it (R161). -/
theorem snapshotImageCopy_writes {c : Composing} {bytes : List Byte} {offset : Nat} {next : SnapshotPart}
    (work : s.meter.work = .composing c) (canonical : s.memoryCanonical)
    (part : s.snapshotPart c = some (bytes, offset, next)) :
    bytes.length = 64 ∧ s.storesOnly s.snapshotImageCopy (c.base + offset) bytes ∧
      s.snapshotImageCopy.meter =
        { s.meter with work := .composing { c with next := next, written := c.written ++ bytes } } ∧
      s.changesOnly s.snapshotImageCopy [.memory, .meter] := by
  have written := snapshotImageCopy_of_part work part
  refine ⟨snapshotPart_length part, storesOnly_store canonical ?_, ?_, Touches.changesOnly (by simp)⟩
  · rw [written, setWork_memory, store_memory]
  · rw [written, setWork_meter, store_meter]

/-- Settles O51: the four layouts, a part before the trailer, and the trailer. -/
theorem snapshotIsComposed : Obligations.SnapshotIsComposed := by
  refine ⟨snapshotHeader_fields, tariffBlock_fields, accountImage_fields, trailerBody_fields, ?part, ?trailer⟩
  case part =>
    intro s c work notLast canonical
    refine ⟨s.snapshotImageCopy, rfl, snapshotImageCopy_writes work canonical ?_⟩
    unfold State.snapshotPart
    cases next : c.next with
    | header | tariffBlock => rfl
    | image i => simp only [nextImage, Nat.succ_lt_succ_iff]
    | trailer => exact absurd next notLast
  case trailer =>
    intro s c work last canonical
    have ends := compositionEnd_of_trailer work last
    have triggers (b : State) (x : Option SerialTag) : Touches [.meter] b (b.triggerBank x) := by simp
    rw [trailerOffset] at ends
    refine ⟨s.compositionEnd, rfl, ?_⟩
    dsimp only at ends ⊢
    refine ⟨by simp [trailerBody], storesOnly_store canonical ?_, ?_, Touches.changesOnly (by simp)⟩
    · rw [ends, triggers _ _ .memory (by simp), setWork_memory, store_memory]
    · simp only [ends, triggerBank_meter, setWork_meter, store_meter, State.now, setWork_directive, store_directive]

end Sys2Proof.Machine
end

section
/-! A restore: the reading of its area, the tests of R164 in order, and the load (R163, R164). -/

namespace Sys2Proof.Machine

/-! ### The fields of an area (13.7) -/

/-- A field of some bytes is a field of the record they are the first bytes of. -/
theorem fieldAt_take {n o w : Nat} (inside : o + w ≤ n) (b : List Byte) : fieldAt (b.take n) o w = fieldAt b o w := by
  rw [fieldAt, List.drop_take, List.take_take, min_eq_left (by omega), fieldAt]

/-- The period number of an image as the area holds it. -/
theorem periodOfImage_imageAt (area : List Byte) (i : Nat) :
    periodOfImage (imageAt area i) = fieldAt area (128 + 64 * i + 56) 4 := by
  rw [periodOfImage, imageAt, fieldAt_take (by decide), fieldAt_drop]

/-- The area ends with the trailer's tag. -/
theorem trailerTag_eq {area : List Byte} (whole : area.length = 131264) :
    trailerTag area = beatOfBytes (area.drop 131248) := by
  rw [trailerTag, trailerOffset, List.take_of_length_le (by rw [List.length_drop, whole])]

/-! ### The tests (R164) -/

variable {s : State}

/-- The tests of R164 in order, by the fields of an area that has been read. -/
theorem restoreRefusal_eq {area : List Byte} (whole : area.length = 131264) :
    s.restoreRefusal area =
      if Config.snapshotTag s.meter.cells.directiveKey (area.take 131248) ≠ beatOfBytes (area.drop 131248) then
        some (.refuse .refusedRange .badTag)
      else if contentOk area = false then some (.refuse .refusedRange .badContent)
      else if fieldAt area 131208 4 ≠ s.meter.cells.serial ∨
          beatOfBytes (area.drop 131248) ≠ s.meter.cells.tag then
        some (.refuse .refusedState .oldSerial)
      else if s.account.pristine = false then some (.refuse .refusedState .notPristine)
      else none := by
  simp only [State.restoreRefusal, trailerTag_eq whole, taggedBytes, trailerSerial, trailerOffset, Bool.not_eq_true',
    not_and_or, ne_eq]

/-- A restore that has read its whole area ends with this answer, beside what it loads (R164). -/
def State.endsRestore (s t : State) (base : Nat) (parked : Parked) (a : Answer) (parts : List Part) : Prop :=
  t.meter = { s.meter with work := .none } ∧
    t.directive =
      { s.directive with
        owned := s.directive.owned.filter fun x => !(x.base == base && x.source == .restoreArea)
        writes := s.directive.writes ++ [parked.reply a s.now] } ∧
    s.changesOnly t ([.meter, .directive] ++ parts)

/-- A restore that fails a test loads nothing. -/
theorem restoreReadEnd_of_refusal {base : Nat} {parked : Parked} {area : List Byte} {a : Answer}
    (work : s.meter.work = .restoring base parked area) (whole : area.length = 131264)
    (refused : s.restoreRefusal area = some a) : s.endsRestore s.restoreReadEnd base parked a [] := by
  have ends : s.restoreReadEnd = s.endWork base .restoreArea parked a := by
    simp only [State.restoreReadEnd, work, whole, snapshotSize, if_true, refused]
  rw [ends]
  exact ⟨endWork_meter _ _ _ _ _, endWork_directive _ _ _ _ _, Touches.changesOnly (by simp)⟩

/-! ### The load (R164) -/

theorem sum_toNat_eq_countP {α : Type} (p : α → Bool) (l : List α) :
    (l.map fun a => (p a).toNat).sum = l.countP p := by
  induction l with
  | nil => rfl
  | cons a l ih =>
    rw [List.map_cons, List.sum_cons, ih, List.countP_cons, Nat.add_comm]
    cases p a <;> rfl

/-- The results of a RESTORE that has loaded: serial, accounts in use, period number. -/
theorem restoreResults_eq (s : State) (area : List Byte) :
    s.restoreResults area =
      [u32 (fieldAt area 131208 4), u16 ((tlist s.account.accounts).countP fun a => a.state != .unused),
       u32 s.account.period.toNat] := by
  rw [State.restoreResults, State.sumAccounts, sum_toNat_eq_countP]
  rfl

/-- The record an image loads, where its state and mode are defined. -/
theorem loadedAccount_eq {area : List Byte} {i : Nat} {a : Account} (image : accountOfImage (imageAt area i) = some a) :
    loadedAccount area i =
      let same := fieldAt area (128 + 64 * i + 56) 4 = fieldAt area 131212 4
      { a with
        reserved := 0
        periodMono := if same then a.periodMono else 0
        periodColour := if same then a.periodColour else 0
        periodScan := if same then a.periodScan else 0 } := by
  simp only [loadedAccount, image, Option.getD_some, periodOfImage_imageAt, trailerPeriod, trailerOffset,
    decide_eq_true_eq]

/-- A restore that passes every test loads the accounts, the period number and the tariffs. -/
theorem restoreReadEnd_of_passes {base : Nat} {parked : Parked} {area : List Byte}
    (work : s.meter.work = .restoring base parked area) (whole : area.length = 131264)
    (passes : s.restoreRefusal area = none) :
    s.restoreReadEnd =
      (s.loadSnapshot area).endWork base .restoreArea parked (.done ((s.loadSnapshot area).restoreResults area)) := by
  simp only [State.restoreReadEnd, work, whole, snapshotSize, if_true, passes]

theorem loadSnapshot_endsRestore (s : State) (base : Nat) (parked : Parked) (area : List Byte) (a : Answer) :
    s.endsRestore ((s.loadSnapshot area).endWork base .restoreArea parked a) base parked a [.account, .charging] := by
  have loaded : Touches [.account, .charging] s (s.loadSnapshot area) := by simp
  have now : (s.loadSnapshot area).now = s.now := congrArg DirectiveUnit.time (loaded .directive (by simp))
  refine ⟨?_, ?_, Touches.changesOnly (by simp)⟩
  · rw [endWork_meter, loaded .meter (by simp)]
  · rw [endWork_directive, loaded .directive (by simp), now]

/-! ### The statement -/

/-- One test of R164: the restore is answered where it fails, and otherwise what follows decides. -/
theorem endsRestore_test {base : Nat} {parked : Parked} {area : List Byte} {p q : Prop} [Decidable p] {a : Answer}
    {rest : Option Answer} (work : s.meter.work = .restoring base parked area) (whole : area.length = 131264)
    (tests : s.restoreRefusal area = if p then some a else rest) (passes : s.restoreRefusal area = rest → q) :
    if p then s.endsRestore s.restoreReadEnd base parked a [] else q := by
  by_cases failed : p
  · rw [if_pos failed] at tests ⊢
    exact restoreReadEnd_of_refusal work whole tests
  · rw [if_neg failed] at tests ⊢
    exact passes tests

/-- Settles O52, by the tests of R164 in order. -/
theorem restoreLoadsWhatPassesEveryTest : Obligations.RestoreLoadsWhatPassesEveryTest := by
  refine ⟨?read, ?ends⟩
  case read =>
    intro s base beats parked got work
    refine ⟨s.restoreAreaRead beats, rfl, ?_, Touches.changesOnly (by simp)⟩
    simp only [State.restoreAreaRead, work, setWork_meter, snapshotSize]
  case ends =>
    intro s base parked area work whole
    have tests := restoreRefusal_eq (s := s) whole
    refine ⟨s.restoreReadEnd, rfl, ?_⟩
    dsimp only
    iterate 4 refine endsRestore_test work whole tests fun tests => ?_
    have load := restoreReadEnd_of_passes work whole tests
    have account : s.restoreReadEnd.account = (s.loadSnapshot area).account := by rw [load]; rfl
    have charging : s.restoreReadEnd.charging = (s.loadSnapshot area).charging := by rw [load]; rfl
    refine ⟨?answer, ?pristine, ?period, ?accounts, ?tariffs, ?sheets⟩
    case answer =>
      rw [account, ← restoreResults_eq, load]
      exact loadSnapshot_endsRestore s base parked area _
    case pristine => rw [account]; rfl
    case period => rw [account]; rfl
    case accounts =>
      intro i inside a image
      rw [State.accountAt, account]
      exact (tget_tfill _ inside).trans (loadedAccount_eq image)
    case tariffs =>
      intro c isClass
      rw [State.tariff, charging]
      exact tget_tfill _ isClass
    case sheets => rw [charging]; rfl

end Sys2Proof.Machine
end

section
/-! The entry to lockdown at every block (R20, R30, R60, R68, R111, R166, R168, R169), and the causes that make it
(R168, R170). -/

namespace Sys2Proof.Machine

variable {s a : State}

/-! ### The abandonment on the way to lockdown (R92, R168 step 1) -/

/-- The abandonment that lockdown makes is not followed by a drain test (R55). -/
theorem abandon_lockdown_eq (s : State) :
    s.abandon .lockdown = s.parser.openSide.elim s fun o => s.abandonSide o .lockdown := by
  cases side : s.parser.openSide with
  | none => simp [State.abandon, side]
  | some o => exact abandon_of_open side .lockdown

theorem asksOnly_abandon_lockdown (s : State) : s.asksOnly (s.abandon .lockdown) := by
  rw [abandon_lockdown_eq]
  cases s.parser.openSide with
  | none => exact asksOnly_of_eq rfl
  | some o => exact asksOnly_abandonSide o .lockdown (asksOnly_of_eq rfl)

/-- A record changed in a field other than its phase. -/
theorem phase_updateJob (s : State) (slot : Nat) {f : JobRecord → JobRecord} (same : ∀ j, (f j).phase = j.phase)
    (k : Nat) : ((s.updateJob slot f).jobAt k).map JobRecord.phase = (s.jobAt k).map JobRecord.phase := by
  by_cases here : k = slot
  · subst here
    by_cases inside : k < 32
    · rw [State.updateJob, jobAt_setJob_same _ _ inside, Option.map_map, show JobRecord.phase ∘ f = _ from funext same]
    · exact congrArg _ (jobAt_of_job_eq (congrArg JobUnit.mk (tset_beyond _ _ (Nat.le_of_not_lt inside))) k)
  · rw [jobAt_updateJob_other s f here]

/-- An abandonment leaves every job in its state (R92 step 4). -/
theorem phase_abandonSide (s : State) (o : OpenSide) (cause : AbandonCause) (k : Nat) :
    ((s.abandonSide o cause).jobAt k).map JobRecord.phase = (s.jobAt k).map JobRecord.phase := by
  have before : Touches [.directive, .consumable, .link, .account, .charging] s
      (((s.handBand (s.currentPlane o.region) o.bandDots).releaseSide o).abandonSheet o.sheet o.kind) := by simp
  have after : Touches [.transaction, .directive, .parser]
      ((((s.handBand (s.currentPlane o.region) o.bandDots).releaseSide o).abandonSheet o.sheet o.kind).updateJob o.slot
        JobRecord.abandonSide) (s.abandonSide o cause) := by
    simp [State.abandonSide]
  rw [jobAt_of_job_eq (after .job (by simp)), phase_updateJob _ _ (f := JobRecord.abandonSide) fun _ => rfl,
    jobAt_of_job_eq (before .job (by simp))]

theorem phase_abandon_lockdown (s : State) (k : Nat) :
    ((s.abandon .lockdown).jobAt k).map JobRecord.phase = (s.jobAt k).map JobRecord.phase := by
  rw [abandon_lockdown_eq]
  cases s.parser.openSide with
  | none => rfl
  | some o => exact phase_abandonSide s o .lockdown k

/-- A record changed in a field other than its edit generation. -/
theorem generation_updateAccount (s : State) (i : Nat) {f : Account → Account}
    (same : ∀ r, (f r).generation = r.generation) (k : Nat) :
    ((s.updateAccount i f).accountAt k).generation = (s.accountAt k).generation := by
  by_cases here : k = i
  · subst here
    by_cases inside : k < 2048
    · rw [State.accountAt, updateAccount_account, tget_tset_same _ _ inside, same]
    · rw [State.accountAt, updateAccount_account, tset_beyond _ _ (Nat.le_of_not_lt inside)]
      rfl
  · rw [State.accountAt, updateAccount_account, tget_tset_other _ _ here]
    rfl

/-- An abandonment releases a reservation, which is no edit of the account (R92 step 2, R117). -/
theorem generation_abandonSide (s : State) (o : OpenSide) (cause : AbandonCause) (k : Nat) :
    ((s.abandonSide o cause).accountAt k).generation = (s.accountAt k).generation := by
  have before : Touches [.directive, .consumable, .link] s (s.handBand (s.currentPlane o.region) o.bandDots) := by simp
  have after : Touches [.transaction, .directive, .job, .parser, .charging]
      ((s.handBand (s.currentPlane o.region) o.bandDots).releaseSide o) (s.abandonSide o cause) := by
    simp [State.abandonSide]
  have released (b : State) : ((b.releaseSide o).accountAt k).generation = (b.accountAt k).generation := by
    unfold State.releaseSide
    split
    · exact generation_updateAccount b _ (f := fun r => { r with reserved := r.reserved - o.reservation })
        (fun _ => rfl) k
    · rfl
  rw [State.accountAt, after .account (by simp)]
  refine (released _).trans ?_
  rw [State.accountAt, before .account (by simp)]
  rfl

theorem generation_abandon_lockdown (s : State) (k : Nat) :
    ((s.abandon .lockdown).accountAt k).generation = (s.accountAt k).generation := by
  rw [abandon_lockdown_eq]
  cases s.parser.openSide with
  | none => rfl
  | some o => exact generation_abandonSide s o .lockdown k

/-! ### Closes that lockdown ends (R60) -/

/-- What JOB_CLOSE left in a slot whose job is CLOSING. -/
def closingOf (j : Option JobRecord) : Option Closing :=
  match j.map JobRecord.phase with
  | some (.closing c) => some c
  | _ => none

theorem tlist_eq_map_tget {α : Type} [Inhabited α] {n : Nat} (v : Vector α n) : tlist v = (List.range n).map (tget v) :=
  List.ext_getElem (by simp) fun i inside _ => by rw [getElem_tlist v inside, List.getElem_map, List.getElem_range]

theorem closings_eq (s : State) : (tlist s.job.slots).filterMap closingOf = s.closings := by
  rw [tlist_eq_map_tget, List.filterMap_map]
  rfl

theorem closings_congr (same : ∀ k, (a.jobAt k).map JobRecord.phase = (s.jobAt k).map JobRecord.phase) :
    a.closings = s.closings := by
  simp only [State.closings, same]

/-- The directive unit once closes have been ended: their summary locations have left the owned-area list and their
replies are handed over (R60). -/
def DirectiveUnit.endsCloses (u : DirectiveUnit) (cs : List Closing) : DirectiveUnit :=
  { u with
    owned := u.owned.filter fun x => !(cs.any (fun c => c.summary == some x.base) && x.source == .closeSummary)
    writes := u.writes ++ cs.map fun c => c.parked.reply .locked u.time }

theorem endsCloses_nil (u : DirectiveUnit) : u.endsCloses [] = u := by simp [DirectiveUnit.endsCloses]

theorem endsCloses_cons (u : DirectiveUnit) (c : Closing) (cs : List Closing) :
    u.endsCloses (c :: cs) = (u.endsCloses [c]).endsCloses cs := by
  have owned (x : OwnedArea) :
      (!((c :: cs).any (fun c => c.summary == some x.base) && x.source == .closeSummary)) =
        (!(cs.any (fun c => c.summary == some x.base) && x.source == .closeSummary) &&
          !([c].any (fun c => c.summary == some x.base) && x.source == .closeSummary)) := by
    rw [List.any_cons, List.any_cons, List.any_nil, Bool.or_false, Bool.and_or_distrib_right, Bool.not_or,
      Bool.and_comm]
  simp only [DirectiveUnit.endsCloses, owned, List.filter_filter, List.map_cons, List.map_nil, List.append_assoc,
    List.singleton_append]

theorem disownSummary_directive (s : State) (summary : Option Nat) :
    (s.disownSummary summary).directive =
      { s.directive with
        owned := s.directive.owned.filter fun x => !(summary == some x.base && x.source == .closeSummary) } := by
  cases summary with
  | none => simp [State.disownSummary]
  | some location =>
    simp [State.disownSummary, State.disown, eq_comm (a := location), Bool.beq_eq_decide_eq]

theorem lockClose_directive (s : State) (j : Option JobRecord) :
    (s.lockClose j).directive = s.directive.endsCloses (closingOf j).toList := by
  unfold State.lockClose closingOf
  rcases j.map JobRecord.phase with - | - | - | - | c
  case some.closing =>
    simp [State.replyParked, DirectiveUnit.endsCloses, disownSummary_directive, State.now, Parked.reply]
  all_goals exact (endsCloses_nil _).symm

theorem foldl_lockClose_directive (slots : List (Option JobRecord)) (s : State) :
    (slots.foldl State.lockClose s).directive = s.directive.endsCloses (slots.filterMap closingOf) := by
  induction slots generalizing s with
  | nil => exact (endsCloses_nil _).symm
  | cons j slots ih =>
    rw [List.foldl_cons, ih, lockClose_directive, List.filterMap_cons]
    cases closingOf j with
    | none => exact congrArg (DirectiveUnit.endsCloses · _) (endsCloses_nil _)
    | some c => exact (endsCloses_cons ..).symm

/-- Slots that become FREE end the closes of their jobs at the directive unit (R60). -/
theorem freeAllSlots_directive (s : State) : s.freeAllSlots.directive = s.directive.endsCloses s.closings := by
  rw [State.freeAllSlots, setJobs_directive, foldl_lockClose_directive, closings_eq]

/-! ### Meter work that stops (R166) -/

/-- The directive unit once meter work has been stopped: its area has left the owned-area list and its reply is handed
over (R166). -/
def DirectiveUnit.stopsWork (u : DirectiveUnit) (stopped : List (Parked × Nat × AreaSource)) : DirectiveUnit :=
  { u with
    owned := u.owned.filter fun x => !stopped.any fun w => x.base == w.2.1 && x.source == w.2.2
    writes := u.writes ++ stopped.map fun w => w.1.reply .locked u.time }

theorem stopsWork_nil (u : DirectiveUnit) : u.stopsWork [] = u := by simp [DirectiveUnit.stopsWork]

theorem endWork_stopsWork (s : State) (base : Nat) (source : AreaSource) (parked : Parked) :
    (s.endWork base source parked .locked).directive = s.directive.stopsWork [(parked, base, source)] := by
  simp [endWork_directive, DirectiveUnit.stopsWork, State.now]

theorem meterEntry_directive (s : State) : s.meterEntry.directive = s.directive.stopsWork s.meter.atEntry.2.toList := by
  have serial : s.bankHasSerial = (s.meter.bank.bind Bank.serial).isSome := bankHasSerial_eq s
  unfold State.meterEntry MeterUnit.atEntry
  cases work : s.meter.work with
  | none => exact (stopsWork_nil _).symm
  | composing c => exact endWork_stopsWork ..
  | restoring base parked got => exact endWork_stopsWork ..
  | banking base number parked =>
    cases carried : s.meter.bank.bind Bank.serial with
    | some x => simp [serial, carried, stopsWork_nil]
    | none =>
      simp only [serial, carried, Option.isSome_none, Bool.false_eq_true, if_false]
      exact endWork_stopsWork ..

/-- Closes that have been ended and then work that has been stopped (R60, R166). -/
theorem stopsWork_endsCloses (u : DirectiveUnit) (cs : List Closing) (stopped : List (Parked × Nat × AreaSource)) :
    (u.endsCloses cs).stopsWork stopped =
      { u with
        owned :=
          u.owned.filter fun x =>
            !(cs.any (fun c => c.summary == some x.base) && x.source == .closeSummary) &&
              !stopped.any fun w => x.base == w.2.1 && x.source == w.2.2
        writes :=
          u.writes ++ cs.map (fun c => c.parked.reply .locked u.time) ++
            stopped.map fun w => w.1.reply .locked u.time } := by
  rw [← List.filter_filter, List.filter_comm]
  rfl

/-! ### The directives that wait (R30) -/

theorem generalAnswer_congr (roles : a.transaction.roles = s.transaction.roles) (d : Directive) (o : OutcomeCode)
    (x : Detail) : a.generalAnswer d o x = s.generalAnswer d o x := by
  rw [State.generalAnswer, State.generalAnswer, State.roleView, State.roleView, roles]

theorem replyGeneration_congr (same : ∀ k, (a.accountAt k).generation = (s.accountAt k).generation) (code : Nat)
    (operands : List Byte) : a.replyGeneration code operands = s.replyGeneration code operands := by
  simp only [State.replyGeneration, same]

/-- The LOCKED reply to a directive that waits (R28, R30). -/
def State.lockedReply (s : State) (d : Directive) : WriterItem :=
  d.replyOf (s.generalAnswer d .locked .none) (s.replyGeneration d.code d.operands) s.now

/-- The LOCKED replies are read from the role table, the edit generations and the time counter alone. -/
theorem lockedReply_congr (roles : a.transaction.roles = s.transaction.roles)
    (generation : ∀ k, (a.accountAt k).generation = (s.accountAt k).generation) (now : a.now = s.now) :
    a.lockedReply = s.lockedReply := by
  funext d
  rw [State.lockedReply, generalAnswer_congr roles, replyGeneration_congr generation, now, State.lockedReply]

theorem foldl_reply_directive (ds : List Directive) (s : State) :
    (ds.foldl (fun a d => a.reply d (a.generalAnswer d .locked .none)) s).directive =
      s.directive.handed (ds.map s.lockedReply) := by
  induction ds generalizing s with
  | nil => simp [DirectiveUnit.handed]
  | cons d ds ih =>
    rw [List.foldl_cons, ih, List.map_cons, ← List.singleton_append, DirectiveUnit.handed, DirectiveUnit.handed,
      ← List.append_assoc]
    rfl

theorem answerWaiting_directive (s : State) :
    s.answerWaiting.directive =
      { s.directive.handed (s.directive.queue.map s.lockedReply) with queue := [] } := by
  rw [State.answerWaiting, setDirective_directive, foldl_reply_directive]

/-! ### The entry at every block (R168) -/

/-- The state after the first step of R168, as the operations make it. -/
theorem lockedStep1_eq (s : State) (e : CauseEvent) :
    s.lockedStep1 e.cause e.slot e.requester = (s.enterMode e).abandon .lockdown := rfl

/-- What the first step of R168 leaves of what the later steps and the replies read. -/
structure State.Readies (s b : State) : Prop where
  meter      : b.meter = s.meter
  now        : b.now = s.now
  queue      : b.directive.queue = s.directive.queue
  executing  : b.directive.executing = s.directive.executing
  closings   : b.closings = s.closings
  roles      : b.transaction.roles = s.transaction.roles
  generation : ∀ k, (b.accountAt k).generation = (s.accountAt k).generation

theorem readies_lockedStep1 (s : State) (e : CauseEvent) : s.Readies (s.lockedStep1 e.cause e.slot e.requester) := by
  obtain ⟨requests, asked⟩ := asksOnly_abandon_lockdown (s.enterMode e)
  rw [lockedStep1_eq]
  have meter : Touches [.transaction, .directive, .job, .cipher, .parser, .charging, .account, .consumable, .link]
      (s.enterMode e) ((s.enterMode e).abandon .lockdown) := by simp
  exact
    { meter := meter .meter (by simp)
      now := (congrArg DirectiveUnit.time asked :)
      queue := (congrArg DirectiveUnit.queue asked :)
      executing := (congrArg DirectiveUnit.executing asked :)
      closings := closings_congr (phase_abandon_lockdown (s.enterMode e))
      roles := abandon_roles (s.enterMode e) .lockdown
      generation := generation_abandon_lockdown (s.enterMode e) }

/-- The steps of R168 after the first, at the blocks. -/
def State.lockedRest (b : State) : State := b.orphanAllSheets.eraseKeys.freeAllRegions.freeAllSlots.meterEntry

theorem enterBlocks_eq (s : State) (e : CauseEvent) :
    s.enterBlocks e = (s.lockedStep1 e.cause e.slot e.requester).lockedRest := rfl

/-- The steps of R168 after the first, at the directive unit: closes end, and meter work stops. -/
theorem lockedRest_directive (b : State) :
    b.lockedRest.directive = (b.directive.endsCloses b.closings).stopsWork b.meter.atEntry.2.toList := by
  have before : Touches [.charging, .cipher, .transaction, .directive, .job] b
      b.orphanAllSheets.eraseKeys.freeAllRegions.freeAllSlots := by simp
  rw [State.lockedRest, meterEntry_directive, freeAllSlots_directive, before .meter (by simp)]
  rfl

/-- The steps of R168 after the first, at the other blocks: every sheet is ORPHAN, no key, region or slot is held, and
meter work stops by the rows of R166. -/
theorem lockedRest_blocks (b : State) :
    let t := b.lockedRest
    t.charging = { b.charging with sheets := b.charging.sheets.map fun h => { h with owner := .orphan } } ∧
      t.cipher = { b.cipher with keys := t.cipher.keys } ∧
      (∀ i, (tget t.cipher.keys i : Option KeyEntry) = none) ∧
      t.transaction = { b.transaction with regions := t.transaction.regions, lastScanWrite := none } ∧
      (∀ i, t.region i = none) ∧ (∀ i, t.jobAt i = none) ∧ t.meter = b.meter.atEntry.1 := by
  intro t
  let freed := b.orphanAllSheets.eraseKeys.freeAllRegions
  have slots : Touches [.directive, .job] freed freed.freeAllSlots := by simp
  have work : Touches [.directive, .meter] freed.freeAllSlots t := by simp [t, freed, State.lockedRest]
  have cipher : t.cipher = freed.cipher := (work .cipher (by simp)).trans (slots .cipher (by simp))
  have transaction : t.transaction = freed.transaction :=
    (work .transaction (by simp)).trans (slots .transaction (by simp))
  have meter : freed.freeAllSlots.meter = b.meter := slots .meter (by simp)
  refine ⟨?sheets, ?keys, fun i => ?erased, ?table, fun i => ?region, fun i => ?job, ?meter⟩
  case sheets => exact (work .charging (by simp)).trans (slots .charging (by simp))
  case keys => rw [cipher]; rfl
  case erased => rw [cipher]; exact tget_replicate _ _ fun _ => rfl
  case table => rw [transaction]; rfl
  case region => rw [State.region, transaction]; exact tget_replicate _ _ fun _ => rfl
  case job => exact (jobAt_of_job_eq (work .job (by simp)) i).trans (tget_replicate _ _ fun _ => rfl)
  case meter => exact (meterEntry_meter _).trans (congrArg (fun m => m.atEntry.1) meter)

/-- What the later steps of R168 touch. -/
@[simp] theorem touches_lockedRest {ps : List Part} (b : State) (hH : .charging ∈ ps) (hC : .cipher ∈ ps)
    (hT : .transaction ∈ ps) (hD : .directive ∈ ps) (hJ : .job ∈ ps) (hM : .meter ∈ ps) :
    Touches ps s b.lockedRest ↔ Touches ps s b := by
  simp [State.lockedRest, *]

theorem lockedRest_roles (b : State) : b.lockedRest.transaction.roles = b.transaction.roles := by
  obtain ⟨-, -, -, table, -⟩ := lockedRest_blocks b
  rw [table]

theorem enterBlocks_now (s : State) (e : CauseEvent) : (s.enterBlocks e).now = s.now := by
  rw [enterBlocks_eq, State.now, lockedRest_directive]
  exact (readies_lockedStep1 s e).now

theorem enterBlocks_executing (s : State) (e : CauseEvent) :
    (s.enterBlocks e).directive.executing = s.directive.executing := by
  rw [enterBlocks_eq, lockedRest_directive]
  exact (readies_lockedStep1 s e).executing

/-- The LOCKED replies read nothing that the entry changes. -/
theorem lockedReply_enterBlocks (s : State) (e : CauseEvent) : (s.enterBlocks e).lockedReply = s.lockedReply := by
  have ready := readies_lockedStep1 s e
  have rest : Touches [.charging, .cipher, .transaction, .directive, .job, .meter]
      (s.lockedStep1 e.cause e.slot e.requester) (s.enterBlocks e) := by simp [enterBlocks_eq]
  refine lockedReply_congr ((lockedRest_roles _).trans ready.roles) (fun k => ?_) (enterBlocks_now s e)
  rw [State.accountAt, rest .account (by simp)]
  exact ready.generation k

/-- The entry at every block, the entry's own reply where a directive made it, and then the LOCKED replies to the
directives that wait (R30, R168, R170). -/
theorem answerWaiting_entersLockdown {u : State} {e : CauseEvent} {own : List WriterItem} {x : Option Executing}
    (left : Touches [.directive] (s.enterBlocks e) u)
    (unit : u.directive = { (s.enterBlocks e).directive.handed own with executing := x }) :
    s.entersLockdown u.answerWaiting e.cause e.slot e.requester own ∧ u.answerWaiting.directive.executing = x := by
  have ready := readies_lockedStep1 s e
  have replies : u.lockedReply = s.lockedReply :=
    (lockedReply_congr (by rw [left .transaction (by simp)])
      (fun k => by rw [State.accountAt, left .account (by simp), ← State.accountAt])
      (by rw [State.now, unit]; rfl)).trans (lockedReply_enterBlocks s e)
  have after : Touches [.directive] (s.enterBlocks e) u.answerWaiting := (touches_answerWaiting (by simp)).mpr left
  have executing : u.answerWaiting.directive.executing = x := by rw [answerWaiting_directive, unit]; rfl
  have closed : (s.lockedStep1 e.cause e.slot e.requester).parser.openSide = none :=
    abandon_openSide (s.enterMode e) .lockdown
  rw [enterBlocks_eq] at unit after
  rw [State.entersLockdown]
  generalize s.lockedStep1 e.cause e.slot e.requester = b at ready unit after closed ⊢
  have rest : Touches [.charging, .cipher, .transaction, .directive, .job, .meter] b b.lockedRest := by simp
  have frame : Touches [.lockdown, .parser, .charging, .cipher, .transaction, .job, .meter, .directive] b
      u.answerWaiting := (show Touches _ b b.lockedRest by simp).trans_of_subset after (by simp)
  obtain ⟨sheets, keys, erased, table, regions, jobs, meter⟩ := lockedRest_blocks b
  have cipher : u.answerWaiting.cipher = b.lockedRest.cipher := after .cipher (by simp)
  have transaction : u.answerWaiting.transaction = b.lockedRest.transaction := after .transaction (by simp)
  refine ⟨⟨?mode, ?parser, ?sheets, ?keys, fun i => ?erased, ?table, fun i => ?region, fun i => ?job, ?meter,
    ?directive, frame.changesOnly⟩, executing⟩
  case mode => exact (after .lockdown (by simp)).trans (rest .lockdown (by simp))
  case parser => rw [after .parser (by simp), rest .parser (by simp), closed]
  case sheets => rw [after .charging (by simp), sheets]
  case keys => rw [cipher]; exact keys
  case erased => rw [cipher]; exact erased i
  case table => rw [transaction]; exact table
  case region => rw [State.region, transaction]; exact regions i
  case job => exact (jobAt_of_job_eq (after .job (by simp)) i).trans (jobs i)
  case meter => rw [after .meter (by simp), meter, ready.meter]
  case directive =>
    have time : b.directive.time = s.now := ready.now
    rw [executing, answerWaiting_directive, replies, unit, lockedRest_directive, stopsWork_endsCloses, ready.closings,
      ready.meter]
    simp only [DirectiveUnit.handed, ready.queue, time]
    rfl

/-! ### A cause taken (R168, R169) -/

/-- A cause taken in NORMAL mode without a reply of its own (R168). -/
theorem takeCause_entersLockdown (normal : s.lockdown.mode = .normal) (e : CauseEvent) :
    s.entersLockdown (s.takeCause e) e.cause e.slot e.requester [] ∧
      (s.takeCause e).directive.executing = s.directive.executing := by
  have enters : s.takeCause e = (s.enterBlocks e).answerWaiting := if_neg (by simp [State.locked, normal])
  rw [enters]
  refine answerWaiting_entersLockdown (touches_refl _ _) ?_
  rw [← enterBlocks_executing s e, DirectiveUnit.handed, List.append_nil]

/-- A cause taken in LOCKDOWN (R169). -/
theorem takeCause_of_locked (locked : s.lockdown.mode = .lockdown) (e : CauseEvent) :
    s.takeCause e = s.askNotice .lockdownRepeat e.values :=
  if_pos (by simp [State.locked, locked])

theorem execTamperFall_of_high (high : s.lockdown.tamperHigh = true) :
    exec .tamperFall s =
      .next ((s.setTamper false).takeCause { cause := .tamper, slot := none, requester := none }) :=
  congrArg Host.Outcome.next (if_pos high)

theorem execKeyFaultReport_of_reports {slot : Nat} {rest : List Nat} (reports : s.cipher.reports = slot :: rest) :
    exec .keyFaultReport s =
      .next ((s.setCipher { s.cipher with reports := rest }).takeCause
        { cause := .keyFault, slot := some slot, requester := none }) := by
  show Host.Outcome.next s.keyFaultReport = _
  rw [State.keyFaultReport, reports]

/-! ### LOCKDOWN (R170) -/

theorem enterBlocks_locked (s : State) (e : CauseEvent) : (s.enterBlocks e).locked = true := by
  have abandoned : Touches [.transaction, .directive, .job, .cipher, .parser, .charging, .account, .consumable, .link]
      (s.enterMode e) (s.lockedStep1 e.cause e.slot e.requester) := by simp [lockedStep1_eq]
  have rest : Touches [.charging, .cipher, .transaction, .directive, .job, .meter]
      (s.lockedStep1 e.cause e.slot e.requester) (s.enterBlocks e) := by simp [enterBlocks_eq]
  rw [State.locked, rest .lockdown (by simp), abandoned .lockdown (by simp)]
  rfl

/-- The event that a LOCKDOWN directive is (R168). -/
def Directive.lockdownEvent (d : Directive) : CauseEvent :=
  { cause := .directive, slot := none, requester := some d.requester }

/-- A LOCKDOWN directive that executes is answered DONE after the entry and before the directives that wait (R30,
R170). -/
theorem execLockdown_of_takes {d : Directive} (takes : s.takes .lockdown d) :
    exec .lockdown s = .next ((s.enterBlocks d.lockdownEvent).finish d (.done [u64 s.now])).answerWaiting := by
  have entered : s.runDirective .lockdown ownLockdown = (s.enterBlocks d.lockdownEvent).finish d (.done [u64 s.now]) :=
    runDirective_takes _ takes
  have before : s.locked = false := by simp [State.locked, takes.2]
  have after : ((s.enterBlocks d.lockdownEvent).finish d (.done [u64 s.now])).locked = true :=
    enterBlocks_locked s d.lockdownEvent
  show Host.Outcome.next (s.afterLockdown (s.runDirective .lockdown ownLockdown)) = _
  rw [entered, State.afterLockdown, before, after]
  rfl

/-- Settles O21, by the mode in which each cause is taken. -/
theorem everyCauseEntersLockdown : Obligations.EveryCauseEntersLockdown := by
  refine ⟨?directive, ?fall, ?fallLocked, ?low, ?report, ?reportLocked, ?empty, fun s => rfl⟩
  case directive =>
    intro s d takes
    refine ⟨_, execLockdown_of_takes takes, ?_⟩
    refine answerWaiting_entersLockdown (e := d.lockdownEvent) (by simp) ?_
    have time : (s.enterBlocks d.lockdownEvent).directive.time = s.now := enterBlocks_now s _
    simp only [finish_directive takes.1 (by decide), DirectiveUnit.answered, DirectiveUnit.handed, time]
  case fall =>
    intro s high normal
    exact ⟨_, execTamperFall_of_high high, takeCause_entersLockdown (s := s.setTamper false) normal _⟩
  case fallLocked =>
    intro s high locked
    refine ⟨_, execTamperFall_of_high high, ?_⟩
    rw [takeCause_of_locked (s := s.setTamper false) locked]
    exact ⟨rfl, rfl, Touches.changesOnly (by simp)⟩
  case low =>
    intro s low
    exact congrArg Host.Outcome.next (if_neg (by simp [low]))
  case report =>
    intro s slot rest reports normal
    exact ⟨_, execKeyFaultReport_of_reports reports,
      takeCause_entersLockdown (s := s.setCipher { s.cipher with reports := rest }) normal _⟩
  case reportLocked =>
    intro s slot rest reports locked
    refine ⟨_, execKeyFaultReport_of_reports reports, ?_⟩
    rw [takeCause_of_locked (s := s.setCipher { s.cipher with reports := rest }) locked]
    exact ⟨rfl, rfl, Touches.changesOnly (by simp)⟩
  case empty =>
    intro s empty
    show Host.Outcome.next s.keyFaultReport = _
    rw [State.keyFaultReport, empty]

end Sys2Proof.Machine
end

section
/-! RECOVER at lockdown control (R171). -/

namespace Sys2Proof.Machine

variable {s : State} {d : Directive}

/-- RECOVER is executed in both part modes (R167). -/
theorem execRecover_of_awaits (awaits : s.awaitsOwner .recover d) :
    exec .recover s = .next ((ownRecover d s).2.conclude d (ownRecover d s).1) :=
  congrArg Host.Outcome.next (runDirective_open ownRecover awaits (by decide))

theorem ownRecover_of_normal (normal : s.lockdown.mode = .normal) (d : Directive) :
    ownRecover d s = (.answer (.refuse .refusedState .notLocked), s) :=
  if_pos (by simp [State.locked, normal])

theorem ownRecover_of_tamper (locked : s.lockdown.mode ≠ .normal) (low : s.lockdown.tamperHigh = false)
    (d : Directive) : ownRecover d s = (.answer (.refuse .refusedState .tamper), s) := by
  cases mode : s.lockdown.mode with
  | normal => exact absurd mode locked
  | lockdown => simp [ownRecover, State.locked, mode, low]

theorem ownRecover_of_passes (locked : s.lockdown.mode ≠ .normal) (high : s.lockdown.tamperHigh ≠ false)
    (d : Directive) : ownRecover d s = (.answer (.done [s.causeHeld]), s.recover) := by
  cases mode : s.lockdown.mode with
  | normal => exact absurd mode locked
  | lockdown => simp [ownRecover, State.locked, mode, high]

/-- Settles O22, by the tests of R171 in order. -/
theorem recoverReturnsToNormal : Obligations.RecoverReturnsToNormal := by
  intro s d awaits
  refine ⟨_, execRecover_of_awaits awaits, ?_⟩
  have refused (x : Detail) : s.refuses (s.finish d (.refuse .refusedState x)) d .refusedState x 0 :=
    finish_answers (replyGeneration_eq_zero awaits (by decide) s).symm
  split
  case isTrue normal =>
    rw [ownRecover_of_normal normal]
    exact refused .notLocked
  case isFalse locked =>
    split
    case isTrue low =>
      rw [ownRecover_of_tamper locked low]
      exact refused .tamper
    case isFalse high =>
      rw [ownRecover_of_passes locked high]
      exact ⟨rfl, finish_directive awaits (by decide) s.recover _, Touches.changesOnly (by simp [State.conclude])⟩

end Sys2Proof.Machine
end

section
/-! The step takes the command at the front of the queue. -/

namespace Sys2Proof.Machine

/-- Settles O1: on a queue that is not empty the step is the command's, by its first branch. -/
theorem stepRunsTheFrontCommand : Obligations.StepRunsTheFrontCommand :=
  fun _ _ _ => rfl

end Sys2Proof.Machine
end

section
/-! The canonical form of page memory under every step (log 4): a store keeps it, and what stores nothing leaves page
memory as it stands. -/

namespace Sys2Proof.Machine

variable {s t : State}

/-! ### Stores, and operations that store nothing -/

/-- The form speaks of page memory alone: an operation whose footprint leaves memory out keeps it. -/
theorem State.memoryCanonical.of_touches {ps : List Part} (canonical : s.memoryCanonical) (touched : Touches ps s t)
    (apart : .memory ∉ ps) : t.memoryCanonical := by
  have memory : t.memory = s.memory := touched .memory apart
  rw [State.memoryCanonical, memory]
  exact canonical

theorem State.memoryCanonical.store (canonical : s.memoryCanonical) (a : Nat) (bs : List Byte) :
    (s.store a bs).memoryCanonical := wf_store canonical

/-! ### The notice ring (R34, R36) -/

/-- The notice writer stores one entry, or none with the ring unset (R34, R37). -/
theorem memoryCanonical_deliver (q : NoticeRequest) (canonical : s.memoryCanonical) :
    (s.deliver q).memoryCanonical := by
  unfold State.deliver
  split
  case h_1 => exact canonical
  case h_2 r _ =>
    have stored : (s.store (r.base + 32 * r.head) (q.bytes s.now)).memoryCanonical := canonical.store _ _
    exact stored.of_touches (ps := [.directive]) (by simp) (by simp)

theorem memoryCanonical_deliverAll (qs : List NoticeRequest) (canonical : s.memoryCanonical) :
    (s.deliverAll qs).memoryCanonical := by
  induction qs generalizing s with
  | nil => exact canonical
  | cons q qs ih => exact ih (memoryCanonical_deliver q canonical)

theorem memoryCanonical_takeNotice (canonical : s.memoryCanonical) : s.takeNotice.memoryCanonical := by
  unfold State.takeNotice
  split
  · exact canonical
  · exact memoryCanonical_deliver _ canonical

theorem memoryCanonical_ownNote (d : Directive) (canonical : s.memoryCanonical) :
    (ownNote d s).2.memoryCanonical := by
  unfold ownNote
  split
  · exact canonical
  · exact memoryCanonical_deliver _ (memoryCanonical_deliverAll _ canonical)

/-! ### Replies and summaries (R27, R56) -/

theorem memoryCanonical_replyWriteDone (canonical : s.memoryCanonical) : s.replyWriteDone.memoryCanonical := by
  cases writes : s.directive.writes with
  | nil => rwa [State.replyWriteDone, writes]
  | cons w rest =>
    cases w with
    | summary location m => rwa [State.replyWriteDone, writes]
    | reply r =>
      have stored : (s.popWriter.store r.location r.bytes).memoryCanonical := canonical.store _ _
      rw [replyWriteDone_of_reply writes]
      exact stored.of_touches (ps := [.directive]) (by simp [State.replyWritten]) (by simp)

theorem memoryCanonical_summaryWriteDone (canonical : s.memoryCanonical) : s.summaryWriteDone.memoryCanonical := by
  unfold State.summaryWriteDone
  split
  case h_1 location m _ _ =>
    have stored : (s.popWriter.store location m.bytes).memoryCanonical := canonical.store _ _
    exact stored.of_touches (ps := [.directive]) (by simp) (by simp)
  all_goals exact canonical

/-! ### Snapshots (R161, R162) -/

theorem memoryCanonical_snapshotImageCopy (canonical : s.memoryCanonical) :
    s.snapshotImageCopy.memoryCanonical := by
  unfold State.snapshotImageCopy
  split
  case h_1 =>
    split
    · exact canonical.store _ _
    · exact canonical
  all_goals exact canonical

theorem memoryCanonical_compositionEnd (canonical : s.memoryCanonical) : s.compositionEnd.memoryCanonical := by
  unfold State.compositionEnd
  split
  case h_1 =>
    split
    · exact (canonical.store _ _).of_touches (ps := [.meter])
        ((touches_triggerBank _ (by simp)).mpr ((touches_setWork _ (by simp)).mpr (touches_refl _ _))) (by simp)
    · exact canonical
  all_goals exact canonical

/-! ### Transactions (R11, R13) -/

/-- A write forwarded stores its data, a read nothing (R1). -/
theorem memoryCanonical_forward (tr : Transaction) (canonical : s.memoryCanonical) :
    (s.forward tr).memoryCanonical := by
  unfold State.forward
  split
  · exact canonical
  · exact canonical.store _ _

/-- The examination of a CONTROL write stores nothing more (R23). -/
theorem memoryCanonical_passTransaction (tr : Transaction) (role : Role) (canonical : s.memoryCanonical) :
    (s.passTransaction tr role).memoryCanonical := by
  have forwarded := memoryCanonical_forward tr canonical
  unfold State.passTransaction
  split
  · exact forwarded.of_touches (ps := [.directive]) (by simp) (by simp)
  · exact forwarded

/-- A write that fails the key check stores nothing; any other stores its ciphertext (R13, R14). -/
theorem memoryCanonical_encipherWrite (tr : Transaction) (role : Role) (i : Nat) (r : Region)
    (canonical : s.memoryCanonical) : (s.encipherWrite tr role i r).memoryCanonical := by
  unfold State.encipherWrite
  split
  · exact canonical
  · dsimp only
    split
    all_goals exact canonical.store _ _

/-- Every transaction keeps the form, by the treatment selected for it (R1). -/
theorem memoryCanonical_transaction {tr : Transaction} (canonical : s.memoryCanonical)
    (taken : exec (.subordinateTransaction tr) s = .next t) : t.memoryCanonical := by
  rcases transaction_cases taken with
    ⟨reason, region, rfl⟩ | rfl | rfl | ⟨i, r, j, -, -, rfl⟩ | ⟨i, r, j, -, -, rfl⟩
  · exact canonical
  · exact memoryCanonical_passTransaction tr _ canonical
  · exact memoryCanonical_forward tr canonical
  · exact memoryCanonical_encipherWrite tr _ i r canonical
  · exact canonical.of_touches
      (ps := [.transaction, .cipher, .directive, .job, .parser, .charging, .account, .consumable, .link])
      (by simp) (by simp)

/-! ### Every command -/

/-- A directive keeps the form where its owner does. -/
theorem memoryCanonical_runDirective (name : DirectiveName) {owner : Directive → State → Verdict × State}
    (canonical : s.memoryCanonical) (owned : ∀ d, (owner d s).2.memoryCanonical) :
    (s.runDirective name owner).memoryCanonical := by
  unfold State.runDirective
  split
  case h_1 d _ =>
    split
    · split
      · exact canonical.of_touches (ps := [.directive]) (by simp) (by simp)
      · exact (owned d).of_touches (ps := [.directive]) (by simp) (by simp)
    · exact canonical
  case h_2 => exact canonical

/-- Every command keeps the form: seven commands can store, and the footprint of any other leaves page memory out. -/
theorem memoryCanonical_exec {c : Instr} (canonical : s.memoryCanonical) (h : exec c s = .next t) :
    t.memoryCanonical := by
  have kept := exec_footprint h
  cases c with
  | subordinateTransaction tr => exact memoryCanonical_transaction canonical h
  | replyWriteDone => cases h; exact memoryCanonical_replyWriteDone canonical
  | summaryWriteDone => cases h; exact memoryCanonical_summaryWriteDone canonical
  | noticeWrite => cases h; exact memoryCanonical_takeNotice canonical
  | note => cases h; exact memoryCanonical_runDirective _ canonical fun d => memoryCanonical_ownNote d canonical
  | snapshotImageCopy => cases h; exact memoryCanonical_snapshotImageCopy canonical
  | snapshotCompositionEnd => cases h; exact memoryCanonical_compositionEnd canonical
  | _ => exact canonical.of_touches kept (by simp [footprint])

/-- The clock stores nothing (R39). -/
theorem memoryCanonical_tick (canonical : s.memoryCanonical) : s.tick.memoryCanonical := by
  unfold State.tick
  split <;> exact canonical

/-- Settles O55: a command at the front of the queue keeps the canonical form, and so does the clock on an empty
queue. -/
theorem memoryKeepsItsCanonicalForm : Obligations.MemoryKeepsItsCanonicalForm := by
  intro s t canonical h
  cases queue : s.pending with
  | nil =>
    have ticks : step s = .next s.tick := by simp only [step, queue]
    cases ticks.symm.trans h
    exact memoryCanonical_tick canonical
  | cons c rest =>
    have runs : step s = exec c { s with pending := rest } := by rw [← stepRunsTheFrontCommand, ← queue]
    exact memoryCanonical_exec (s := { s with pending := rest }) canonical (runs.symm.trans h)

end Sys2Proof.Machine
end

section
/-! Directives that name an account, at their owner: the general tests and the index (R25, R117), the answers, and the
edit of the record (R117, R125). -/

namespace Sys2Proof.Machine

/-! ### The names -/

/-- The directives that set, adjust, suspend, resume, read and clear accounts. -/
def accountDirectives : List DirectiveName :=
  [.accountSet, .accountAdjust, .accountSuspend, .accountResume, .accountRead, .accountClear]

theorem accountDirective_names_account {name : DirectiveName} (account : name ∈ accountDirectives) :
    DirectiveName.accountSet.code ≤ name.code ∧ name.code ≤ DirectiveName.accountClear.code := by
  revert name
  decide

theorem accountDirective_not_in_lockdown {name : DirectiveName} (account : name ∈ accountDirectives) :
    executedInLockdown name.code = false ∧ name ≠ .setRoles := by
  revert name
  decide

/-! ### The edit of a record -/

/-- The CHECK_GEN test (R29): the flag is set and the generations differ. -/
theorem isStale_iff {d : Directive} {a : Account} :
    d.isStale a = true ↔ d.flags.testBit 0 = true ∧ d.expectedGeneration ≠ a.generation.toNat := by
  simp [Directive.isStale, Directive.checkGen]

/-- An edited record has the edit's fields and the next generation (R117). -/
theorem accountAt_editAccount {i : Nat} (inside : i < 2048) (s : State) (f : Account → Account) :
    (s.editAccount i f).accountAt i = { f (s.accountAt i) with generation := (s.accountAt i).generation + 1 } :=
  tget_tset_same _ _ inside

/-! ### Answers -/

section Answered
variable {s : State} {name : DirectiveName} {d : Directive} {owner : Directive → State → Verdict × State}

/-- The reply to an account directive carries the generation of the account named, and zero where the index names none
(R27, R117). -/
theorem replyGeneration_account (account : name ∈ accountDirectives) (awaits : s.awaitsOwner name d) (x : State) :
    x.replyGeneration d.code d.operands =
      if 2047 < d.arg accountIndexForm 0 then 0 else (x.accountAt (d.arg accountIndexForm 0)).generation := by
  rw [State.replyGeneration, awaits.2, if_pos (accountDirective_names_account account)]
  change (if d.arg accountIndexForm 0 < 2048 then _ else _) = _
  by_cases beyond : 2047 < d.arg accountIndexForm 0
  · rw [if_neg (by omega), if_pos beyond]
  · rw [if_pos (by omega), if_neg beyond]
    rfl

/-- In LOCKDOWN an account directive is answered LOCKED without results (R25, R30). -/
theorem accountDirective_refused_locked (account : name ∈ accountDirectives) (awaits : s.awaitsOwner name d)
    (locked : s.lockdown.mode = .lockdown) :
    s.refuses (s.runDirective name owner) d .locked .none (s.replyGeneration d.code d.operands) := by
  obtain ⟨closed, roles⟩ := accountDirective_not_in_lockdown account
  have answer : s.generalAnswer d .locked .none = .refuse .locked .none := by
    simp only [State.generalAnswer, awaits.2, if_neg (code_eq_setRoles_iff.not.mpr roles)]
    rfl
  rw [runDirective_locked owner awaits locked closed, answer]
  exact finish_answers rfl

/-- An owner that answers a directive naming an account and changes nothing. -/
theorem accountDirective_answers_only {a : Answer} (account : name ∈ accountDirectives) (takes : s.takes name d)
    (inside : ¬2047 < d.arg accountIndexForm 0) (tests : owner d s = (.answer a, s)) :
    s.answers (s.runDirective name owner) d a (s.accountAt (d.arg accountIndexForm 0)).generation [] := by
  rw [runDirective_takes _ takes, tests]
  exact finish_answers ((replyGeneration_account account takes.1 s).trans (if_neg inside)).symm

/-- An owner that answers DONE and edits the account named: the reply carries the generation after the edit (R117). -/
theorem accountDirective_edits {results : List Val} {f : Account → Account} (account : name ∈ accountDirectives)
    (takes : s.takes name d) (inside : ¬2047 < d.arg accountIndexForm 0)
    (tests : owner d s = (.answer (.done results), s.editAccount (d.arg accountIndexForm 0) f)) :
    s.editsAccount (s.runDirective name owner) d (d.arg accountIndexForm 0) results
      (f (s.accountAt (d.arg accountIndexForm 0))) := by
  have generation :
      (s.editAccount (d.arg accountIndexForm 0) f).replyGeneration d.code d.operands =
        (s.accountAt (d.arg accountIndexForm 0)).generation + 1 := by
    rw [replyGeneration_account account takes.1, if_neg inside, accountAt_editAccount (by omega)]
  rw [runDirective_takes _ takes, tests]
  refine ⟨⟨?unit, Touches.changesOnly (by simp [State.conclude])⟩, rfl⟩
  simp only [State.conclude, State.finish, State.reply, generation]
  rfl

/-! ### Tests in order -/

/-- The test of the index: no account is named where it fails, and the reply carries no generation (R117). -/
theorem accountDirective_index {q : Prop} {rest : Verdict × State} (account : name ∈ accountDirectives)
    (takes : s.takes name d)
    (tests : owner d s =
      if 2047 < d.arg accountIndexForm 0 then (.answer (.refuse .refusedRange .badOperand), s) else rest)
    (passes : ¬2047 < d.arg accountIndexForm 0 → owner d s = rest → q) :
    if 2047 < d.arg accountIndexForm 0 then
      s.refuses (s.runDirective name owner) d .refusedRange .badOperand 0
    else q := by
  by_cases beyond : 2047 < d.arg accountIndexForm 0
  · rw [if_pos beyond] at tests ⊢
    rw [runDirective_takes _ takes, tests]
    exact finish_answers ((replyGeneration_account account takes.1 s).trans (if_pos beyond)).symm
  · rw [if_neg beyond] at tests ⊢
    exact passes beyond tests

/-- A test on the account named: the directive is answered where it is met, and otherwise what follows decides. -/
theorem accountDirective_test {p q : Prop} [Decidable p] {a : Answer} {rest : Verdict × State}
    (account : name ∈ accountDirectives) (takes : s.takes name d) (inside : ¬2047 < d.arg accountIndexForm 0)
    (tests : owner d s = if p then (.answer a, s) else rest) (passes : ¬p → owner d s = rest → q) :
    if p then s.answers (s.runDirective name owner) d a (s.accountAt (d.arg accountIndexForm 0)).generation []
    else q := by
  by_cases met : p
  · rw [if_pos met] at tests ⊢
    exact accountDirective_answers_only account takes inside tests
  · rw [if_neg met] at tests ⊢
    exact passes met tests

/-- A directive that names an account: the tests that come first (R25, R117), and what follows for the record. -/
theorem runDirective_namesAccount {own : Verdict × State} {rest : Account → Prop}
    (account : name ∈ accountDirectives) (awaits : s.awaitsOwner name d)
    (named : owner d s =
      if 2047 < d.arg accountIndexForm 0 then (.answer (.refuse .refusedRange .badOperand), s)
      else if d.isStale (s.accountAt (d.arg accountIndexForm 0)) then (.answer (.refuse .stale .none), s)
      else own)
    (follows : s.takes name d → ¬2047 < d.arg accountIndexForm 0 → owner d s = own →
      rest (s.accountAt (d.arg accountIndexForm 0))) :
    s.namesAccount (s.runDirective name owner) d (d.arg accountIndexForm 0) rest := by
  simp only [isStale_iff] at named
  unfold State.namesAccount
  split
  · exact accountDirective_refused_locked account awaits ‹_›
  have takes := takes_of_not_locked awaits ‹_›
  refine accountDirective_index account takes named fun inside named => ?_
  exact accountDirective_test account takes inside named fun _ named => follows takes inside named

end Answered

end Sys2Proof.Machine
end

section
/-! ACCOUNT_SET at the account unit (R118). -/

namespace Sys2Proof.Machine

variable {s : State} {d : Directive}

/-- What is below the floor of a mode: UNMETERED has none (R114). -/
theorem below_floorOf_iff {mode : AccountMode} {limit : Nat} {x : Int} :
    (!atOrAbove (floorOf mode limit) x) = true ↔
      (mode = .prepaid ∧ x < 0) ∨ (mode = .credit ∧ x < -(limit : Int)) := by
  cases mode <;> simp [floorOf, atOrAbove]

/-- The terms taken: an UNUSED record starts afresh and ACTIVE, another keeps its other fields (R118). -/
theorem setTerms_eq (mode : AccountMode) (colour : Bool) (limit : Nat) (a : Account) :
    a.setTerms mode colour limit =
      { (if a.state = .unused then { Account.unused a.generation with state := .active } else a : Account) with
        mode := mode, colour := colour, creditLimit := limit } := by
  cases state : a.state <;> simp [Account.setTerms, state]

theorem flag8_of_le_one {colour : Nat} (isFlag : colour ≤ 1) : flag8 (colour == 1) = u8 colour := by
  obtain rfl | rfl := Nat.le_one_iff_eq_zero_or_eq_one.mp isFlag <;> rfl

/-- The results of ACCOUNT_SET by the terms taken (R118). -/
theorem accountSetResults_setTerms (mode : AccountMode) {colour : Nat} (isFlag : colour ≤ 1) (limit : Nat) (a : Account)
    (generation : BitVec 32) :
    let now := a.setTerms mode (colour == 1) limit
    accountSetResults { now with generation := generation } =
      [u8 now.state.code, u8 mode.code, u8 colour, u32 limit, i32 now.balance, u32 now.reserved,
       i32 (if mode = .credit then -(limit : Int) else 0)] := by
  intro now
  rw [accountSetResults, floorShown_eq, ← flag8_of_le_one isFlag]
  simp only [now, setTerms_eq]

/-- The tests of R118 in order, for a mode that is defined. -/
theorem ownAccountSet_eq {mode : AccountMode} (code : ofCode? AccountMode.all (d.arg accountSetForm 1) = some mode) :
    let i := d.arg accountSetForm 0
    let a := s.accountAt i
    let colour := d.arg accountSetForm 2
    let limit := d.arg accountSetForm 3
    let edited := s.editAccount i (Account.setTerms mode (colour == 1) limit)
    ownAccountSet d s =
      if 2047 < i then (.answer (.refuse .refusedRange .badOperand), s)
      else if 1 < colour ∨ 1000000 < limit then (.answer (.refuse .refusedRange .badOperand), s)
      else if d.flags.testBit 0 = true ∧ d.expectedGeneration ≠ a.generation.toNat then
        (.answer (.refuse .stale .none), s)
      else if mode = .unmetered ∧ a.reserved ≠ 0 then (.answer (.refuse .refusedState .reserved), s)
      else if (mode = .prepaid ∧ a.balance - a.reserved < 0) ∨
          (mode = .credit ∧ a.balance - a.reserved < -(limit : Int)) then
        (.answer (.refuse .refusedRange .floor), s)
      else (.answer (.done (accountSetResults (edited.accountAt i))), edited) := by
  simp only [ownAccountSet, code, isStale_iff, below_floorOf_iff, Account.free, ite_or]

/-- Settles O27, by the tests of R118 in order. -/
theorem accountIsSet : Obligations.AccountIsSet := by
  intro s d takes
  refine ⟨_, rfl, ?_⟩
  intro i a g colour limit
  have account : DirectiveName.accountSet ∈ accountDirectives := by decide
  split
  case h_1 code =>
    have tests : ownAccountSet d s = (.answer (.refuse .refusedRange .badOperand), s) := by
      simp only [ownAccountSet, code]
    show s.refuses (s.runDirective .accountSet ownAccountSet) d _ _ _
    rw [runDirective_takes _ takes, tests]
    exact finish_answers (replyGeneration_account account takes.1 s).symm
  case h_2 mode code =>
    have tests := ownAccountSet_eq (s := s) code
    refine accountDirective_index account takes tests fun (inside : ¬2047 < d.arg accountSetForm 0) tests => ?_
    refine accountDirective_test account takes inside tests fun terms tests => ?_
    iterate 3 refine accountDirective_test account takes inside tests fun _ tests => ?_
    intro kept now
    have isNow : a.setTerms mode (colour == 1) limit = now := setTerms_eq mode (colour == 1) limit a
    rw [accountAt_editAccount (by omega), accountSetResults_setTerms mode (by omega)] at tests
    rw [← isNow]
    exact accountDirective_edits account takes inside tests

end Sys2Proof.Machine
end

section
/-! ACCOUNT_ADJUST at the account unit (R119, R120). -/

namespace Sys2Proof.Machine

variable {s : State} {d : Directive}

/-- What is below the floor of an account, by the floor that a reply shows (R114; log 34). -/
theorem below_floor_iff {a : Account} {x : Int} :
    (!atOrAbove a.floor x) = true ↔ a.mode ≠ .unmetered ∧ x < a.floorShown := by
  unfold Account.floorShown Account.floor
  cases a.mode <;> simp [floorOf, atOrAbove]

theorem floor_eq_some_iff {a : Account} {x : Int} : a.floor = some x ↔ a.mode ≠ .unmetered ∧ x = a.floorShown := by
  unfold Account.floorShown Account.floor
  cases a.mode <;> simp [floorOf, eq_comm]

/-- The result flags on the balance an adjustment gives (R120). -/
theorem adjustFlags_eq (a : Account) (balance : Int) :
    adjustFlags a.mode a.creditLimit a.reserved balance =
      (if balance = 0 then 1 else 0) + (if balance < 0 then 2 else 0) +
        (if a.mode ≠ .unmetered ∧ balance - a.reserved = a.floorShown then 4 else 0) := by
  have atFloor : floorOf a.mode a.creditLimit = some (balance - a.reserved) ↔
      a.mode ≠ .unmetered ∧ balance - a.reserved = a.floorShown := floor_eq_some_iff
  simp only [adjustFlags, atFloor, Bool.toNat, Bool.cond_decide, mul_ite, mul_one, mul_zero]

/-- The tests of R119 in order. -/
theorem ownAccountAdjust_eq (d : Directive) (s : State) :
    let i := d.arg accountAdjustForm 0
    let a := s.accountAt i
    let amount := signed32 (d.arg accountAdjustForm 1)
    let answer := fun (o : OutcomeCode) (detail : Detail) =>
      Verdict.answer ⟨o, detail, layout (accountAdjustResults a amount)⟩
    ownAccountAdjust d s =
      if 2047 < i then (.answer (.refuse .refusedRange .badOperand), s)
      else if d.flags.testBit 0 = true ∧ d.expectedGeneration ≠ a.generation.toNat then (answer .stale .none, s)
      else if a.state = .unused then (answer .refusedState .notInUse, s)
      else if a.balance + amount < -1000000 ∨ 2000000000 < a.balance + amount then
        (answer .refusedRange .balanceRange, s)
      else if a.mode ≠ .unmetered ∧ a.balance + amount - a.reserved < a.floorShown then
        (answer .refusedRange .floor, s)
      else if d.flags.testBit 1 = true ∨ amount = 0 then (answer .done .none, s)
      else (answer .done .none, s.editAccount i fun a => { a with balance := a.balance + amount }) := by
  intro i a amount answer
  simp only [ownAccountAdjust, Account.adjustRefusal, isStale_iff, below_floor_iff, Directive.trial, Bool.or_eq_true,
    decide_eq_true_eq]
  split_ifs <;> rfl

/-- Settles O28, by the tests of R119 in order. -/
theorem accountIsAdjusted : Obligations.AccountIsAdjusted := by
  intro s d takes
  refine ⟨_, rfl, ?_⟩
  intro i a amount balance floor flags results
  have account : DirectiveName.accountAdjust ∈ accountDirectives := by decide
  have shown : a.floorShown = floor := floorShown_eq a
  have carried : accountAdjustResults a amount = results := by
    rw [accountAdjustResults, adjustFlags_eq, shown]
  have tests := ownAccountAdjust_eq d s
  dsimp only at tests
  rw [show accountAdjustResults _ _ = results from carried, show Account.floorShown _ = floor from shown] at tests
  refine accountDirective_index account takes tests fun inside tests => ?_
  iterate 5 refine accountDirective_test account takes inside tests fun _ tests => ?_
  exact accountDirective_edits account takes inside tests

end Sys2Proof.Machine
end

section
/-! ACCOUNT_SUSPEND, ACCOUNT_RESUME and ACCOUNT_CLEAR at the account unit (R121, R123). -/

namespace Sys2Proof.Machine

variable {s : State} {d : Directive}

/-- ACCOUNT_SUSPEND and ACCOUNT_RESUME by the tests of R121 in order. -/
theorem runDirective_changesAccountState {name : DirectiveName} (account : name ∈ accountDirectives)
    (awaits : s.awaitsOwner name d) (target : AccountState) :
    s.changesAccountState (s.runDirective name (changeAccountState target target)) d target := by
  unfold State.changesAccountState
  refine runDirective_namesAccount account awaits rfl fun takes inside tests => ?_
  iterate 2 refine accountDirective_test account takes inside tests fun _ tests => ?_
  exact accountDirective_edits account takes inside tests

theorem orphanNames_iff {i : Nat} :
    s.orphanNames i = true ↔ ∃ h ∈ s.charging.sheets, h.owner = .orphan ∧ h.account = i := by
  simp [State.orphanNames]

/-- Settles O29: the tests of R121 and of R123 follow those of every directive that names an account. -/
theorem accountIsSuspendedResumedAndCleared : Obligations.AccountIsSuspendedResumedAndCleared := by
  refine ⟨?suspend, ?resume, ?clear⟩
  case suspend =>
    intro s d awaits
    exact ⟨_, rfl, runDirective_changesAccountState (by decide) awaits .suspended⟩
  case resume =>
    intro s d awaits
    exact ⟨_, rfl, runDirective_changesAccountState (by decide) awaits .active⟩
  case clear =>
    intro s d awaits
    have account : DirectiveName.accountClear ∈ accountDirectives := by decide
    refine ⟨_, rfl, runDirective_namesAccount account awaits rfl fun takes inside tests => ?_⟩
    simp only [orphanNames_iff] at tests
    iterate 4 refine accountDirective_test account takes inside tests fun _ tests => ?_
    exact accountDirective_edits account takes inside tests

end Sys2Proof.Machine
end

section
/-! PERIOD_CLOSE at the account unit (R124). -/

namespace Sys2Proof.Machine

/-- PERIOD_CLOSE at the account unit, with the accounts in use counted (R124). -/
theorem ownPeriodClose_eq (d : Directive) (s : State) :
    ownPeriodClose d s =
      (.answer (.done
        [u32 (s.account.period + 1).toNat, u16 ((tlist s.account.accounts).countP fun a => a.state != .unused),
         u64 ((tlist s.account.accounts).map Account.periodMono).sum,
         u64 ((tlist s.account.accounts).map Account.periodColour).sum,
         u64 ((tlist s.account.accounts).map Account.periodScan).sum]),
       s.setAccounts
        { accounts := tmap Account.closePeriod s.account.accounts, period := s.account.period + 1,
          pristine := false }) := by
  simp only [ownPeriodClose, State.sumAccounts, sum_toNat_eq_countP]

/-- Settles O30: PERIOD_CLOSE names no account, and closes the period at each entry of the table. -/
theorem periodIsClosed : Obligations.PeriodIsClosed := by
  intro s d takes
  have closed := ownPeriodClose_eq d s
  have unit :
      (s.runDirective .periodClose ownPeriodClose).account =
        { accounts := tmap Account.closePeriod s.account.accounts, period := s.account.period + 1,
          pristine := false } := by
    rw [runDirective_takes _ takes, closed]
    rfl
  refine ⟨_, rfl, runDirective_answers takes closed rfl (by simp) (by decide), ?_, ?_, fun i inside => ?_⟩
  · exact congrArg AccountUnit.period unit
  · exact congrArg AccountUnit.pristine unit
  · rw [State.accountAt, unit]
    exact tget_tmap _ _ inside

end Sys2Proof.Machine
end
